-- ==== Sys2Proof/Word.lean ====
section
/-! DEFINITION. The word types of the VD314: a byte of a trunk line, the 32-bit engine second (R65), and the
numbers that name its objects (00_scope.md, Identifiers). -/

namespace Sys2Proof

/-- One byte of a trunk line or of the store line. -/
abbrev Byte := BitVec 8

/-- An engine second: the count of R65, and every timer mark. -/
abbrev Second := BitVec 32

/-- A reservoir, 0-15. -/
abbrev ResId := Fin 16

/-- A house, 0-11. -/
abbrev HouseId := Fin 12

/-- A pump, 0-31. -/
abbrev PumpId := Fin 32

/-- A pump slot within its house, 0-3. -/
abbrev SlotId := Fin 4

/-- A CALENDAR slot, 0-15. -/
abbrev CalId := Fin 16

/-- A store image, 0-8 (R182). -/
abbrev ImageId := Fin 9

end Sys2Proof
end

