-- ==== Sys2Proof/Syntax.lean ====
section
/-! DEFINITION. The commands of the VD314: one constructor for each row of spec/opcode_table.json. -/

namespace Sys2Proof

/-- The two trunk ports (00_scope.md, Block overview). -/
inductive Port where
  /-- The port facing the outstations. -/
  | field
  /-- The port facing the supervisory master. -/
  | supervisory
  deriving DecidableEq, Repr

/-- What the store line gives for one image read during the restore (R184). -/
inductive StoreRead where
  /-- The store delivers what its image place holds. -/
  | held
  /-- The store delivers these bytes, put there by other means than this part's SAVE. -/
  | bytes (content : List Byte)
  /-- The store does not acknowledge the read. -/
  | noAck
  deriving DecidableEq, Repr

/-- A command: one row of the opcode table. A management request row carries the request's parameters as R176
gives them; an expiry row names the object whose timer it is. -/
inductive Instr where
  /-- POWER_UP (R18, R173): power-up or the reset input, with the strap values read. -/
  | powerUp (address : Byte) (fieldRate supRate : BitVec 2)
  /-- FRAME_ARRIVAL (R166): the CHECK byte arrives on a port. -/
  | frameArrival (port : Port) (check : Byte)
  /-- BAD_LENGTH_BYTE (R165): a byte outside 3-123 arrives where a LENGTH is awaited. -/
  | badLengthByte (port : Port) (byte : Byte)
  /-- GAP_EXPIRY (R165): more than 50 ms without a byte. -/
  | gapExpiry (port : Port)
  /-- FRAMING_ERROR (R165): a byte without its stop bit. -/
  | framingError (port : Port)
  /-- MGMT_REQUEST_MALFORMED (R175): a request frame with these record bytes. -/
  | mgmtRequestMalformed (records : List Byte)
  /-- READ_TABLE (R179). -/
  | readTable (table index count : Byte)
  /-- WRITE_TABLE (R180): the parameters and the bytes of the entries. -/
  | writeTable (table index count : Byte) (entries : List Byte)
  /-- READ_LIVE (R181). -/
  | readLive (view first : Byte)
  /-- SET_TIME (R71). -/
  | setTime (day : BitVec 16) (second : BitVec 24)
  /-- ENGINE_START (R20). -/
  | engineStart
  /-- ENGINE_STOP (R22). -/
  | engineStop
  /-- HOUSE_MODE (R96). -/
  | houseMode (house mode : Byte)
  /-- PUMP_SERVICE_RETURN (R57). -/
  | pumpServiceReturn (pump : Byte)
  /-- PUMP_SERVICE_WITHDRAW (R57). -/
  | pumpServiceWithdraw (pump : Byte)
  /-- SET_RUN_SECONDS (R61). -/
  | setRunSeconds (pump : Byte) (value : BitVec 32)
  /-- ALARM_ACK (R154): one kind and one object. -/
  | alarmAck (kind object : Byte)
  /-- ALARM_ACK_ALL (R154): the object byte is carried and takes no part. -/
  | alarmAckAll (object : Byte)
  /-- RELATCH (R72). -/
  | relatch
  /-- SAVE (R183). -/
  | save
  /-- RESTART (R185). -/
  | restart
  /-- STORE_IMAGE_WRITTEN (R183): the store acknowledges the last byte of the image in hand. -/
  | storeImageWritten
  /-- STORE_FAULT (R183): the store fails to acknowledge a byte of the image in hand. -/
  | storeFault
  /-- RESTORE_IMAGE_READ (R184): the read of the image in hand ends. -/
  | restoreImageRead (read : StoreRead)
  /-- ENGINE_SECOND_ADVANCE (R65). -/
  | engineSecondAdvance
  /-- AUTOMATIC_START (R23): the expiry of settle_s. -/
  | automaticStart
  /-- SILENCE_EXPIRY (R36). -/
  | silenceExpiry (reservoir : ResId)
  /-- LOSS_EXPIRY (R35, R38). -/
  | lossExpiry (reservoir : ResId)
  /-- ESTIMATE_STEP (R42). -/
  | estimateStep (reservoir : ResId)
  /-- STATION_SILENCE_EXPIRY (R64). -/
  | stationSilenceExpiry (house : HouseId)
  /-- START_CONFIRM_EXPIRY (R52). -/
  | startConfirmExpiry (pump : PumpId)
  /-- STOP_CONFIRM_EXPIRY (R53). -/
  | stopConfirmExpiry (pump : PumpId)
  /-- MIN_RUN_EXPIRY (R59). -/
  | minRunExpiry (pump : PumpId)
  /-- MIN_OFF_EXPIRY (R59). -/
  | minOffExpiry (pump : PumpId)
  /-- HISTORY_AGEING (R60). -/
  | historyAgeing (pump : PumpId)
  /-- HOUSE_EVALUATION (R80): a mark of the house is taken. -/
  | houseEvaluation (house : HouseId)
  /-- STAGGER_EXPIRY (R91). -/
  | staggerExpiry (house : HouseId)
  /-- FALLBACK_PHASE_EXPIRY (R86). -/
  | fallbackPhaseExpiry (house : HouseId)
  /-- ROTATION_EXPIRY (R102). -/
  | rotationExpiry (house : HouseId)
  /-- REQUEST_AGEING_EXPIRY (R122). -/
  | requestAgeingExpiry (house : HouseId)
  /-- GRANT_GAP_EXPIRY (R128). -/
  | grantGapExpiry
  /-- REFRESH_EXPIRY (R142). -/
  | refreshExpiry (house : HouseId)
  /-- TRANSMIT_COMPLETION (R171). -/
  | transmitCompletion (port : Port)
  /-- RECEIVED_BYTE (R165). -/
  | receivedByte (port : Port) (byte : Byte)
  deriving DecidableEq, Repr

end Sys2Proof
end

