-- ==== Sys2Proof/Machine/Records.lean ====
section
/-! DEFINITION. The records of the part as plain data: table entries (R3-R9), live records (R24, R45, R63, R76),
the arbiter's, dispatcher's and alarm list's entries (R118, R134, R149), frames and ports (R161-R172), and the
items of the live views (R181). -/

namespace Sys2Proof.Machine

/-! ### Tables -/

/-- Tariff classes, CHEAP = 0, STANDARD = 1, PEAK = 2 (00_scope.md). -/
inductive Tariff where
  | cheap | standard | peak
  deriving DecidableEq, Repr

/-- The eight tables by selector code (R1). -/
inductive TableId where
  | reservoir | house | pump | site | band | draw | calendar | plan
  deriving DecidableEq, Repr

/-- R3. -/
structure ResEntry where
  station : Nat
  channel : Nat
  height : Nat
  zero : Nat
  span : Nat
  rawMin : Nat
  rawMax : Nat
  step : Nat
  litresPerCm : Nat
  emerg : Nat
  overflow : Nat
  dryCut : Nat
  dryHyst : Nat
  silence : Nat
  loss : Nat
  estStep : Nat
  deriving DecidableEq, Repr

/-- R4. `suction` is none for NONE. -/
structure HouseEntry where
  station : Nat
  suction : Option ResId
  delivery : ResId
  maxRun : Nat
  stagger : Nat
  deriving DecidableEq, Repr

/-- R5. `house` is none for NONE (unused). -/
structure PumpEntry where
  house : Option HouseId
  slot : SlotId
  flow : Nat
  power : Nat
  minRun : Nat
  minOff : Nat
  maxStarts : Nat
  deriving DecidableEq, Repr

/-- R6. -/
structure SiteEntry where
  siteLimit : Nat
  fallbackBudget : Nat
  budgetMargin : Nat
  grantGap : Nat
  age : Nat
  refresh : Nat
  hold : Nat
  stationSilence : Nat
  startConfirm : Nat
  stopConfirm : Nat
  supervisor : Nat
  autoRun : Nat
  settle : Nat
  deriving DecidableEq, Repr

/-- R7. -/
structure BandEntry where
  s1 : Nat
  s2 : Nat
  s3 : Nat
  s4 : Nat
  stop : Nat
  hyst : Nat
  deriving DecidableEq, Repr

/-- R8, DRAW. -/
structure DrawEntry where
  cheap : Nat
  standard : Nat
  peak : Nat
  deriving DecidableEq, Repr

/-- R9. `start` is none for UNUSED. -/
structure CalEntry where
  start : Option Nat
  cls : Tariff
  budget : Nat
  deriving DecidableEq, Repr

/-- R8, HOUSEPLAN. -/
structure PlanEntry where
  fallbackOn : Nat
  fallbackOff : Nat
  rotate : Nat
  deriving DecidableEq, Repr

/-- Table memory (R1). -/
structure Tables where
  reservoir : Vector ResEntry 16
  house : Vector HouseEntry 12
  pump : Vector PumpEntry 32
  site : SiteEntry
  band : Vector BandEntry 36
  draw : Vector DrawEntry 16
  calendar : Vector CalEntry 16
  plan : Vector PlanEntry 12
  deriving DecidableEq, Repr

/-! ### Management unit and store interface -/

/-- R17. -/
inductive EngineState where
  | startup | standby | run
  deriving DecidableEq, Repr

/-- R17, automatic start. -/
inductive AutoStart where
  | none | pending | done | cancelled | failed
  deriving DecidableEq, Repr

/-- A table code and an entry index: the cursor (R174) and the last refusal (R17). -/
structure TableRef where
  table : Nat
  index : Nat
  deriving DecidableEq, Repr

/-- R174, last save result other than none. -/
inductive SaveResult where
  | ok | storeFault
  deriving DecidableEq, Repr

/-- R174, store transaction with the image in hand. -/
inductive StoreTx where
  | idle
  | restoring (image : ImageId)
  | saving (image : ImageId)
  deriving DecidableEq, Repr

/-- One image place of the external store (R182, R183): blank, written whole, or left partly written. -/
inductive StoreImage where
  | blank
  | whole (content : List Byte)
  | partly
  deriving DecidableEq, Repr

/-- A key of the level source map (R13). -/
structure LevelKey where
  station : Nat
  channel : Nat
  reservoir : ResId
  deriving DecidableEq, Repr

/-- A key of the pump source map (R13). -/
structure PumpKey where
  station : Nat
  slot : SlotId
  pump : PumpId
  deriving DecidableEq, Repr

/-! ### Clock -/

/-- R67, cause of a latch. -/
inductive LatchCause where
  | powerUp | restart | boundary | setTime | relatch
  deriving DecidableEq, Repr

/-- The period record (R67). `source` is none for FALLBACK. -/
structure Period where
  cls : Tariff
  budget : Nat
  source : Option CalId
  latchedAt : Second
  cause : LatchCause
  deriving DecidableEq, Repr

/-! ### Level monitor -/

/-- R24, source. -/
inductive Source where
  | noData | live | estimated | lost
  deriving DecidableEq, Repr

/-- R24, sensor_state. -/
inductive Sensor where
  | ok | faultBelow | faultAbove
  deriving DecidableEq, Repr

/-- The reservoir live record (R24); `emergLow` is the EMERGENCY_LOW condition held (R33). -/
structure Reservoir where
  level : Nat
  source : Source
  lastAccept : Second
  pending : Option Nat
  residue : Int
  sensor : Sensor
  lastRaw : Option Nat
  stepMark : Second
  emergLow : Bool
  deriving DecidableEq, Repr

/-! ### Pump supervision -/

/-- R45, run state. -/
inductive RunState where
  | unused | unknown | stopped | startOrdered | running | stopOrdered
  deriving DecidableEq, Repr

/-- R45, order state. -/
inductive OrderState where
  | none | queued | taken | transmitted
  deriving DecidableEq, Repr

/-- R45, panel mode. -/
inductive Panel where
  | remote | hand | off
  deriving DecidableEq, Repr

/-- R45, service state. -/
inductive Service where
  | inService | withdrawn | failed
  deriving DecidableEq, Repr, Inhabited

/-- Urgency levels (00_scope.md), lowest first. -/
inductive Urgency where
  | rotate | fill | demand | emergency
  deriving DecidableEq, Repr

/-- The pump live record (R45); `stopExpired` says that the stop confirm timer has expired in REMOTE with the stop
still in force, which is the STOP_FAIL condition (R53), and `minRunOpen` and `minOffOpen` that the expiry of the limit in
force has not come (R59). -/
structure Pump where
  run : RunState
  commanded : Bool
  order : OrderState
  held : Bool
  panel : Option Panel
  fault : Option Nat
  service : Service
  runStart : Second
  stopMark : Option Second
  orderTx : Option Second
  confirmMark : Option Second
  runSeconds : Nat
  accrualMark : Second
  lastRun : Option Nat
  history : List Second
  admission : Option Urgency
  stopExpired : Bool
  minRunOpen : Bool
  minOffOpen : Bool
  deriving DecidableEq, Repr

/-- R63, station state. -/
inductive StationState where
  | heard | silent
  deriving DecidableEq, Repr

/-- The station live record of a house (R63). -/
structure Station where
  state : StationState
  lastHeard : Second
  deriving DecidableEq, Repr

/-! ### House evaluator -/

/-- R76, house mode. -/
inductive Mode where
  | auto | manual | out
  deriving DecidableEq, Repr

/-- R76, need. -/
inductive Need where
  | none | fill | demand | emergency
  deriving DecidableEq, Repr

/-- R76, protection. -/
inductive Protection where
  | none | suctionLost | dryTrip | overflow
  deriving DecidableEq, Repr

/-- R76, fallback phase. -/
inductive Phase where
  | none | on | off
  deriving DecidableEq, Repr

/-- R76, start in flight. -/
inductive StartFlight where
  | none
  | requested (pump : PumpId)
  | granted (pump : PumpId)
  | transmitted (pump : PumpId)
  deriving DecidableEq, Repr

/-- R76 and R104, changeover with the old and the new pump. -/
inductive Changeover where
  | none
  | startingNew (old new : PumpId)
  | stoppingOld (old new : PumpId)
  deriving DecidableEq, Repr

/-- R76 and R91, what the house waits for. -/
inductive WaitKind where
  | none | stagger | minOff | history | minRun | station
  deriving DecidableEq, Repr

/-- R91: the wait, with the second at which it ends where known. -/
structure Wait where
  kind : WaitKind
  ends : Option Second
  deriving DecidableEq, Repr

/-- The house live record (R76). `phaseLen` is the length in force of the fallback phase, read at the last evaluation
(R86); `rotAt` and `staggerAt` are the seconds of the rotation and stagger expiries that are to come, by the lengths read at
the last evaluation (R91, R102); `overflow` and `short` are the OVERFLOW_HIGH and HOUSE_SHORT conditions held (R82, R95). -/
structure House where
  mode : Mode
  stages : Nat
  target : Nat
  commanded : Nat
  usable : Nat
  need : Need
  protection : Protection
  dryLatch : Bool
  phase : Phase
  phaseMark : Option Second
  phaseLen : Nat
  start : StartFlight
  change : Changeover
  lastStartTx : Second
  wait : Wait
  rotMark : Option Second
  rotAt : Option Second
  staggerAt : Option Second
  overflow : Bool
  short : Bool
  deriving DecidableEq, Repr

/-- R77, activity. -/
inductive Activity where
  | silent | released | tripped | fallback | changeover | starting | stopping | waiting | pumping | idle
  deriving DecidableEq, Repr

/-! ### Start arbiter -/

/-- A request entry (R118). -/
structure Request where
  house : HouseId
  pump : PumpId
  power : Nat
  need : Urgency
  aged : Urgency
  enqueue : Second
  ageMark : Second
  deriving DecidableEq, Repr

/-- R116, grant window. -/
inductive Window where
  | isOpen | closed
  deriving DecidableEq, Repr

/-- The arbiter record (R116); `overBudget` is the BUDGET_OVER condition held (R132). -/
structure Arbiter where
  requests : List Request
  window : Window
  lastGrantMark : Second
  lastGrant : Option (HouseId × PumpId)
  shedWait : Option Second
  overBudget : Bool
  deriving DecidableEq, Repr

/-! ### Dispatcher -/

/-- The order of one slot (chapter 8, introduction). -/
inductive Order where
  | run | stop | localControl
  deriving DecidableEq, Repr

/-- R134, entry kind. -/
inductive DispKind where
  | orders | release
  deriving DecidableEq, Repr

/-- A dispatch entry (R134). -/
structure DispEntry where
  house : HouseId
  dest : Nat
  kind : DispKind
  orders : Vector Order 4
  hold : Nat
  startMarks : Vector Bool 4
  stopMarks : Vector Bool 4
  enqueue : Second
  deriving DecidableEq, Repr

/-- The dispatcher record (R134, R135). -/
structure Dispatcher where
  queue : List DispEntry
  inTx : Option DispEntry
  lastSent : Vector (Option (Vector Order 4)) 12
  refresh : Vector (Option Second) 12
  deriving DecidableEq, Repr

/-! ### Alarm list -/

/-- The fourteen alarm kinds in the order of section 9.1. -/
inductive AlarmKind where
  | levelSensor | levelEstimated | levelLost | emergencyLow | overflowHigh | dryRunTrip | houseShort
  | stationSilent | startFail | stopFail | uncommandedRun | unexpectedStop | pumpFault | budgetOver
  deriving DecidableEq, Repr

/-- R149, entry state. -/
inductive AlarmState where
  | activeUnacked | activeAcked | clearedUnacked
  deriving DecidableEq, Repr

/-- R149, raised time. -/
inductive Stamp where
  | calendar (day second : Nat)
  | unset (second : Second)
  deriving DecidableEq, Repr

/-- R149, side. -/
inductive Side where
  | none | below | above
  deriving DecidableEq, Repr

/-- An alarm entry (R149). -/
structure AlarmEntry where
  kind : AlarmKind
  object : Nat
  state : AlarmState
  raised : Stamp
  side : Side
  value : Option Nat
  repeats : Nat
  deriving DecidableEq, Repr

/-- R156, the event of an alarm notice. -/
inductive NoticeEvent where
  | raised | reRaised | cleared
  deriving DecidableEq, Repr

/-- R156, the state field of an alarm notice. -/
inductive NoticeState where
  | activeUnacked | clearedUnacked | removed
  deriving DecidableEq, Repr

/-- The record of a NOTICE frame: an alarm notice (R156) or a refusal (R147). -/
inductive NoticeBody where
  | alarm (event : NoticeEvent) (kind : AlarmKind) (object : Nat) (state : NoticeState) (raised : Stamp)
      (side : Side) (value : Option Nat) (repeats : Nat) (overflow : Bool)
  | refusal (dest src : Byte) (house : HouseId) (second : Second)
  deriving DecidableEq, Repr

/-- A NOTICE frame as built (R156). -/
structure Notice where
  dest : Nat
  src : Byte
  body : NoticeBody
  deriving DecidableEq, Repr

/-- The alarm list with its notice queue (R150, R157). -/
structure Alarms where
  entries : List AlarmEntry
  overflow : Bool
  overrun : Bool
  notices : List Notice
  deriving DecidableEq, Repr

/-! ### Port counters and receivers -/

/-- R165, receiver state. -/
inductive RxState where
  | hunt | length | body | check
  deriving DecidableEq, Repr

/-- R172, the six counters of a port. -/
structure Counters where
  good : Nat
  checkFail : Nat
  lengthDrop : Nat
  abandon : Nat
  forwardDrop : Nat
  sent : Nat
  deriving DecidableEq, Repr

/-! ### Live views (R181) -/

/-- R181, ENGINE item 0. -/
structure EngineView where
  engine : EngineState
  autoStart : AutoStart
  settleMark : Second
  lastRefusal : Option TableRef
  ownAddr : Byte
  now : Second
  timeSet : Bool
  sod : Nat
  day : Nat
  period : Period
  budget : Nat
  cursor : TableRef
  lastSave : Option SaveResult
  storeTx : StoreTx
  deriving DecidableEq, Repr

/-- R181, ARBITER item 0 (R116). -/
structure ArbiterView where
  requests : Nat
  window : Window
  lastGrantMark : Second
  lastGrant : Option (HouseId × PumpId)
  shedWait : Option Second
  siteLoad : Nat
  projected : Nat
  budget : Nat
  margin : Nat
  elapsed : Nat
  overBudget : Bool
  deriving DecidableEq, Repr

/-- R172 and R181, an item of the PORTS view. -/
structure PortView where
  counters : Counters
  rx : RxState
  forwarded : Nat
  sending : Option Byte
  runCount : Nat
  rate : BitVec 2
  deriving DecidableEq, Repr

/-- One item of a live view as read (R181), each with the contents its chapter gives. -/
inductive LiveItem where
  | engine (v : EngineView)
  | reservoir (r : Reservoir) (elapsed : Nat)
  | house (h : House) (activity : Activity) (station : Option (StationState × Nat))
  | pump (p : Pump) (fails : Option Nat)
  | arbiter (v : ArbiterView)
  | request (e : Request) (effective : Urgency) (fails : Option Nat)
  | dispatchHouse (lastSent : Option (Vector Order 4)) (refresh : Option Second) (elapsed : Option Nat)
  | dispatchInTx (e : Option DispEntry)
  | dispatchEntry (e : DispEntry)
  | alarmSummary (entries : Nat) (overflow overrun : Bool) (notices : Nat)
  | alarm (e : AlarmEntry)
  | port (v : PortView)
  deriving DecidableEq, Repr

/-! ### Responses, transmitters and ports -/

/-- R177, result codes. -/
inductive Result where
  | ok | unknownRequest | badFormat | badTable | badIndex | badValue | wrongState | busy | storeFault | notFound
  deriving DecidableEq, Repr

/-- The data of a response record (R164, R179, R180, R181). Entries are the words of R178. -/
inductive RespData where
  | none
  | failedAt (table index : Nat)
  | entries (table first : Nat) (words : List (List Nat))
  | written (table first count : Nat)
  | live (view first : Nat) (next : Nat) (items : List LiveItem)
  deriving DecidableEq, Repr

/-- A MGMT_RESPONSE frame as built (R175). -/
structure Response where
  dest : Nat
  src : Byte
  code : Byte
  result : Result
  data : RespData
  deriving DecidableEq, Repr

/-- A frame that a transmitter sends (R171): forwarded byte for byte, or originated by the part. -/
inductive TxFrame where
  | forwarded (bytes : List Byte)
  | dispatch (src : Byte) (entry : DispEntry)
  | response (r : Response)
  | notice (n : Notice)
  deriving DecidableEq, Repr

/-- One trunk port (R165, R168, R169-R173). `fwd` holds the frames waiting to leave this port; `runCount` is the
dispatch run count of the field port and the notice run count of the supervisory port. -/
structure PortState where
  rx : RxState
  buf : List Byte
  fwd : List (List Byte)
  tx : Option TxFrame
  runCount : Nat
  counters : Counters
  rate : BitVec 2
  deriving DecidableEq, Repr

end Sys2Proof.Machine
end

