-- ==== Sys2Proof/Machine/State.lean ====
section
/-! DEFINITION. The state of the VD314, the reasons a step can stop, and the state right after power-up. -/

namespace Sys2Proof.Machine

/-- No rule of the spec stops the part: there is no fault. -/
inductive Fault where
  deriving DecidableEq, Repr

/-- The only refusal is the host's. -/
inductive Refusal where
  /-- Raised by an arm of `exec` whose command has no meaning yet; no arm raises it. Safe. -/
  | notModelled (mnemonic : String)
  deriving DecidableEq, Repr

/-- Every piece of state the spec gives the part (INVENTORY.md, State), and the queue of waiting commands. -/
structure State where
  engine : EngineState
  autoStart : AutoStart
  settleMark : Second
  lastRefusal : Option TableRef
  cursor : TableRef
  responses : List Response
  lastSave : Option SaveResult
  tables : Tables
  levelMap : List LevelKey
  pumpMap : List PumpKey
  storeTx : StoreTx
  imagesGood : Bool
  saveContent : List (List Byte)
  store : Vector StoreImage 9
  now : Second
  timeSet : Bool
  sod : Nat
  day : Nat
  period : Period
  reservoirs : Vector Reservoir 16
  pumps : Vector Pump 32
  stations : Vector Station 12
  houses : Vector House 12
  marks : List HouseId
  arbiter : Arbiter
  dispatcher : Dispatcher
  alarms : Alarms
  field : PortState
  sup : PortState
  ownAddr : Byte
  pending : List Instr
  deriving DecidableEq, Repr

/-! ### The cleared tables (R2) -/

def ResEntry.cleared : ResEntry := ⟨0, 0, 0, 0, 0, 0, 0, 0, 0, 0, 0, 0, 0, 0, 0, 0⟩

def HouseEntry.cleared : HouseEntry := ⟨0, some 0, 0, 0, 0⟩

def PumpEntry.cleared : PumpEntry := ⟨none, 0, 0, 0, 0, 0, 0⟩

def SiteEntry.cleared : SiteEntry := ⟨0, 0, 0, 0, 0, 0, 0, 0, 0, 0, 0, 0, 0⟩

def BandEntry.cleared : BandEntry := ⟨0, 0, 0, 0, 0, 0⟩

def DrawEntry.cleared : DrawEntry := ⟨0, 0, 0⟩

def CalEntry.cleared : CalEntry := ⟨none, .cheap, 0⟩

def PlanEntry.cleared : PlanEntry := ⟨0, 0, 0⟩

/-- Every table cleared (R2). -/
def Tables.cleared : Tables where
  reservoir := .replicate 16 .cleared
  house := .replicate 12 .cleared
  pump := .replicate 32 .cleared
  site := .cleared
  band := .replicate 36 .cleared
  draw := .replicate 16 .cleared
  calendar := .replicate 16 .cleared
  plan := .replicate 12 .cleared

/-! ### Records after power-up -/

/-- R25, for a record that begins at second `at_`. -/
def Reservoir.fresh (at_ : Second) : Reservoir := ⟨0, .noData, at_, none, 0, .ok, none, 0, false⟩

/-- R46, after power-up, with the run seconds and service state given. -/
def Pump.fresh (run : RunState) (runSeconds : Nat) (service : Service) : Pump where
  run := run
  commanded := false
  order := .none
  held := false
  panel := none
  fault := none
  service := service
  runStart := 0
  stopMark := none
  orderTx := none
  confirmMark := none
  runSeconds := runSeconds
  accrualMark := 0
  lastRun := none
  history := []
  admission := none
  stopExpired := false
  minRunOpen := false
  minOffOpen := false

/-- R63. -/
def Station.fresh (at_ : Second) : Station := ⟨.heard, at_⟩

/-- R78, with the mode and the last_start_tx mark given. -/
def House.fresh (mode : Mode) (lastStartTx : Second) : House where
  mode := mode
  stages := 0
  target := 0
  commanded := 0
  usable := 0
  need := .none
  protection := .none
  dryLatch := false
  phase := .none
  phaseMark := none
  phaseLen := 0
  start := .none
  change := .none
  lastStartTx := lastStartTx
  wait := ⟨.none, none⟩
  rotMark := none
  rotAt := none
  staggerAt := none
  overflow := false
  short := false

/-- R117: the values before the latch of the reset recomputes the window. -/
def Arbiter.fresh : Arbiter := ⟨[], .closed, 0, none, none, false⟩

/-- R135. -/
def Dispatcher.fresh : Dispatcher := ⟨[], none, .replicate 12 none, .replicate 12 none⟩

/-- R159. -/
def Alarms.fresh : Alarms := ⟨[], false, false, []⟩

def Counters.zero : Counters := ⟨0, 0, 0, 0, 0, 0⟩

/-- R172, with the rate read from the straps. -/
def PortState.fresh (rate : BitVec 2) : PortState := ⟨.hunt, [], [], none, 0, .zero, rate⟩

/-- The period record latched from the fallback of a cleared SITE at power-up (R73). -/
def Period.atPowerUp : Period := ⟨.standard, 0, none, 0, .powerUp⟩

/-- The machine right after power-up. DESIGN CHOICE (logs 1 and 2), unsafe: the straps give the own address 100 and
rate code 0 on both ports, and the external store is blank. -/
def State.reset : State where
  engine := .startup
  autoStart := .none
  settleMark := 0
  lastRefusal := none
  cursor := ⟨0, 0⟩
  responses := []
  lastSave := none
  tables := .cleared
  levelMap := []
  pumpMap := []
  storeTx := .restoring 0
  imagesGood := true
  saveContent := []
  store := .replicate 9 .blank
  now := 0
  timeSet := false
  sod := 0
  day := 0
  period := .atPowerUp
  reservoirs := .replicate 16 (.fresh 0)
  pumps := .replicate 32 (.fresh .unused 0 .inService)
  stations := .replicate 12 (.fresh 0)
  houses := .replicate 12 (.fresh .auto 0)
  marks := []
  arbiter := .fresh
  dispatcher := .fresh
  alarms := .fresh
  field := .fresh 0
  sup := .fresh 0
  ownAddr := 100
  pending := []

end Sys2Proof.Machine
end

