-- ==== Sys2Proof/Machine/Flags.lean ====
section
/-! DEFINITION. What the blocks compute from the state without changing it: timers, table lookups, loads and budget
(R62, R67), eligibility (R58), counts and activity (R76, R77), estimability (R37), the fit of a request (R125), the
active calendar entry (R68) and the derived orders (R136). -/

namespace Sys2Proof.Machine

/-! ### Objects and timers -/

def State.res (s : State) (r : ResId) : Reservoir := s.reservoirs.get r

def State.pump (s : State) (p : PumpId) : Pump := s.pumps.get p

def State.house (s : State) (h : HouseId) : House := s.houses.get h

def State.station (s : State) (h : HouseId) : Station := s.stations.get h

def State.resE (s : State) (r : ResId) : ResEntry := s.tables.reservoir.get r

def State.houseE (s : State) (h : HouseId) : HouseEntry := s.tables.house.get h

def State.pumpE (s : State) (p : PumpId) : PumpEntry := s.tables.pump.get p

def State.planE (s : State) (h : HouseId) : PlanEntry := s.tables.plan.get h

def State.drawE (s : State) (r : ResId) : DrawEntry := s.tables.draw.get r

def State.site (s : State) : SiteEntry := s.tables.site

/-- The place of a house's BAND entry for a class: house × 3 + class (R7). -/
def bandIndex (h : HouseId) (c : Tariff) : Fin 36 :=
  match c with
  | .cheap => ⟨h.val * 3, by omega⟩
  | .standard => ⟨h.val * 3 + 1, by omega⟩
  | .peak => ⟨h.val * 3 + 2, by omega⟩

def State.bandE (s : State) (h : HouseId) (c : Tariff) : BandEntry := s.tables.band.get (bandIndex h c)

/-- Used markers (R2). -/
def ResEntry.used (e : ResEntry) : Bool := e.station != 0

def HouseEntry.used (e : HouseEntry) : Bool := e.station != 0

def PumpEntry.used (e : PumpEntry) : Bool := e.house.isSome

def CalEntry.used (e : CalEntry) : Bool := e.start.isSome

/-- Elapsed time of a mark: the current engine second less the mark, modulo 2³² (00_scope.md, Engine seconds). -/
def State.since (s : State) (mark : Second) : Nat := (s.now - mark).toNat

/-- The comparison of every timer: elapsed ≥ length. -/
def State.reached (s : State) (mark : Second) (length : Nat) : Bool := length ≤ s.since mark

/-- The second at which the elapsed time first reaches the length, for a length not reached when the timer begins
(R65, R59). -/
def State.firstReached (s : State) (mark : Second) (length : Nat) : Bool := s.since mark == length && length != 0

/-- The second at which a timer of this mark and length ends. -/
def endOf (mark : Second) (length : Nat) : Second := mark + BitVec.ofNat 32 length

def allRes : List ResId := List.finRange 16
def allHouses : List HouseId := List.finRange 12
def allPumps : List PumpId := List.finRange 32
def allSlots : List SlotId := List.finRange 4

/-! ### Houses and their pumps -/

/-- The used pumps of a house, in ascending number. -/
def State.pumpsOf (s : State) (h : HouseId) : List PumpId := allPumps.filter fun p => (s.pumpE p).house == some h

/-- A house whose marks are evaluated: used, AUTO, with the engine in RUN (R79; log 18). -/
def State.active (s : State) (h : HouseId) : Bool :=
  s.engine == .run && (s.houseE h).used && (s.house h).mode == .auto

/-- The used houses that name the reservoir as delivery or as suction (R32). -/
def State.concerned (s : State) (r : ResId) : List HouseId :=
  allHouses.filter fun h =>
    (s.houseE h).used && ((s.houseE h).delivery == r || (s.houseE h).suction == some r)

/-- The used pump that stands in a slot of a house, the lowest-numbered where tables not yet checked give two. -/
def State.pumpAt (s : State) (h : HouseId) (k : SlotId) : Option PumpId :=
  allPumps.find? fun p => (s.pumpE p).house == some h && (s.pumpE p).slot == k

/-! ### Run state, load and budget (R62, R67) -/

/-- Site load counts these run states (R62). -/
def RunState.loads : RunState → Bool
  | .startOrdered | .running | .stopOrdered => true
  | .unused | .unknown | .stopped => false

/-- The pump is RUNNING and commanded; a STOP_ORDERED pump is not RUNNING. -/
def Pump.commandedRunning (p : Pump) : Bool := p.run == .running && p.commanded

/-- R76: counted in the commanded count C. -/
def Pump.counted (p : Pump) : Bool := p.run == .startOrdered || p.commandedRunning

/-- The pump's panel is in HAND or OFF. -/
def Pump.isLocal (p : Pump) : Bool := p.panel == some .hand || p.panel == some .off

/-- Site load (R62). -/
def State.siteLoad (s : State) : Nat :=
  (allPumps.map fun p => if (s.pumpE p).used && (s.pump p).run.loads then (s.pumpE p).power else 0).sum

/-- The power of the pumps in STOP_ORDERED (R62). -/
def State.stoppingLoad (s : State) : Nat :=
  (allPumps.map fun p => if (s.pumpE p).used && (s.pump p).run == .stopOrdered then (s.pumpE p).power else 0).sum

/-- Projected load: site load less the power of the pumps in STOP_ORDERED (R62). -/
def State.projectedLoad (s : State) : Nat := s.siteLoad - s.stoppingLoad

/-- The effective budget: the lesser of budget_kw and the site limit (R67). -/
def State.budget (s : State) : Nat := min s.period.budget s.site.siteLimit

/-! ### Motor limits, eligibility and counts (R58-R60, R76, R95) -/

/-- Min-run has elapsed (R59). -/
def State.minRunDone (s : State) (p : PumpId) : Bool := s.reached (s.pump p).runStart (s.pumpE p).minRun

/-- Min-off has elapsed, or no stop is marked (R59). -/
def State.minOffDone (s : State) (p : PumpId) : Bool :=
  match (s.pump p).stopMark with
  | none => true
  | some m => s.reached m (s.pumpE p).minOff

/-- The history holds fewer than max_starts entries (R58, R60). -/
def State.historyRoom (s : State) (p : PumpId) : Bool := (s.pump p).history.length < (s.pumpE p).maxStarts

/-- The station of the pump's house is HEARD (R58, condition 7). -/
def State.stationHeard (s : State) (p : PumpId) : Bool :=
  match (s.pumpE p).house with
  | none => false
  | some h => (s.station h).state == .heard

/-- The first condition of R58, in its order, that the pump fails; none for an eligible pump. -/
def State.ineligible (s : State) (p : PumpId) : Option Nat :=
  let q := s.pump p
  if q.run ≠ .stopped then some 1
  else if q.panel ≠ some .remote then some 2
  else if q.fault ≠ some 0 then some 3
  else if q.service ≠ .inService then some 4
  else if !s.minOffDone p then some 5
  else if !s.historyRoom p then some 6
  else if !s.stationHeard p then some 7
  else none

/-- R58. -/
def State.eligible (s : State) (p : PumpId) : Bool := (s.ineligible p).isNone

/-- Usable: IN_SERVICE, REMOTE, fault 0 (R58, R76). -/
def Pump.isUsable (p : Pump) : Bool := p.service == .inService && p.panel == some .remote && p.fault == some 0

/-- The commanded count C (R76). -/
def State.commandedCount (s : State) (h : HouseId) : Nat := (s.pumpsOf h).countP fun p => (s.pump p).counted

/-- The usable count (R76). -/
def State.usableCount (s : State) (h : HouseId) : Nat := (s.pumpsOf h).countP fun p => (s.pump p).isUsable

/-- The usable count of the shortage test, in which an UNKNOWN pump counts (R95), one whose service state is FAILED or
WITHDRAWN too (DESIGN CHOICE, log 34). -/
def State.shortCount (s : State) (h : HouseId) : Nat :=
  (s.pumpsOf h).countP fun p => (s.pump p).isUsable || (s.pump p).run == .unknown

/-- The changeover count K (R104): commanded pumps other than the old and the new, plus one. -/
def State.changeCount (s : State) (h : HouseId) (old new : PumpId) : Nat :=
  ((s.pumpsOf h).countP fun p => p ≠ old && p ≠ new && (s.pump p).counted) + 1

/-- Run seconds brought up to date to the current second, saturating (R61). -/
def State.runSecondsNow (s : State) (p : PumpId) : Nat :=
  let q := s.pump p
  if q.run == .running || q.run == .stopOrdered then min (q.runSeconds + s.since q.accrualMark) 4294967295
  else q.runSeconds

/-! ### Levels (R37, R80) -/

/-- A level is usable while its source is LIVE or ESTIMATED (R80). -/
def Source.usable : Source → Bool
  | .live | .estimated => true
  | .noData | .lost => false

/-- Reservoir records are in service while their entry is used and STARTUP has ended (R24, R25). -/
def State.resInService (s : State) (r : ResId) : Bool := (s.resE r).used && s.engine != .startup

/-- R37. The second condition holds in LIVE and ESTIMATED, where the test is made. -/
def State.estimable (s : State) (r : ResId) : Bool :=
  s.engine != .startup && (s.res r).source.usable
    && (s.concerned r).all fun h => (s.station h).state == .heard

/-- The suction reservoir of a house keeps it stopped: LOST or NO_DATA, or at or below its dry-run cutoff (R138). -/
def State.suctionGuard (s : State) (h : HouseId) : Bool :=
  match (s.houseE h).suction with
  | none => false
  | some r => !(s.res r).source.usable || (s.res r).level ≤ (s.resE r).dryCut

/-! ### Urgency and need -/

def Urgency.rank : Urgency → Nat
  | .rotate => 0
  | .fill => 1
  | .demand => 2
  | .emergency => 3

def Need.rank : Need → Nat
  | .none => 0
  | .fill => 1
  | .demand => 2
  | .emergency => 3

/-- The urgency a request carries for a need. A house that places a request outside rotation has a need (R89). -/
def Need.urgency : Need → Urgency
  | .none => .rotate
  | .fill => .fill
  | .demand => .demand
  | .emergency => .emergency

/-- The greater of two urgencies. -/
def Urgency.greater (a b : Urgency) : Urgency := if a.rank < b.rank then b else a

/-- The effective urgency of an entry (R118). -/
def Request.effective (e : Request) : Urgency := e.need.greater e.aged

/-- The aged urgency after an ageing expiry (R122), by its table: at an effective urgency of DEMAND or EMERGENCY it stays as
it is, where the rule's words would make it DEMAND (log 35). -/
def Request.agedUp (e : Request) : Urgency :=
  match e.effective with
  | .rotate => .fill
  | .fill => .demand
  | .demand | .emergency => e.aged

/-! ### The fit of a request (R125) -/

/-- R125, test 2: the new pump of a STARTING_NEW changeover may reach max_run + 1. -/
def State.countFits (s : State) (e : Request) : Bool :=
  let spare :=
    match (s.house e.house).change with
    | .startingNew _ new => if new = e.pump then 1 else 0
    | _ => 0
  s.commandedCount e.house + 1 ≤ (s.houseE e.house).maxRun + spare

/-- R125, test 3. -/
def State.powerFits (s : State) (e : Request) : Bool :=
  (e.effective == .emergency && s.siteLoad + e.power ≤ s.site.siteLimit)
    || (s.arbiter.window == .isOpen && s.siteLoad + e.power ≤ s.budget)

/-- The first test of R125 that an entry fails; none where it fits. -/
def State.unfit (s : State) (e : Request) : Option Nat :=
  if !s.eligible e.pump then some 1
  else if !s.countFits e then some 2
  else if !s.powerFits e then some 3
  else none

/-- R125. -/
def State.fits (s : State) (e : Request) : Bool := (s.unfit e).isNone

/-- The better of two fitting entries: higher effective urgency, else the earlier in the list (R126). -/
def betterRequest (best : Option Request) (e : Request) : Option Request :=
  match best with
  | none => some e
  | some b => if b.effective.rank < e.effective.rank then some e else some b

/-- The winner among the entries that fit (R126). -/
def State.winner (s : State) : Option Request :=
  (s.arbiter.requests.filter fun e => s.fits e).foldl betterRequest none

/-- The request entry of a house. -/
def State.requestOf (s : State) (h : HouseId) : Option Request := s.arbiter.requests.find? fun e => e.house = h

/-! ### Shedding order (R129, R130) -/

/-- R129: RUNNING and commanded in an AUTO house whose need is not EMERGENCY, whatever its min-run. -/
def State.shedable (s : State) (p : PumpId) : Bool :=
  match (s.pumpE p).house with
  | none => false
  | some h =>
    (s.pump p).commandedRunning && (s.houseE h).used && (s.house h).mode == .auto && (s.house h).need != .emergency

/-- R130, item 2: stop_cm less Ld in the class in force; none where the delivery level is not usable. -/
def State.stopMargin (s : State) (h : HouseId) : Option Int :=
  let r := (s.houseE h).delivery
  if (s.res r).source.usable then some (((s.bandE h s.period.cls).stop : Int) - (s.res r).level) else none

/-- R130, items 1 and 2, for the pumps' houses: the first is shed strictly before the second. -/
def State.shedBefore (s : State) (h g : HouseId) : Bool :=
  (s.house h).need.rank < (s.house g).need.rank
    || ((s.house h).need.rank == (s.house g).need.rank
      && (match s.stopMargin h, s.stopMargin g with
        | some a, some b => decide (a < b)
        | some _, none => true
        | none, _ => false))

/-- The earlier of two candidates in shedding order; the first argument has the lower pump id (R130, item 3). -/
def State.shedPick (s : State) (best : Option PumpId) (p : PumpId) : Option PumpId :=
  match best with
  | none => some p
  | some b =>
    match (s.pumpE p).house, (s.pumpE b).house with
    | some hp, some hb => if s.shedBefore hp hb then some p else some b
    | _, _ => some b

/-- The next pump to shed (R130). -/
def State.shedNext (s : State) : Option PumpId :=
  (allPumps.filter fun p => s.shedable p && s.minRunDone p).foldl s.shedPick none

/-- The earlier of two ends of a time that has not yet come, by the time left. -/
def State.sooner (s : State) (best : Option (Nat × Second)) (mark : Second) (length : Nat) : Option (Nat × Second) :=
  let left := length - s.since mark
  match best with
  | none => some (left, endOf mark length)
  | some (l, e) => if left < l then some (left, endOf mark length) else some (l, e)

/-- The earliest min-run end among pumps (R91, R131). -/
def State.minRunEnd (s : State) (ps : List PumpId) : Option Second :=
  (ps.foldl (fun b p => s.sooner b (s.pump p).runStart (s.pumpE p).minRun) none).map (·.2)

/-- R131: the earliest min-run end among the pumps excluded only by their min-run. -/
def State.shedEnd (s : State) : Option Second :=
  s.minRunEnd (allPumps.filter fun p => s.shedable p && !s.minRunDone p)

/-! ### Pump choice (R99, R100, R103) -/

/-- R99: fewer run seconds, then the lower slot; the earlier of the list stays on a tie. -/
def State.pickStart (s : State) (best : Option PumpId) (p : PumpId) : Option PumpId :=
  match best with
  | none => some p
  | some b =>
    if s.runSecondsNow p < s.runSecondsNow b
        || (s.runSecondsNow p == s.runSecondsNow b && (s.pumpE p).slot < (s.pumpE b).slot) then some p
    else some b

/-- The start candidate of a house (R99). -/
def State.startCandidate (s : State) (h : HouseId) : Option PumpId :=
  ((s.pumpsOf h).filter fun p => s.eligible p).foldl s.pickStart none

/-- R100: more run seconds, then the higher slot, then the higher pump id. -/
def State.pickStop (s : State) (best : Option PumpId) (p : PumpId) : Option PumpId :=
  match best with
  | none => some p
  | some b =>
    if s.runSecondsNow b < s.runSecondsNow p
        || (s.runSecondsNow b == s.runSecondsNow p && (s.pumpE b).slot ≤ (s.pumpE p).slot) then some p
    else some b

/-- The pumps of a house that are RUNNING and commanded, other than those excluded (R94, R104). -/
def State.runners (s : State) (h : HouseId) (excluded : List PumpId) : List PumpId :=
  (s.pumpsOf h).filter fun p => (s.pump p).commandedRunning && !excluded.contains p

/-- The stop candidate of a house (R100), outside the excluded pumps. -/
def State.stopCandidate (s : State) (h : HouseId) (excluded : List PumpId) : Option PumpId :=
  ((s.runners h excluded).filter fun p => s.minRunDone p).foldl s.pickStop none

/-- R103, item 1: longer running, then the lower slot. -/
def State.pickOldest (s : State) (best : Option PumpId) (p : PumpId) : Option PumpId :=
  match best with
  | none => some p
  | some b =>
    if s.since (s.pump b).runStart < s.since (s.pump p).runStart
        || (s.since (s.pump b).runStart == s.since (s.pump p).runStart && (s.pumpE p).slot < (s.pumpE b).slot) then
      some p
    else some b

/-- The commanded RUNNING pump of a house with the earliest run_start (R101, R103). -/
def State.oldest (s : State) (h : HouseId) : Option PumpId := (s.runners h []).foldl s.pickOldest none

/-! ### Calendar (R68) -/

/-- The later start_minute of two entries; the lower index stays on a tie (R68). -/
def laterStart (best : Option (CalId × Nat)) (e : CalId × Nat) : Option (CalId × Nat) :=
  match best with
  | none => some e
  | some b => if b.2 < e.2 then some e else some b

/-- The used CALENDAR entries with their start minutes, in index order. -/
def State.calendarStarts (s : State) : List (CalId × Nat) :=
  (List.finRange 16).filterMap fun i => (s.tables.calendar.get i).start.map fun m => (i, m)

/-- The active calendar entry for a minute of the day (R68). -/
def State.activeEntry (s : State) (minute : Nat) : Option CalId :=
  let starts := s.calendarStarts
  match (starts.filter fun e => e.2 ≤ minute).foldl laterStart none with
  | some e => some e.1
  | none => (starts.foldl laterStart none).map (·.1)

/-- The planned draw of a reservoir in a class (R8). -/
def State.drawOf (s : State) (r : ResId) : Tariff → Nat
  | .cheap => (s.drawE r).cheap
  | .standard => (s.drawE r).standard
  | .peak => (s.drawE r).peak

/-! ### Activity (R77) -/

def State.activity (s : State) (h : HouseId) : Activity :=
  let x := s.house h
  if (s.station h).state = .silent then .silent
  else if s.engine ≠ .run || x.mode ≠ .auto then .released
  else if x.protection ≠ .none then .tripped
  else if x.phase ≠ .none then .fallback
  else if x.change ≠ .none then .changeover
  else if x.start ≠ .none then .starting
  else if (s.pumpsOf h).any fun p => (s.pump p).run == .stopOrdered then .stopping
  else if x.target ≠ s.commandedCount h then .waiting
  else if 1 ≤ s.commandedCount h then .pumping
  else .idle

/-! ### Derived orders (R136) -/

/-- The order of a pump by its state (R136, rows 2 to 5). -/
def Pump.order? (p : Pump) : Order :=
  if p.isLocal then .localControl
  else if p.counted then .run
  else .stop

/-- The order of a slot (R136). -/
def State.slotOrder (s : State) (h : HouseId) (k : SlotId) : Order :=
  match s.pumpAt h k with
  | none => .localControl
  | some p => (s.pump p).order?

/-- The orders of a house (R136). -/
def State.ordersOf (s : State) (h : HouseId) : Vector Order 4 :=
  #v[s.slotOrder h 0, s.slotOrder h 1, s.slotOrder h 2, s.slotOrder h 3]

/-- The slot's pump is in this run state with its order QUEUED. -/
def State.slotMark (s : State) (h : HouseId) (run : RunState) (k : SlotId) : Bool :=
  match s.pumpAt h k with
  | none => false
  | some p => (s.pump p).run == run && (s.pump p).order == .queued

/-- The start-marked or stop-marked slots of a house (R136). -/
def State.marksOf (s : State) (h : HouseId) (run : RunState) : Vector Bool 4 :=
  #v[s.slotMark h run 0, s.slotMark h run 1, s.slotMark h run 2, s.slotMark h run 3]

/-! ### Ports -/

/-- An own address of 1-239 is in the range of stations (R173). -/
def State.addressValid (s : State) : Bool := 1 ≤ s.ownAddr.toNat && s.ownAddr.toNat ≤ 239

/-- The direction output of a port is active while its transmitter sends (R171). -/
def PortState.directionActive (p : PortState) : Bool := p.tx.isSome

def State.port (s : State) : Port → PortState
  | .field => s.field
  | .supervisory => s.sup

end Sys2Proof.Machine
end

