-- ==== Sys2Proof/Config.lean ====
section
/-! DEFINITION. What the spec leaves open and no rule fixes: the byte layout of a live view's items (log 3) and the
service state of an unstated code in image 8 (log 22). -/

namespace Sys2Proof

/-- DESIGN CHOICE (log 3), safe: byte `i` of a live view item on the trunk. R181 states each item's contents and its
length and gives no layout, so nothing constrains this value. -/
opaque Config.liveByte : Machine.LiveItem → Nat → Byte

/-- DESIGN CHOICE (log 22), safe: the service state that a good image 8 gives where its byte is above 02h. R182 states
the codes 00h-02h and no other, so nothing constrains this value. -/
opaque Config.unstatedService : Nat → Machine.Service

end Sys2Proof
end

