-- ==== Sys2Proof/Machine/Operands.lean ====
section
/-! DEFINITION. The operand forms: bytes and words (R161, R178), record walks (R162), table entries with their range
tests (R3-R10, R178), store images (R182), and the bytes of the frames the part originates (R161-R164). -/

namespace Sys2Proof.Machine

/-! ### Bytes and words, most significant byte first (R161) -/

/-- A number in two bytes. -/
def word16 (n : Nat) : List Byte := [BitVec.ofNat 8 (n / 256), BitVec.ofNat 8 n]

/-- A number in three bytes. -/
def word24 (n : Nat) : List Byte := [BitVec.ofNat 8 (n / 65536), BitVec.ofNat 8 (n / 256), BitVec.ofNat 8 n]

/-- A number in four bytes. -/
def word32 (n : Nat) : List Byte :=
  [BitVec.ofNat 8 (n / 16777216), BitVec.ofNat 8 (n / 65536), BitVec.ofNat 8 (n / 256), BitVec.ofNat 8 n]

/-- The number that bytes spell. -/
def numOf (bs : List Byte) : Nat := bs.foldl (fun n b => n * 256 + b.toNat) 0

/-- Bytes two by two as words, most significant byte first; an odd last byte is dropped. -/
def wordsOf : List Byte → List Nat
  | a :: b :: rest => (a.toNat * 256 + b.toNat) :: wordsOf rest
  | _ => []

/-- A list cut into pieces of `n`, at most `fuel` of them. -/
def piecesOf (n : Nat) : Nat → List Nat → List (List Nat)
  | 0, _ => []
  | fuel + 1, l => if l.isEmpty then [] else l.take n :: piecesOf n fuel (l.drop n)

/-- The byte sum, as a number. -/
def byteSum (bs : List Byte) : Nat := (bs.map BitVec.toNat).sum

/-! ### Records of a frame (R162) -/

/-- A record of a frame: its TAG and its content. -/
structure Rec where
  tag : Byte
  content : List Byte
  deriving DecidableEq, Repr

/-- The walk of R162 with `fuel` records at most: none where the records do not fit exactly. -/
def walkFuel : Nat → List Byte → Option (List Rec)
  | _, [] => some []
  | 0, _ => none
  | _ + 1, [_] => none
  | fuel + 1, tag :: len :: rest =>
    if rest.length < len.toNat then none
    else (walkFuel fuel (rest.drop len.toNat)).map (⟨tag, rest.take len.toNat⟩ :: ·)

/-- The records of a frame's record bytes (R162); none where they do not fit exactly. -/
def walkRecords (bs : List Byte) : Option (List Rec) := walkFuel bs.length bs

/-- The bytes of a record: TAG, LEN and content (R162). -/
def recordBytes (tag : Byte) (content : List Byte) : List Byte :=
  tag :: BitVec.ofNat 8 content.length :: content

/-! ### Table codes (R1, R178) -/

/-- The table of a selector code (R1). -/
def tableOf : Nat → Option TableId
  | 0 => some .reservoir
  | 1 => some .house
  | 2 => some .pump
  | 3 => some .site
  | 4 => some .band
  | 5 => some .draw
  | 6 => some .calendar
  | 7 => some .plan
  | _ => none

/-- The selector code of a table (R1). -/
def tableCode : TableId → Nat
  | .reservoir => 0
  | .house => 1
  | .pump => 2
  | .site => 3
  | .band => 4
  | .draw => 5
  | .calendar => 6
  | .plan => 7

/-- The number of entries of a table (R1). -/
def entryCount : TableId → Nat
  | .reservoir => 16
  | .house => 12
  | .pump => 32
  | .site => 1
  | .band => 36
  | .draw => 16
  | .calendar => 16
  | .plan => 12

/-- The number of fields of a table's entry (R178). -/
def fieldCount : TableId → Nat
  | .reservoir => 16
  | .house => 5
  | .pump => 7
  | .site => 13
  | .band => 6
  | .draw => 3
  | .calendar => 3
  | .plan => 3

/-- Bytes of an entry on the trunk and in the store: two for each field (R178). -/
def entrySize (t : TableId) : Nat := 2 * fieldCount t

/-- Structural tables are those of codes 0-3 (R1). -/
def structural : TableId → Bool
  | .reservoir | .house | .pump | .site => true
  | .band | .draw | .calendar | .plan => false

/-- NONE and UNUSED on the trunk (R178). -/
def noneWord : Nat := 65535

/-! ### Entries as words, in the order of their field tables (R178) -/

def tariffCode : Tariff → Nat
  | .cheap => 0
  | .standard => 1
  | .peak => 2

def tariffOf : Nat → Option Tariff
  | 0 => some .cheap
  | 1 => some .standard
  | 2 => some .peak
  | _ => none

def ResEntry.words (e : ResEntry) : List Nat :=
  [e.station, e.channel, e.height, e.zero, e.span, e.rawMin, e.rawMax, e.step, e.litresPerCm, e.emerg, e.overflow,
    e.dryCut, e.dryHyst, e.silence, e.loss, e.estStep]

def HouseEntry.words (e : HouseEntry) : List Nat :=
  [e.station, (e.suction.map (·.val)).getD noneWord, e.delivery.val, e.maxRun, e.stagger]

def PumpEntry.words (e : PumpEntry) : List Nat :=
  [(e.house.map (·.val)).getD noneWord, e.slot.val, e.flow, e.power, e.minRun, e.minOff, e.maxStarts]

def SiteEntry.words (e : SiteEntry) : List Nat :=
  [e.siteLimit, e.fallbackBudget, e.budgetMargin, e.grantGap, e.age, e.refresh, e.hold, e.stationSilence,
    e.startConfirm, e.stopConfirm, e.supervisor, e.autoRun, e.settle]

def BandEntry.words (e : BandEntry) : List Nat := [e.s1, e.s2, e.s3, e.s4, e.stop, e.hyst]

def DrawEntry.words (e : DrawEntry) : List Nat := [e.cheap, e.standard, e.peak]

def CalEntry.words (e : CalEntry) : List Nat := [e.start.getD noneWord, tariffCode e.cls, e.budget]

def PlanEntry.words (e : PlanEntry) : List Nat := [e.fallbackOn, e.fallbackOff, e.rotate]

/-! ### Range tests (R3-R10): none where a field is out of range, the entry as stored where all are in range -/

/-- `a ≤ n ≤ b`. -/
def within (a n b : Nat) : Bool := a ≤ n && n ≤ b

/-- R3 and R10; a station of 0 is stored as the cleared entry. -/
def parseRes : List Nat → Option ResEntry
  | [station, channel, height, zeroCm, span, rawMin, rawMax, step, litres, emerg, overflow, dryCut, dryHyst, silence,
      loss, estStep] =>
    if station = 0 then some .cleared
    else if within 1 station 239 && within 0 channel 3 && within 50 height 3000 && within 0 zeroCm height
        && within 1 span 6000 && within 0 rawMin 4095 && within 0 rawMax 4095 && decide (rawMin < rawMax)
        && within 0 step 3000 && within 1 litres 65535 && within 0 emerg height && within 0 overflow height
        && within 0 dryCut height && within 1 dryHyst 500 && within 10 silence 3600
        && within (silence + 1) loss 65535 && within 1 estStep 60 then
      some ⟨station, channel, height, zeroCm, span, rawMin, rawMax, step, litres, emerg, overflow, dryCut, dryHyst,
        silence, loss, estStep⟩
    else none
  | _ => none

/-- A reservoir number, or none where it is out of range. -/
def resOf (n : Nat) : Option ResId := if h : n < 16 then some ⟨n, h⟩ else none

/-- A house number, or none where it is out of range. -/
def houseOf (n : Nat) : Option HouseId := if h : n < 12 then some ⟨n, h⟩ else none

/-- A pump number, or none where it is out of range. -/
def pumpOf (n : Nat) : Option PumpId := if h : n < 32 then some ⟨n, h⟩ else none

/-- A slot number, or none where it is out of range. -/
def slotOf (n : Nat) : Option SlotId := if h : n < 4 then some ⟨n, h⟩ else none

/-- R4 and R10; a station of 0 is stored as the cleared entry. -/
def parseHouse : List Nat → Option HouseEntry
  | [station, suction, delivery, maxRun, stagger] =>
    if station = 0 then some .cleared
    else
      match resOf delivery with
      | some d =>
        if within 1 station 239 && (within 0 suction 15 || suction == noneWord) && within 1 maxRun 4
            && within 0 stagger 600 then
          some ⟨station, resOf suction, d, maxRun, stagger⟩
        else none
      | none => none
  | _ => none

/-- R5 and R10; a house of NONE is stored as the cleared entry. -/
def parsePump : List Nat → Option PumpEntry
  | [house, slot, flow, power, minRun, minOff, maxStarts] =>
    if house = noneWord then some .cleared
    else
      match houseOf house, slotOf slot with
      | some h, some k =>
        if within 1 flow 1000 && within 1 power 2000 && within 0 minRun 7200 && within 0 minOff 7200
            && within 1 maxStarts 12 then
          some ⟨some h, k, flow, power, minRun, minOff, maxStarts⟩
        else none
      | _, _ => none
  | _ => none

/-- R6. -/
def parseSite : List Nat → Option SiteEntry
  | [siteLimit, fallbackBudget, budgetMargin, grantGap, age, refresh, hold, stationSilence, startConfirm,
      stopConfirm, supervisor, autoRun, settle] =>
    if within 1 siteLimit 20000 && within 0 fallbackBudget siteLimit && within 0 budgetMargin 5000
        && within 1 grantGap 600 && within 10 age 3600 && within 5 refresh 300 && within 10 hold 900
        && within 10 stationSilence 3600 && within 5 startConfirm 300 && within 5 stopConfirm 300
        && within 1 supervisor 239 && within 0 autoRun 1 && within 0 settle 600 then
      some ⟨siteLimit, fallbackBudget, budgetMargin, grantGap, age, refresh, hold, stationSilence, startConfirm,
        stopConfirm, supervisor, autoRun, settle⟩
    else none
  | _ => none

/-- R7 and R10; six zeros are the cleared entry. -/
def parseBand : List Nat → Option BandEntry
  | [s1, s2, s3, s4, stop, hyst] =>
    if (s1 == 0 && s2 == 0 && s3 == 0 && s4 == 0 && stop == 0 && hyst == 0)
        || (within 0 s1 3000 && within 0 s2 3000 && within 0 s3 3000 && within 0 s4 3000 && within 1 stop 3000
          && within 1 hyst 500) then
      some ⟨s1, s2, s3, s4, stop, hyst⟩
    else none
  | _ => none

/-- R8, DRAW. -/
def parseDraw : List Nat → Option DrawEntry
  | [cheap, standard, peak] =>
    if within 0 cheap 1000 && within 0 standard 1000 && within 0 peak 1000 then some ⟨cheap, standard, peak⟩ else none
  | _ => none

/-- R9 and R10: budget_kw is tested against 20000; a start_minute of UNUSED is stored as the cleared entry. -/
def parseCal : List Nat → Option CalEntry
  | [start, cls, budget] =>
    if start = noneWord then some .cleared
    else
      match tariffOf cls with
      | some c => if within 0 start 1439 && within 0 budget 20000 then some ⟨some start, c, budget⟩ else none
      | none => none
  | _ => none

/-- R8, HOUSEPLAN. -/
def parsePlan : List Nat → Option PlanEntry
  | [onS, offS, rotate] =>
    if within 0 onS 7200 && within 0 offS 7200 && (rotate == 0 || within 600 rotate 65535) then
      some ⟨onS, offS, rotate⟩
    else none
  | _ => none

/-! ### Reading and writing whole entries -/

/-- The entries of a table as words, in index order. -/
def tableWords (ts : Tables) : TableId → List (List Nat)
  | .reservoir => ts.reservoir.toList.map ResEntry.words
  | .house => ts.house.toList.map HouseEntry.words
  | .pump => ts.pump.toList.map PumpEntry.words
  | .site => [ts.site.words]
  | .band => ts.band.toList.map BandEntry.words
  | .draw => ts.draw.toList.map DrawEntry.words
  | .calendar => ts.calendar.toList.map CalEntry.words
  | .plan => ts.plan.toList.map PlanEntry.words

/-- The range test of one entry on its own fields (R10). -/
def entryOk (t : TableId) (w : List Nat) : Bool :=
  match t with
  | .reservoir => (parseRes w).isSome
  | .house => (parseHouse w).isSome
  | .pump => (parsePump w).isSome
  | .site => (parseSite w).isSome
  | .band => (parseBand w).isSome
  | .draw => (parseDraw w).isSome
  | .calendar => (parseCal w).isSome
  | .plan => (parsePlan w).isSome

/-- A vector with entry `i` replaced, where there is such an entry and a value for it. -/
def putAt {α : Type} {n : Nat} (v : Vector α n) (i : Nat) : Option α → Vector α n
  | some x => v.setIfInBounds i x
  | none => v

/-- One entry written, as its range test reads it; an entry that fails the test is not written. -/
def writeEntry (t : TableId) (i : Nat) (w : List Nat) (ts : Tables) : Tables :=
  match t with
  | .reservoir => { ts with reservoir := putAt ts.reservoir i (parseRes w) }
  | .house => { ts with house := putAt ts.house i (parseHouse w) }
  | .pump => { ts with pump := putAt ts.pump i (parsePump w) }
  | .site => { ts with site := (parseSite w).getD ts.site }
  | .band => { ts with band := putAt ts.band i (parseBand w) }
  | .draw => { ts with draw := putAt ts.draw i (parseDraw w) }
  | .calendar => { ts with calendar := putAt ts.calendar i (parseCal w) }
  | .plan => { ts with plan := putAt ts.plan i (parsePlan w) }

/-- Entries written from index `first` on. -/
def writeEntries (t : TableId) : Nat → List (List Nat) → Tables → Tables
  | _, [], ts => ts
  | first, w :: rest, ts => writeEntries t (first + 1) rest (writeEntry t first w ts)

/-- The (station, channel) a RESERVOIR entry claims, none for an unused one (R10, last item). -/
def resKey (w : List Nat) : Option (Nat × Nat) :=
  match w with
  | station :: channel :: _ => if station = 0 then none else some (station, channel)
  | _ => none

/-- The keys of all RESERVOIR entries as they would stand after the write (R10, last item). -/
def resKeysAfter (ts : Tables) (first : Nat) (ws : List (List Nat)) : List (Option (Nat × Nat)) :=
  let held := (tableWords ts .reservoir).map resKey
  held.take first ++ ws.map resKey ++ held.drop (first + ws.length)

/-- R10, last item: the used entry at `i` claims the key of another used entry. -/
def resKeyTaken (keys : List (Option (Nat × Nat))) (i : Nat) : Bool :=
  match keys.getD i none with
  | none => false
  | some k => ((keys.take i) ++ (keys.drop (i + 1))).any (· == some k)

/-- The range test of a whole WRITE TABLE (R10): the index of the first entry that fails, in index order. -/
def rangeFailure (t : TableId) (ts : Tables) (first : Nat) (ws : List (List Nat)) : Option Nat :=
  let keys := resKeysAfter ts first ws
  (List.range ws.length).findSome? fun k =>
    if !entryOk t (ws.getD k []) || (t == .reservoir && resKeyTaken keys (first + k)) then some (first + k) else none

/-! ### Store images (R182) -/

/-- The service state in image 8 (R182). -/
def serviceCode : Service → Nat
  | .inService => 0
  | .withdrawn => 1
  | .failed => 2

def serviceOf : Nat → Service
  | 0 => .inService
  | 1 => .withdrawn
  | 2 => .failed
  | n => Config.unstatedService n

/-- The content of a table image: every entry in index order, two bytes a field (R182). -/
def tableContent (ts : Tables) (t : TableId) : List Byte :=
  (tableWords ts t).flatMap fun ws => ws.flatMap word16

/-- The content of image 8: run seconds in four bytes and service state in one, for each pump (R182). -/
def runContent (ps : List Pump) : List Byte :=
  ps.flatMap fun p => word32 p.runSeconds ++ [BitVec.ofNat 8 (serviceCode p.service)]

/-- An image: number, length, content, and the sum of every byte before the check modulo 65,536 (R182). -/
def imageBytes (image : Nat) (content : List Byte) : List Byte :=
  let front := BitVec.ofNat 8 image :: (word16 content.length ++ content)
  front ++ word16 (byteSum front)

/-- The nine images of the state's tables and pumps, in image order (R183). -/
def imagesOf (ts : Tables) (ps : List Pump) : List (List Byte) :=
  [imageBytes 0 (tableContent ts .reservoir), imageBytes 1 (tableContent ts .house),
    imageBytes 2 (tableContent ts .pump), imageBytes 3 (tableContent ts .site),
    imageBytes 4 (tableContent ts .band), imageBytes 5 (tableContent ts .draw),
    imageBytes 6 (tableContent ts .calendar), imageBytes 7 (tableContent ts .plan), imageBytes 8 (runContent ps)]

/-- The content length expected of an image (R182). -/
def contentLength (image : Nat) : Nat :=
  match tableOf image with
  | some t => entryCount t * entrySize t
  | none => 160

/-- The bytes that an image takes in the store: number, length and check beside its content (R182). -/
def imageLength (image : Nat) : Nat := contentLength image + 5

/-- The store address of an image: the images lie one after another from the first address, in image order (R182). -/
def imageAddress : Nat → Nat
  | 0 => 0
  | n + 1 => imageAddress n + imageLength n

/-- The content of an image whose number, length and check are right (R182, first two conditions). -/
def imageContent (image : Nat) (bytes : List Byte) : Option (List Byte) :=
  let len := contentLength image
  let content := (bytes.drop 3).take len
  if bytes.length = len + 5 && numOf (bytes.take 1) = image && numOf ((bytes.drop 1).take 2) = len
      && numOf (bytes.drop (len + 3)) = byteSum (bytes.take (len + 3)) % 65536 then
    some content
  else none

/-- The entries of a good table image (R182): those whose range test passes as a write in STANDBY would make it. -/
def imageEntries (t : TableId) (ts : Tables) (bytes : List Byte) : Option (List (List Nat)) :=
  match imageContent (tableCode t) bytes with
  | some content =>
    let ws := piecesOf (fieldCount t) (entryCount t) (wordsOf content)
    if (rangeFailure t ts 0 ws).isSome then none else some ws
  | none => none

/-- The run seconds and service states of image 8's content, five bytes a pump. -/
def runEntries : Nat → List Byte → List (Nat × Service)
  | 0, _ => []
  | n + 1, bs => (numOf (bs.take 4), serviceOf (numOf ((bs.drop 4).take 1))) :: runEntries n (bs.drop 5)

/-! ### Codes on the trunk (R161-R164) -/

def syncByte : Byte := 0xC3
def kindTelemetry : Byte := 0x01
def kindCommand : Byte := 0x02
def kindDispatch : Byte := 0x03
def kindRequest : Byte := 0x10
def kindResponse : Byte := 0x11
def kindNotice : Byte := 0x12
def tagLevel : Byte := 0x20
def tagPump : Byte := 0x21
def tagOrder : Byte := 0x30
def tagHold : Byte := 0x31
def tagResponse : Byte := 0x60
def tagRefusal : Byte := 0x61
def tagAlarm : Byte := 0x62

def orderCode : Order → Byte
  | .localControl => 0
  | .run => 1
  | .stop => 2

def panelOf : Nat → Option Panel
  | 0 => some .remote
  | 1 => some .hand
  | 2 => some .off
  | _ => none

def alarmCode : AlarmKind → Nat
  | .levelSensor => 0
  | .levelEstimated => 1
  | .levelLost => 2
  | .emergencyLow => 3
  | .overflowHigh => 4
  | .dryRunTrip => 5
  | .houseShort => 6
  | .stationSilent => 7
  | .startFail => 8
  | .stopFail => 9
  | .uncommandedRun => 10
  | .unexpectedStop => 11
  | .pumpFault => 12
  | .budgetOver => 13

def alarmOf : Nat → Option AlarmKind
  | 0 => some .levelSensor
  | 1 => some .levelEstimated
  | 2 => some .levelLost
  | 3 => some .emergencyLow
  | 4 => some .overflowHigh
  | 5 => some .dryRunTrip
  | 6 => some .houseShort
  | 7 => some .stationSilent
  | 8 => some .startFail
  | 9 => some .stopFail
  | 10 => some .uncommandedRun
  | 11 => some .unexpectedStop
  | 12 => some .pumpFault
  | 13 => some .budgetOver
  | _ => none

/-- The number of objects of an alarm kind (section 9.1): reservoirs, houses, pumps, or the one site. -/
def alarmObjects : AlarmKind → Nat
  | .levelSensor | .levelEstimated | .levelLost | .emergencyLow | .overflowHigh => 16
  | .dryRunTrip | .houseShort | .stationSilent => 12
  | .startFail | .stopFail | .uncommandedRun | .unexpectedStop | .pumpFault => 32
  | .budgetOver => 1

def noticeEventCode : NoticeEvent → Byte
  | .raised => 0
  | .reRaised => 1
  | .cleared => 2

def noticeStateCode : NoticeState → Byte
  | .activeUnacked => 0
  | .clearedUnacked => 1
  | .removed => 2

def sideCode : Side → Byte
  | .none => 0
  | .below => 1
  | .above => 2

def resultCode : Result → Byte
  | .ok => 0
  | .unknownRequest => 1
  | .badFormat => 2
  | .badTable => 3
  | .badIndex => 4
  | .badValue => 5
  | .wrongState => 6
  | .busy => 7
  | .storeFault => 8
  | .notFound => 9

/-! ### Frames the part originates (R161) -/

/-- A whole frame: SYNC, LENGTH, DEST, SRC, KIND, records, and the CHECK that makes the sum 0 modulo 256 (R161). -/
def frameBytes (dest src kind : Byte) (records : List Byte) : List Byte :=
  let counted := BitVec.ofNat 8 (records.length + 3) :: dest :: src :: kind :: records
  syncByte :: (counted ++ [BitVec.ofNat 8 (256 - byteSum counted % 256)])

/-- The records of a DISPATCH frame: four ORDER records and one HOLD record (R139, R163). -/
def dispatchRecords (e : DispEntry) : List Byte :=
  recordBytes tagOrder [0, orderCode e.orders[0]] ++ recordBytes tagOrder [1, orderCode e.orders[1]]
    ++ recordBytes tagOrder [2, orderCode e.orders[2]] ++ recordBytes tagOrder [3, orderCode e.orders[3]]
    ++ recordBytes tagHold (word16 e.hold)

/-- The time bytes 5-10 of an alarm notice (R163). -/
def stampBytes : Stamp → List Byte
  | .calendar day second => 0 :: (word16 day ++ word24 second)
  | .unset second => 1 :: 0 :: word32 second.toNat

/-- The record of a NOTICE frame (R163, R164). -/
def noticeRecord : NoticeBody → List Byte
  | .alarm event kind object state raised side value repeats overflow =>
    recordBytes tagAlarm
      (noticeEventCode event :: BitVec.ofNat 8 (alarmCode kind) :: BitVec.ofNat 8 object :: noticeStateCode state ::
        (stampBytes raised
          ++ sideCode side :: (word16 (value.getD 65535) ++ [BitVec.ofNat 8 repeats, if overflow then 1 else 0])))
  | .refusal dest src house second =>
    recordBytes tagRefusal (dest :: src :: BitVec.ofNat 8 house.val :: word16 (second.toNat % 65536))

/-- Bytes of a live view item (R181). -/
def itemSize : LiveItem → Nat
  | .engine _ => 48
  | .reservoir _ _ => 24
  | .house _ _ _ => 32
  | .pump _ _ => 80
  | .arbiter _ => 24
  | .request _ _ _ => 16
  | .dispatchHouse _ _ _ => 12
  | .dispatchInTx _ => 16
  | .dispatchEntry _ => 16
  | .alarmSummary _ _ _ _ => 4
  | .alarm _ => 20
  | .port _ => 24

/-- A live view item on the trunk: its length is R181's and its bytes are free (log 3). -/
def itemBytes (i : LiveItem) : List Byte := (List.range (itemSize i)).map (Config.liveByte i)

/-- The data bytes of a response (R164, R179-R181). -/
def respDataBytes : RespData → List Byte
  | .none => []
  | .failedAt table index => [BitVec.ofNat 8 table, BitVec.ofNat 8 index]
  | .entries table first words =>
    BitVec.ofNat 8 table :: BitVec.ofNat 8 first :: BitVec.ofNat 8 words.length :: words.flatMap (·.flatMap word16)
  | .written table first count => [BitVec.ofNat 8 table, BitVec.ofNat 8 first, BitVec.ofNat 8 count]
  | .live view first next items =>
    BitVec.ofNat 8 view :: BitVec.ofNat 8 first :: BitVec.ofNat 8 items.length :: BitVec.ofNat 8 next ::
      items.flatMap itemBytes

/-- The bytes that a transmitter sends for a frame (R161, R168). -/
def TxFrame.bytes : TxFrame → List Byte
  | .forwarded bs => bs
  | .dispatch src e => frameBytes (BitVec.ofNat 8 e.dest) src kindDispatch (dispatchRecords e)
  | .response r =>
    frameBytes (BitVec.ofNat 8 r.dest) r.src kindResponse
      (recordBytes tagResponse (r.code :: resultCode r.result :: respDataBytes r.data))
  | .notice n => frameBytes (BitVec.ofNat 8 n.dest) n.src kindNotice (noticeRecord n.body)

/-- The KIND of the frame a transmitter sends (R172). -/
def TxFrame.kind : TxFrame → Byte
  | .forwarded bs => bs.getD 4 0
  | .dispatch _ _ => kindDispatch
  | .response _ => kindResponse
  | .notice _ => kindNotice

end Sys2Proof.Machine
end

