-- ==== Sys2Proof/Machine/Ops.lean ====
section
/-! DEFINITION. The named operations on State that every block shares: updates of one record, house marks (R79), run
seconds brought up to date (R61), the output of the supervisory port (R170), the alarm list (R149-R155) and the notice
queue (R157), and responses (R175). -/

namespace Sys2Proof.Machine

/-! ### Updates of one record -/

def modRes (r : ResId) (f : Reservoir → Reservoir) (s : State) : State :=
  { s with reservoirs := s.reservoirs.set r (f (s.res r)) }

def modPump (p : PumpId) (f : Pump → Pump) (s : State) : State :=
  { s with pumps := s.pumps.set p (f (s.pump p)) }

def modHouse (h : HouseId) (f : House → House) (s : State) : State :=
  { s with houses := s.houses.set h (f (s.house h)) }

def modStation (h : HouseId) (f : Station → Station) (s : State) : State :=
  { s with stations := s.stations.set h (f (s.station h)) }

def modPort (p : Port) (f : PortState → PortState) (s : State) : State :=
  match p with
  | .field => { s with field := f s.field }
  | .supervisory => { s with sup := f s.sup }

def modArbiter (f : Arbiter → Arbiter) (s : State) : State := { s with arbiter := f s.arbiter }

def modDispatcher (f : Dispatcher → Dispatcher) (s : State) : State := { s with dispatcher := f s.dispatcher }

def modAlarms (f : Alarms → Alarms) (s : State) : State := { s with alarms := f s.alarms }

/-- An operation at the house of a pump, where the pump names one. -/
def atHouseOf (p : PumpId) (f : HouseId → State → State) (s : State) : State :=
  match (s.pumpE p).house with
  | none => s
  | some h => f h s

/-- The operation, where the condition holds. -/
def onlyIf (b : Bool) (f : State → State) (s : State) : State := if b then f s else s

/-! ### Marks (R79) -/

/-- A mark of a house, in whatever mode and engine state (R32); the taking of the mark reads both (R79, log 7). -/
def mark (h : HouseId) (s : State) : State := { s with marks := s.marks ++ [h] }

/-- The mark of a pump's house. -/
def markPump (p : PumpId) (s : State) : State := atHouseOf p mark s

/-- Marks of several houses, in order. -/
def markAll (hs : List HouseId) (s : State) : State := hs.foldl (fun t h => mark h t) s

/-! ### Run seconds (R61) -/

/-- A pump's run_seconds brought up to date. -/
def accrue (p : PumpId) (s : State) : State :=
  modPump p (fun q => { q with runSeconds := s.runSecondsNow p, accrualMark := s.now }) s

/-- Run seconds of several pumps brought up to date. -/
def accrueAll (ps : List PumpId) (s : State) : State := ps.foldl (fun t p => accrue p t) s

/-! ### Output of the supervisory port (R170, R171) -/

/-- The frame a port's transmitter begins to send. -/
def beginSend (p : Port) (f : TxFrame) (s : State) : State := modPort p (fun q => { q with tx := some f }) s

/-- A take of the supervisory port where its transmitter is idle and a frame waits (R170). -/
def supTake (s : State) : State :=
  if s.sup.tx.isSome then s
  else
    match s.responses, s.sup.fwd, s.alarms.notices with
    | r :: rest, _, _ => beginSend .supervisory (.response r) { s with responses := rest }
    | [], [], [] => s
    | [], f :: fs, [] => { s with sup := { s.sup with fwd := fs, tx := some (.forwarded f), runCount := 0 } }
    | [], [], n :: ns =>
      modPort .supervisory (fun q => { q with tx := some (.notice n), runCount := 0 })
        (modAlarms (fun a => { a with notices := ns }) s)
    | [], f :: fs, n :: ns =>
      if s.sup.runCount < 4 then
        { s with sup := { s.sup with fwd := fs, tx := some (.forwarded f), runCount := s.sup.runCount + 1 } }
      else
        modPort .supervisory (fun q => { q with tx := some (.notice n), runCount := 0 })
          (modAlarms (fun a => { a with notices := ns }) s)

/-! ### Notices (R156, R157) -/

/-- A notice joins the notice queue, or is discarded with the overrun indicator set where the queue holds 6 frames
(R157); the supervisory port takes it at once where it is idle (R171). -/
def pushNotice (body : NoticeBody) (s : State) : State :=
  if 6 ≤ s.alarms.notices.length then modAlarms (fun a => { a with overrun := true }) s
  else
    supTake (modAlarms (fun a => { a with notices := a.notices ++ [⟨s.site.supervisor, s.ownAddr, body⟩] }) s)

/-- The raised time of the current second (R149). -/
def State.stamp (s : State) : Stamp := if s.timeSet then .calendar s.day s.sod else .unset s.now

/-- The notice of an effect on an entry, with the entry's contents after the effect (R156). -/
def noticeOf (event : NoticeEvent) (state : NoticeState) (e : AlarmEntry) (s : State) : State :=
  pushNotice (.alarm event e.kind e.object state e.raised e.side e.value e.repeats s.alarms.overflow) s

/-! ### The alarm list (R150-R155) -/

def AlarmEntry.isAt (e : AlarmEntry) (kind : AlarmKind) (object : Nat) : Bool := e.kind == kind && e.object == object

/-- The entry of a kind and object (R149). -/
def State.alarmAt (s : State) (kind : AlarmKind) (object : Nat) : Option AlarmEntry :=
  s.alarms.entries.find? fun e => e.isAt kind object

/-- The entry of a kind and object replaced in its place. -/
def putAlarm (e : AlarmEntry) (s : State) : State :=
  modAlarms (fun a => { a with entries := a.entries.map fun x => if x.isAt e.kind e.object then e else x }) s

/-- The entry of a kind and object leaves the list, which clears the overflow indicator (R150). -/
def dropAlarm (kind : AlarmKind) (object : Nat) (s : State) : State :=
  modAlarms (fun a => { a with entries := a.entries.eraseP fun x => x.isAt kind object, overflow := false }) s

/-- A new entry joins the end of the list with its RAISED notice (R151, first row). -/
def joinAlarm (kind : AlarmKind) (object : Nat) (value : Option Nat) (side : Side) (s : State) : State :=
  let e : AlarmEntry := ⟨kind, object, .activeUnacked, s.stamp, side, value, 0⟩
  noticeOf .raised .activeUnacked e (modAlarms (fun a => { a with entries := a.entries ++ [e] }) s)

/-- The first CLEARED_UNACKED entry leaves to make room, which clears the overflow indicator (R155). -/
def makeRoom (s : State) : State :=
  modAlarms
    (fun a => { a with entries := a.entries.eraseP fun x => x.state == .clearedUnacked, overflow := false }) s

/-- A raise of a condition (R151, R155). -/
def raise (kind : AlarmKind) (object : Nat) (value : Option Nat) (side : Side) (s : State) : State :=
  match s.alarmAt kind object with
  | none =>
    if s.alarms.entries.length < 24 then joinAlarm kind object value side s
    else if s.alarms.entries.any fun x => x.state == .clearedUnacked then
      joinAlarm kind object value side (makeRoom s)
    else modAlarms (fun a => { a with overflow := true }) s
  | some e =>
    if e.state = .clearedUnacked then
      let e' : AlarmEntry :=
        { e with state := .activeUnacked, raised := s.stamp, value := value, repeats := min (e.repeats + 1) 255 }
      noticeOf .reRaised .activeUnacked e' (putAlarm e' s)
    else s

/-- A clear of a condition (R152). -/
def clear (kind : AlarmKind) (object : Nat) (s : State) : State :=
  match s.alarmAt kind object with
  | none => s
  | some e =>
    match e.state with
    | .activeUnacked =>
      let e' : AlarmEntry := { e with state := .clearedUnacked }
      noticeOf .cleared .clearedUnacked e' (putAlarm e' s)
    | .activeAcked => noticeOf .cleared .removed e (dropAlarm kind object s)
    | .clearedUnacked => s

/-- Event alarms (R153). -/
def AlarmKind.isEvent : AlarmKind → Bool
  | .uncommandedRun | .unexpectedStop => true
  | _ => false

/-- An acknowledgement of one entry (R153, R154). -/
def acknowledge (kind : AlarmKind) (object : Nat) (s : State) : State :=
  match s.alarmAt kind object with
  | none => s
  | some e =>
    match e.state with
    | .activeUnacked =>
      onlyIf kind.isEvent (clear kind object) (putAlarm { e with state := .activeAcked } s)
    | .activeAcked => s
    | .clearedUnacked => dropAlarm kind object s

/-- An acknowledgement of every entry, in list order (R154). -/
def acknowledgeAll (s : State) : State :=
  s.alarms.entries.foldl (fun t e => acknowledge e.kind e.object t) s

/-- A raise for a pump, with its power_kw as the value at raise. -/
def raisePump (kind : AlarmKind) (p : PumpId) (s : State) : State :=
  raise kind p.val (some (s.pumpE p).power) .none s

/-! ### Responses (R175) -/

/-- A response is built and joins the end of the response queue; the supervisory port takes it at once where it is idle
(R170, R171). A request finds room for its response (R175, case 1); a response built later is discarded where the queue
holds 6 frames (R183). -/
def respond (code : Byte) (result : Result) (data : RespData) (s : State) : State :=
  if 6 ≤ s.responses.length then s
  else supTake { s with responses := s.responses ++ [⟨s.site.supervisor, s.ownAddr, code, result, data⟩] }

end Sys2Proof.Machine
end

