-- ==== Sys2Proof/Machine/Dispatcher.lean ====
section
/-! DEFINITION. The dispatcher's placing of orders (R136, R137) and of RELEASE entries (R143, R145). -/

namespace Sys2Proof.Machine

/-- How a step carries the consequences of a change (log 9): whether orders are derived (R137; not in steps 2 to 4 of
ENGINE START, R20), whether a join or update of a request is considered at once (R119), and the take that follows a
placing of orders where the field port is idle (R171). -/
structure Ctx where
  derives : Bool
  joins : Bool
  take : State → State

/-- Within a take of the field port: its transmitter is occupied, so no further take follows. -/
def Ctx.quiet : Ctx := ⟨true, true, id⟩

/-- Steps 2 to 4 of ENGINE START (R20, R119). -/
def Ctx.starting : Ctx := ⟨false, false, id⟩

/-- The entry of a house in the dispatch queue. -/
def State.queuedEntry (s : State) (h : HouseId) : Option DispEntry := s.dispatcher.queue.find? fun e => e.house = h

/-- A queued entry updated in place to the derived orders (R137): it keeps its position and enqueue mark, and its dest
is taken afresh when a RELEASE entry becomes ORDERS (R134). -/
def refreshEntry (s : State) (e : DispEntry) : DispEntry :=
  { e with
    dest := if e.kind = .release then (s.houseE e.house).station else e.dest
    kind := .orders
    orders := s.ordersOf e.house
    hold := s.site.hold
    startMarks := s.marksOf e.house .startOrdered
    stopMarks := s.marksOf e.house .stopOrdered }

/-- A new ORDERS entry of a house (R134). -/
def newEntry (s : State) (h : HouseId) : DispEntry where
  house := h
  dest := (s.houseE h).station
  kind := .orders
  orders := s.ordersOf h
  hold := s.site.hold
  startMarks := s.marksOf h .startOrdered
  stopMarks := s.marksOf h .stopOrdered
  enqueue := s.now

/-- The entry carries a start or stop mark. -/
def DispEntry.marked (e : DispEntry) : Bool := e.startMarks.any id || e.stopMarks.any id

/-- The derived orders of a house placed in the queue (R137); `forced` for ENGINE START, a change to AUTO and a
refresh. -/
def placeOrders (forced : Bool) (h : HouseId) (s : State) : State :=
  if (s.queuedEntry h).isSome then
    modDispatcher (fun d => { d with queue := d.queue.map fun e => if e.house = h then refreshEntry s e else e }) s
  else
    let e := newEntry s h
    if forced || e.marked || s.dispatcher.lastSent.get h ≠ some e.orders then
      modDispatcher (fun d => { d with queue := d.queue ++ [e] }) s
    else s

/-- The derivation of a house's orders, made while the engine is in RUN and the house is AUTO (R137), and the take
that follows it (R171). -/
def derive (k : Ctx) (forced : Bool) (h : HouseId) (s : State) : State :=
  if k.derives && s.active h then k.take (placeOrders forced h s) else s

/-- The derivation that a change at a pump causes (R137). -/
def derivePump (k : Ctx) (p : PumpId) (s : State) : State := atHouseOf p (derive k false) s

/-- A RELEASE entry: every slot LOCAL, hold 0, no marks (R134). -/
def DispEntry.released (e : DispEntry) : DispEntry :=
  { e with
    kind := .release
    orders := .replicate 4 .localControl
    hold := 0
    startMarks := .replicate 4 false
    stopMarks := .replicate 4 false }

/-- Every queued entry becomes a RELEASE entry in place (R143). -/
def releaseQueue (s : State) : State :=
  modDispatcher (fun d => { d with queue := d.queue.map DispEntry.released }) s

/-- The house's queued entry becomes a RELEASE entry in place; otherwise a new RELEASE entry joins the end (R145). -/
def releaseHouse (h : HouseId) (s : State) : State :=
  if (s.queuedEntry h).isSome then
    modDispatcher (fun d => { d with queue := d.queue.map fun e => if e.house = h then e.released else e }) s
  else modDispatcher (fun d => { d with queue := d.queue ++ [(newEntry s h).released] }) s

/-- The used AUTO houses in ascending number (R20, R22; log 18). -/
def State.autoHouses (s : State) : List HouseId :=
  allHouses.filter fun h => (s.houseE h).used && (s.house h).mode == .auto

/-- The queue turned into RELEASE entries, with a new one for each AUTO house that has none (R22, R143, R146). -/
def releaseAll (s : State) : State :=
  let t := releaseQueue s
  t.autoHouses.foldl (fun u h => if (u.queuedEntry h).isSome then u else releaseHouse h u) t

/-- A house's refresh mark set or made idle (R135). -/
def setRefresh (h : HouseId) (m : Option Second) (s : State) : State :=
  modDispatcher (fun d => { d with refresh := d.refresh.set h m }) s

/-- Every refresh mark becomes idle (R143). -/
def refreshIdle (s : State) : State := modDispatcher (fun d => { d with refresh := .replicate 12 none }) s

end Sys2Proof.Machine
end

