-- ==== Sys2Proof/Machine/Arbiter.lean ====
section
/-! DEFINITION. The start arbiter: the grant window and BUDGET_OVER (R123, R132), shedding (R129-R131), grants
(R124-R127), the request list (R119-R121), and the hand-over of load changes (R62). -/

namespace Sys2Proof.Machine

/-! ### The grant window (R123, R132) -/

/-- The window for a site load, budget and margin (R123). -/
def windowFor (load budget margin : Nat) (held : Window) : Window :=
  if budget ≤ load then .closed else if load + margin < budget then .isOpen else held

/-- The BUDGET_OVER condition tested (R132). -/
def testOver (s : State) : State :=
  if s.budget < s.siteLoad then
    onlyIf (!s.arbiter.overBudget)
      (fun t => raise .budgetOver 0 (some t.siteLoad) .none (modArbiter (fun a => { a with overBudget := true }) t)) s
  else
    onlyIf s.arbiter.overBudget
      (fun t => clear .budgetOver 0 (modArbiter (fun a => { a with overBudget := false }) t)) s

/-- A recompute of the window, with the BUDGET_OVER test (R123, R132). -/
def recompute (s : State) : State :=
  testOver (modArbiter (fun a => { a with window := windowFor s.siteLoad s.budget s.site.budgetMargin a.window }) s)

/-! ### Shedding (R129-R131) -/

/-- The pump record of a stop ordered (R50). -/
def stopCore (p : PumpId) (s : State) : State :=
  modPump p
    (fun q =>
      { q with
        run := .stopOrdered
        commanded := false
        order := .queued
        orderTx := none
        confirmMark := none
        stopExpired := false })
    (accrue p s)

/-- Stops in shedding order while projected load exceeds the budget (R130, R131). -/
def shedLoop (k : Ctx) : Nat → State → State
  | 0, s => s
  | fuel + 1, s =>
    if s.projectedLoad ≤ s.budget then modArbiter (fun a => { a with shedWait := none }) s
    else
      match s.shedNext with
      | none => modArbiter (fun a => { a with shedWait := s.shedEnd }) s
      | some p => shedLoop k fuel (derivePump k p (markPump p (stopCore p s)))

/-- The shedding check, made only in RUN (R129). Thirty-two pumps can be stopped at most. -/
def shed (k : Ctx) (s : State) : State := if s.engine = .run then shedLoop k 33 s else s

/-! ### Grants (R124-R128) -/

/-- The entry of a house leaves the request list (R121). -/
def dropRequest (h : HouseId) (s : State) : State :=
  modArbiter (fun a => { a with requests := a.requests.filter fun e => e.house ≠ h }) s

/-- The pump record of a start granted (R50). -/
def startCore (p : PumpId) (u : Urgency) (s : State) : State :=
  modPump p
    (fun q =>
      { q with
        run := .startOrdered
        commanded := false
        order := .queued
        orderTx := none
        confirmMark := none
        admission := some u
        stopExpired := false })
    (accrue p s)

/-- R127, items 4 and 5 but for the mark: the last-grant mark, the last grant, and the start in flight. -/
def recordGrant (e : Request) (s : State) : State :=
  modHouse e.house (fun x => { x with start := .granted e.pump })
    (modArbiter (fun a => { a with lastGrantMark := s.now, lastGrant := some (e.house, e.pump) }) s)

/-- A grant, in the order of R127, but that it is recorded before its rise of site load is handed back: a consideration
that the shedding brings about finds the gap not elapsed (R124, R128). -/
def grant (k : Ctx) (e : Request) (s : State) : State :=
  let s := recordGrant e (startCore e.pump e.effective (dropRequest e.house s))
  derive k false e.house (mark e.house (shed k (recompute s)))

/-- The consideration of a grant (R124): only in RUN, after the grant gap, and at most one start. -/
def consider (k : Ctx) (s : State) : State :=
  if s.engine = .run && s.reached s.arbiter.lastGrantMark s.site.grantGap then
    match s.winner with
    | none => s
    | some e => grant k e s
  else s

/-! ### Load changes (R62, R124, R129) -/

/-- A decrease of site load: the window is recomputed and a grant is considered. -/
def loadFell (k : Ctx) (s : State) : State := consider k (recompute s)

/-- An increase of site load: the window is recomputed, an opening is considered, and the shedding check is made. -/
def loadRose (k : Ctx) (s : State) : State :=
  let t := recompute s
  shed k (onlyIf (s.arbiter.window == .closed && t.arbiter.window == .isOpen) (consider k) t)

/-- The hand-over of a change of site load from what it was before. -/
def loadChanged (k : Ctx) (before : Nat) (s : State) : State :=
  if before < s.siteLoad then loadRose k s else if s.siteLoad < before then loadFell k s else s

/-- The arbiter takes a latch of the period record (R69, item 2). -/
def arbiterLatch (k : Ctx) (s : State) : State := shed k (consider k (recompute s))

/-! ### The request list (R119, R120) -/

/-- A request joins the end of the list, or updates the house's entry in place (R119, R120), and a grant is considered
but for ENGINE START (R119). -/
def placeRequest (k : Ctx) (h : HouseId) (p : PumpId) (need : Urgency) (s : State) : State :=
  let power := (s.pumpE p).power
  let t :=
    if (s.requestOf h).isSome then
      modArbiter
        (fun a =>
          { a with
            requests := a.requests.map fun e =>
              if e.house = h then { e with pump := p, power := power, need := need } else e })
        s
    else
      modArbiter (fun a => { a with requests := a.requests ++ [⟨h, p, power, need, .rotate, s.now, s.now⟩] }) s
  onlyIf k.joins (consider k) t

end Sys2Proof.Machine
end

