-- ==== Sys2Proof/Machine/Supervision.lean ====
section
/-! DEFINITION. Pump supervision: orders (R50), adoption (R48), feedback (R47, R49), panel mode and fault (R55, R56),
service (R57), and stations (R63, R64). -/

namespace Sys2Proof.Machine

/-! ### Orders (R50) -/

/-- The start in flight of the pump's house ends, where it is this pump's and past the request list (R92). -/
def endFlight (p : PumpId) (s : State) : State :=
  atHouseOf p
    (fun h =>
      modHouse h fun x =>
        if x.start = .granted p ∨ x.start = .transmitted p then { x with start := .none } else x)
    s

/-- A stop request (R50): a pump RUNNING and commanded becomes STOP_ORDERED and QUEUED; projected load falls, the house
is marked and the STOP order is placed, after the shedding check that the fall of projected load brings (R62, R129; log
33). -/
def stopRequest (k : Ctx) (p : PumpId) (s : State) : State :=
  if (s.pump p).commandedRunning then derivePump k p (markPump p (shed k (stopCore p s))) else s

/-- The pump record of a QUEUED start undone, with its start in flight (R50, R92). -/
def undoCore (p : PumpId) (s : State) : State :=
  endFlight p
    (modPump p
      (fun q =>
        { q with
          run := .stopped
          commanded := false
          order := .none
          orderTx := none
          confirmMark := none
          admission := none })
      (accrue p s))

/-- A QUEUED start withdrawn (R50). -/
def undoStart (k : Ctx) (p : PumpId) (s : State) : State :=
  derivePump k p (markPump p (loadFell k (undoCore p s)))

/-- The withdrawal of a start (R50): taken where the order is QUEUED, refused as too late otherwise. -/
def withdrawStart (k : Ctx) (p : PumpId) (s : State) : State :=
  if (s.pump p).run = .startOrdered ∧ (s.pump p).order = .queued then undoStart k p s else s

/-- The pump record of a start that ends with the pump standing: confirm expiry (R52) or suction guard (R138). -/
def failCore (p : PumpId) (s : State) : State :=
  endFlight p
    (modPump p
      (fun q =>
        { q with
          run := .stopped
          commanded := false
          order := .none
          stopMark := some s.now
          minOffOpen := decide (0 < (s.pumpE p).minOff)
          orderTx := none
          confirmMark := none
          admission := none })
      (accrue p s))

/-- The pump record of a STOP_ORDERED pump that runs on under local control (R53, R55). -/
def runOnCore (p : PumpId) (s : State) : State :=
  modPump p
    (fun q =>
      { q with
        run := .running
        commanded := false
        order := .none
        orderTx := none
        confirmMark := none
        stopExpired := false })
    (accrue p s)

/-- The STOP_FAIL condition of a pump clears, where it was held (R53). -/
def clearStopFail (held : Bool) (p : PumpId) (s : State) : State := onlyIf held (clear .stopFail p.val) s

/-! ### Adoption (R21, R48, R55, R97) -/

/-- The pump record of an adoption: commanded, run_start now with its min-run, and a FAILED pump IN_SERVICE (R48,
R57, R59). -/
def adoptCore (p : PumpId) (s : State) : State :=
  modPump p
    (fun q =>
      { q with
        commanded := true
        runStart := s.now
        minRunOpen := decide (0 < (s.pumpE p).minRun)
        service := if q.service = .failed then .inService else q.service })
    s

/-- The START_FAIL condition clears where a FAILED pump has been adopted. -/
def clearStartFail (failed : Bool) (p : PumpId) (s : State) : State := onlyIf failed (clear .startFail p.val) s

/-- The adoption of a running pump without UNCOMMANDED_RUN: at ENGINE START (R21), a panel mode returning to REMOTE
(R55) and a change of mode to AUTO (R97). A change of service state marks the house (R57). -/
def adopt (k : Ctx) (p : PumpId) (s : State) : State :=
  let failed := (s.pump p).service == .failed
  derivePump k p (clearStartFail failed p (onlyIf failed (markPump p) (adoptCore p s)))

/-- The pumps of a house that ENGINE START or a change to AUTO adopts (R21, R97). -/
def State.adoptable (s : State) (h : HouseId) : List PumpId :=
  (s.pumpsOf h).filter fun p =>
    (s.pump p).run == .running && !(s.pump p).commanded && (s.pump p).panel == some .remote

/-- The adoptions of a house, in ascending pump number (log 33). -/
def adoptHouse (k : Ctx) (h : HouseId) (s : State) : State := (s.adoptable h).foldl (fun t p => adopt k p t) s

/-! ### Run feedback (R47-R49) -/

/-- The pump's house is AUTO with the engine in RUN. -/
def State.pumpActive (s : State) (p : PumpId) : Bool :=
  match (s.pumpE p).house with
  | none => false
  | some h => s.active h

/-- Feedback 1 for an UNKNOWN or STOPPED pump: RUNNING, adopted where R48 says so, with one mark for the changes of run and
service state (log 36). -/
def foundRunning (k : Ctx) (p : PumpId) (s : State) : State :=
  let adopted := s.pumpActive p && (s.pump p).panel == some .remote
  let failed := adopted && (s.pump p).service == .failed
  let t :=
    modPump p (fun q => { q with run := .running, commanded := false, order := .none, runStart := s.now }) (accrue p s)
  let t := onlyIf adopted (adoptCore p) t
  let t := markPump p (loadRose k t)
  let t := onlyIf adopted (raisePump .uncommandedRun p) (clearStartFail failed p t)
  derivePump k p t

/-- Feedback 1 for a START_ORDERED pump: the start is confirmed (R47). A min-run already over raises no expiry (R59). -/
def startConfirmed (k : Ctx) (p : PumpId) (s : State) : State :=
  let commanded := s.pumpActive p && (s.pump p).panel == some .remote
  let began := if (s.pump p).order = .transmitted then (s.pump p).orderTx.getD s.now else s.now
  let t :=
    modPump p
      (fun q =>
        { q with
          run := .running
          commanded := commanded
          runStart := began
          minRunOpen := !s.reached began (s.pumpE p).minRun
          order := .none
          orderTx := none
          confirmMark := none
          admission := if commanded then q.admission else none })
      (accrue p s)
  derivePump k p (markPump p (endFlight p t))

/-- Feedback 0 for an UNKNOWN pump: STOPPED with the stop mark now (R47). -/
def foundStopped (k : Ctx) (p : PumpId) (s : State) : State :=
  derivePump k p
    (markPump p
      (modPump p
        (fun q =>
          { q with run := .stopped, stopMark := some s.now, minOffOpen := decide (0 < (s.pumpE p).minOff) })
        (accrue p s)))

/-- Feedback 0 for a RUNNING or STOP_ORDERED pump (R47, R49). -/
def stopSeen (k : Ctx) (p : PumpId) (s : State) : State :=
  let unexpected := (s.pump p).commandedRunning
  let failed := (s.pump p).stopExpired
  let t :=
    modPump p
      (fun q =>
        { q with
          run := .stopped
          commanded := false
          order := .none
          stopMark := some s.now
          minOffOpen := decide (0 < (s.pumpE p).minOff)
          orderTx := none
          confirmMark := none
          lastRun := some (s.since q.runStart)
          admission := none
          stopExpired := false })
      (accrue p s)
  let t := markPump p (loadFell k t)
  let t := onlyIf unexpected (raisePump .unexpectedStop p) (clearStopFail failed p t)
  derivePump k p t

/-- The run feedback of a PUMP record (R47). -/
def applyFeedback (k : Ctx) (p : PumpId) (running : Bool) (s : State) : State :=
  match (s.pump p).run, running with
  | .unknown, true | .stopped, true => foundRunning k p s
  | .startOrdered, true => startConfirmed k p s
  | .unknown, false => foundStopped k p s
  | .running, false | .stopOrdered, false => stopSeen k p s
  | .unused, _ | .stopped, false | .startOrdered, false | .running, true | .stopOrdered, true => s

/-! ### Panel mode and fault (R55, R56) -/

/-- The effect of a change from REMOTE to HAND or OFF, by run state (R55). -/
def leaveRemote (k : Ctx) (p : PumpId) (s : State) : State :=
  let q := s.pump p
  match q.run with
  | .running => modPump p (fun x => { x with commanded := false }) s
  | .startOrdered => withdrawStart k p s
  | .stopOrdered =>
    if q.stopExpired then clearStopFail true p (markPump p (shed k (runOnCore p s))) else s
  | .unused | .unknown | .stopped => s

/-- The effect of a change from HAND or OFF to REMOTE (R55). -/
def enterRemote (k : Ctx) (p : PumpId) (s : State) : State :=
  if (s.pump p).run = .running ∧ (s.pump p).commanded = false ∧ s.pumpActive p then adopt k p s else s

/-- The panel mode of a PUMP record (R55): a change marks the house and has the effect of the table. -/
def applyPanel (k : Ctx) (p : PumpId) (panel : Panel) (s : State) : State :=
  let before := (s.pump p).panel
  if before = some panel then s
  else
    let t := markPump p (modPump p (fun q => { q with panel := some panel }) s)
    let t :=
      if before = some .remote then leaveRemote k p t
      else if before.isSome && panel == .remote then enterRemote k p t
      else t
    derivePump k p t

/-- The fault code of a PUMP record (R56). -/
def applyFault (p : PumpId) (fault : Nat) (s : State) : State :=
  let was := ((s.pump p).fault.getD 0) != 0
  let now := fault != 0
  let t := modPump p (fun q => { q with fault := some fault }) s
  let t := onlyIf (was != now) (markPump p) t
  if !was && now then raisePump .pumpFault p t
  else if was && !now then clear .pumpFault p.val t
  else t

/-- A PUMP record taken (R44): panel mode, then fault code, then run feedback. A record whose run feedback or panel
mode is outside its codes is ignored at the pump. -/
def pumpRecord (k : Ctx) (p : PumpId) (run panel fault : Nat) (s : State) : State :=
  match panelOf panel with
  | none => s
  | some m => if 1 < run then s else applyFeedback k p (run == 1) (applyFault p fault (applyPanel k p m s))

/-! ### Service state (R57) -/

/-- PUMP SERVICE RETURN. -/
def serviceReturn (p : PumpId) (s : State) : State :=
  let q := s.pump p
  if q.service = .inService then s
  else
    clearStartFail (q.service == .failed) p (markPump p (modPump p (fun x => { x with service := .inService }) s))

/-- PUMP SERVICE WITHDRAW. -/
def serviceWithdraw (p : PumpId) (s : State) : State :=
  let q := s.pump p
  if q.service = .withdrawn then s
  else
    clearStartFail (q.service == .failed) p (markPump p (modPump p (fun x => { x with service := .withdrawn }) s))

/-! ### Release of pumps (R22, R145) -/

/-- The release of one pump at ENGINE STOP or at a change of mode away from AUTO: QUEUED orders are undone, a stop whose
confirm timer has expired runs on, each with the mark of its house (R50, R53), and a RUNNING pump loses its commanded
flag. The load changes are handed on by the caller. -/
def releasePump (p : PumpId) (s : State) : State :=
  let q := s.pump p
  match q.run with
  | .startOrdered => if q.order = .queued then markPump p (undoCore p s) else s
  | .stopOrdered =>
    if q.stopExpired then clearStopFail true p (markPump p (runOnCore p s))
    else if q.order = .queued then markPump p (runOnCore p s)
    else s
  | .running => modPump p (fun x => { x with commanded := false }) s
  | .unused | .unknown | .stopped => s

/-! ### Stations (R63, R64) -/

/-- The confirm timer of a transmitted order restarts when the station is heard again (R64). -/
def restartConfirm (p : PumpId) (s : State) : State :=
  modPump p
    (fun q =>
      if (q.run = .startOrdered ∨ q.run = .stopOrdered) ∧ q.order = .transmitted then
        { q with confirmMark := some s.now }
      else q)
    s

/-- Every pump of a house becomes held or ceases to be, with run seconds brought up to date first (R64). -/
def holdPumps (held : Bool) (h : HouseId) (s : State) : State :=
  (s.pumpsOf h).foldl (fun t p => modPump p (fun q => { q with held := held }) (accrue p t)) s

/-- A good frame from a house's station (R63), which ends a silence (R64). -/
def houseHeard (h : HouseId) (s : State) : State :=
  if (s.station h).state = .heard then modStation h (fun _ => ⟨.heard, s.now⟩) s
  else
    let t := clear .stationSilent h.val (modStation h (fun _ => ⟨.heard, s.now⟩) s)
    let t := holdPumps false h t
    mark h ((t.pumpsOf h).foldl (fun u p => restartConfirm p u) t)

/-- Every used house whose station is the SRC of a good field frame is heard (R63), in ascending number where two share a
station (log 33). Station records begin at the end of STARTUP (R18). -/
def stationHeardFrom (src : Nat) (s : State) : State :=
  if s.engine = .startup then s
  else
    (allHouses.filter fun h => (s.houseE h).used && (s.houseE h).station == src).foldl (fun t h => houseHeard h t) s

end Sys2Proof.Machine
end

