-- ==== Sys2Proof/Machine/FieldPort.lean ====
section
/-! DEFINITION. The field port's takes with the suction guard (R138, R139, R169), the transmit completions of both ports
(R140, R171), and the joins of forwarded frames (R168). -/

namespace Sys2Proof.Machine

/-! ### The suction guard (R138) -/

/-- R138's table for the pump of one RUN slot. The guard runs within a take, and the changes it makes are derived into
the entry being taken and make no new entry. A pump that the load change handed on sheds or grants, though of the same
house, places its order by R137: a new entry behind the one being taken (log 16). -/
def guardPump (p : PumpId) (s : State) : State :=
  match (s.pump p).run, (s.pump p).order with
  | .startOrdered, .queued => markPump p (loadFell .quiet (undoCore p s))
  | .startOrdered, .transmitted => markPump p (loadFell .quiet (failCore p s))
  | .running, _ => if (s.pump p).commanded then markPump p (shed .quiet (stopCore p s)) else s
  | _, _ => s

/-- R138 for one slot of the orders given. -/
def guardSlot (h : HouseId) (orders : Vector Order 4) (s : State) (k : SlotId) : State :=
  if orders.get k = .run then
    match s.pumpAt h k with
    | none => s
    | some p => guardPump p s
  else s

/-- R138 for the RUN slots of the orders given, in slot order. -/
def guardPass (h : HouseId) (orders : Vector Order 4) (s : State) : State := allSlots.foldl (guardSlot h orders) s

/-- The entry's orders and marks derived again (R136, R138). -/
def rederive (e : DispEntry) (s : State) : DispEntry :=
  { e with
    orders := s.ordersOf e.house
    startMarks := s.marksOf e.house .startOrdered
    stopMarks := s.marksOf e.house .stopOrdered }

/-- R138 for the RUN slots that the derived orders of a house hold. -/
def guardAgain (h : HouseId) (s : State) : State := guardPass h (s.ordersOf h) s

/-- The suction guard applied to an ORDERS entry at its take. The slots that the derived orders hold in RUN after the
first pass are passed again, and once more for the one start that a load falling under the guard may grant in this
second (log 16). -/
def guardEntry (e : DispEntry) (s : State) : State × DispEntry :=
  if e.kind = .orders ∧ s.suctionGuard e.house then
    let u := guardAgain e.house (guardAgain e.house (guardPass e.house e.orders s))
    (u, rederive e u)
  else (s, e)

/-! ### The take (R139, R169) -/

/-- The marked pump of a slot, where it is in this run state with its order in this order state. -/
def State.markedPump (s : State) (h : HouseId) (marks : Vector Bool 4) (run : RunState) (order : OrderState)
    (k : SlotId) : Option PumpId :=
  if marks.get k then (s.pumpAt h k).filter fun p => (s.pump p).run == run && (s.pump p).order == order else none

/-- The order of a marked pump moves from QUEUED to TAKEN (R51). -/
def takeSlot (e : DispEntry) (s : State) (k : SlotId) : State :=
  match s.markedPump e.house e.startMarks .startOrdered .queued k with
  | some p => modPump p (fun q => { q with order := .taken }) s
  | none =>
    match s.markedPump e.house e.stopMarks .stopOrdered .queued k with
    | some p => modPump p (fun q => { q with order := .taken }) s
    | none => s

/-- Pump supervision is told of the take (R139, item 4). -/
def takeMarked (e : DispEntry) (s : State) : State := allSlots.foldl (takeSlot e) s

/-- A house's last sent orders (R135). -/
def setLastSent (h : HouseId) (o : Option (Vector Order 4)) (s : State) : State :=
  modDispatcher (fun d => { d with lastSent := d.lastSent.set h o }) s

/-- The entry in transmission (R135). -/
def setInTx (e : Option DispEntry) (s : State) : State := modDispatcher (fun d => { d with inTx := e }) s

/-- The take of the head entry, in the order of R139. -/
def takeDispatch (e : DispEntry) (rest : List DispEntry) (s : State) : State :=
  let s := modDispatcher (fun d => { d with queue := rest, inTx := some e }) s
  let g := guardEntry e s
  let s := derive .quiet false e.house (takeMarked g.2 (setLastSent e.house (some g.2.orders) g.1))
  beginSend .field (.dispatch s.ownAddr g.2) (setInTx (some g.2) s)

/-- The field port's run count (R169). -/
def setFieldRun (n : Nat) (s : State) : State := { s with field := { s.field with runCount := n } }

/-- The take of the oldest forwarded frame; the run count becomes 0. -/
def takeForwarded (f : List Byte) (fs : List (List Byte)) (s : State) : State :=
  { s with field := { s.field with fwd := fs, tx := some (.forwarded f), runCount := 0 } }

/-- A take of the field port where its transmitter is idle and a frame waits (R169). -/
def fieldTake (s : State) : State :=
  if s.field.tx.isSome then s
  else
    match s.dispatcher.queue, s.field.fwd with
    | [], [] => s
    | e :: rest, [] => takeDispatch e rest (setFieldRun 0 s)
    | [], f :: fs => takeForwarded f fs s
    | e :: rest, f :: fs =>
      if s.field.runCount < 3 then takeDispatch e rest (setFieldRun (s.field.runCount + 1) s)
      else takeForwarded f fs s

/-- The consequences of an event outside takes and ENGINE START: orders are derived, a request is considered at once,
and the field port takes at once where it is idle (R171). -/
def Ctx.live : Ctx := ⟨true, true, fieldTake⟩

/-! ### Transmit completion (R140, R171) -/

/-- A second joins the end of a start history; where the list is full its oldest entry is removed (R60). -/
def joinHistory (capacity : Nat) (now : Second) (l : List Second) : List Second :=
  l.drop (l.length + 1 - capacity) ++ [now]

/-- A new start stamped (R51). -/
def stampStart (p : PumpId) (s : State) : State :=
  atHouseOf p
    (fun h t =>
      modHouse h
        (fun x =>
          { x with
            lastStartTx := t.now
            start := if x.start = .granted p then .transmitted p else x.start })
        t)
    (modPump p
      (fun q =>
        { q with
          order := .transmitted
          orderTx := some s.now
          confirmMark := some s.now
          history := joinHistory (s.pumpE p).maxStarts s.now q.history })
      s)

/-- A new stop stamped (R51). -/
def stampStop (p : PumpId) (s : State) : State :=
  modPump p (fun q => { q with order := .transmitted, orderTx := some s.now, confirmMark := some s.now }) s

/-- One slot of the completed entry (R140). -/
def stampSlot (e : DispEntry) (s : State) (k : SlotId) : State :=
  match s.markedPump e.house e.startMarks .startOrdered .taken k with
  | some p => stampStart p s
  | none =>
    match s.markedPump e.house e.stopMarks .stopOrdered .taken k with
    | some p => stampStop p s
    | none => s

/-- The refresh mark after a completion (R140). -/
def refreshAfter (e : DispEntry) (s : State) : Option Second :=
  if e.kind = .orders ∧ s.active e.house then some s.now else none

/-- The transmit completion of the entry in transmission (R140). -/
def completeDispatch (s : State) : State :=
  match s.dispatcher.inTx with
  | none => s
  | some e =>
    let t := allSlots.foldl (stampSlot e) s
    let t := derive .quiet false e.house t
    setInTx none (setRefresh e.house (refreshAfter e t) t)

/-- A counter of 16 bits rises by one (R172). -/
def bump (n : Nat) : Nat := min (n + 1) 65535

/-- The transmitter of a port is idle again, and the sent count rises (R171, R172). -/
def freeTx (p : Port) (s : State) : State :=
  modPort p (fun q => { q with tx := none, counters := { q.counters with sent := bump q.counters.sent } }) s

/-- The transmit completion of a port, and the take that follows (R171). -/
def completeTx (p : Port) (s : State) : State :=
  match p, (s.port p).tx with
  | _, none => s
  | .field, some (.dispatch _ _) => fieldTake (freeTx .field (completeDispatch s))
  | .field, some _ => fieldTake (freeTx .field s)
  | .supervisory, some _ => supTake (freeTx .supervisory s)

/-! ### Forwarding (R168) -/

/-- The port by which a frame arriving on a port leaves. -/
def otherPort : Port → Port
  | .field => .supervisory
  | .supervisory => .field

/-- A take of a port where its transmitter is idle and a frame waits (R171). -/
def portTake : Port → State → State
  | .field => fieldTake
  | .supervisory => supTake

/-- A frame that arrived on a port joins the forward queue of the other, or is dropped and counted (R168). -/
def forward (p : Port) (bytes : List Byte) (s : State) : State :=
  if 8 ≤ (s.port (otherPort p)).fwd.length then
    modPort p
      (fun q => { q with counters := { q.counters with forwardDrop := bump q.counters.forwardDrop } }) s
  else portTake (otherPort p) (modPort (otherPort p) (fun q => { q with fwd := q.fwd ++ [bytes] }) s)

end Sys2Proof.Machine
end

