-- ==== Sys2Proof/Machine/Levels.lean ====
section
/-! DEFINITION. The level monitor: LEVEL records (R26-R31), the EMERGENCY_LOW condition (R33), the timers of the source
states (R35-R38) and the estimate step (R41, R42). -/

namespace Sys2Proof.Machine

/-! ### EMERGENCY_LOW and marks (R32, R33) -/

/-- R33's condition. -/
def State.isEmergLow (s : State) (r : ResId) : Bool :=
  (s.res r).source.usable && (s.res r).level ≤ (s.resE r).emerg

/-- The EMERGENCY_LOW test (R33): a raise when the condition begins to hold, a clear when it ceases to. -/
def testEmerg (r : ResId) (s : State) : State :=
  let was := (s.res r).emergLow
  let now := s.isEmergLow r
  let t := modRes r (fun x => { x with emergLow := now }) s
  if !was && now then raise .emergencyLow r.val (some (s.res r).level) .none t
  else if was && !now then clear .emergencyLow r.val t
  else t

/-- The houses concerned are marked (R32). -/
def markConcerned (r : ResId) (s : State) : State := markAll (s.concerned r) s

/-- A change of level or source: the EMERGENCY_LOW test, then the marks (R31). -/
def levelMoved (r : ResId) (s : State) : State := markConcerned r (testEmerg r s)

/-! ### LEVEL records (R26-R31) -/

/-- The level of a valid sample (R28): the division discards the remainder, and the result is clamped to height_cm. -/
def convert (e : ResEntry) (raw : Nat) : Nat := min (e.zero + raw * e.span / 4095) e.height

/-- The side of an invalid sample (R27); none for a valid one. -/
def faultSide (e : ResEntry) (raw : Nat) (flag : Bool) : Option Sensor :=
  if raw < e.rawMin then some .faultBelow
  else if e.rawMax < raw then some .faultAbove
  else if flag then some .faultBelow
  else none

/-- The side an alarm carries for a sensor state (R27). -/
def Sensor.side : Sensor → Side
  | .ok => .none
  | .faultBelow => .below
  | .faultAbove => .above

/-- The difference of two levels, without sign (R29). -/
def levelGap (a b : Nat) : Nat := (a - b) + (b - a)

/-- The alarm conditions that clear when a source becomes LIVE (R31). -/
def clearSourceAlarm (was : Source) (r : ResId) (s : State) : State :=
  match was with
  | .estimated => clear .levelEstimated r.val s
  | .lost => clear .levelLost r.val s
  | .noData | .live => s

/-- Acceptance (R31). -/
def accept (r : ResId) (level : Nat) (s : State) : State :=
  levelMoved r
    (clearSourceAlarm (s.res r).source r
      (modRes r
        (fun x => { x with level := level, source := .live, lastAccept := s.now, pending := none, residue := 0 }) s))

/-- R29, case 2: a pending level is held and the new level is near it. -/
def confirms (pending : Option Nat) (level step : Nat) : Bool :=
  match pending with
  | none => false
  | some p => levelGap level p ≤ step

/-- The step check of a converted level (R29). -/
def stepCheck (r : ResId) (level : Nat) (s : State) : State :=
  let x := s.res r
  let step := (s.resE r).step
  if x.source ≠ .live ∨ step = 0 ∨ levelGap level x.level ≤ step ∨ confirms x.pending level step = true then
    accept r level s
  else modRes r (fun x => { x with pending := some level }) s

/-- A LEVEL record at its reservoir (R26-R29). -/
def levelRecord (r : ResId) (raw : Nat) (flag : Bool) (s : State) : State :=
  let t := modRes r (fun x => { x with lastRaw := some raw }) s
  match faultSide (s.resE r) raw flag with
  | some f =>
    raise .levelSensor r.val (some (s.res r).level) f.side (modRes r (fun x => { x with sensor := f }) t)
  | none =>
    let u := modRes r (fun x => { x with sensor := .ok }) t
    stepCheck r (convert (s.resE r) raw) (onlyIf ((s.res r).sensor != .ok) (clear .levelSensor r.val) u)

/-! ### Timers of the source states (R35-R38) -/

/-- The source becomes LOST: the pending level is discarded, LEVEL_ESTIMATED clears where it was held, and LEVEL_LOST is
raised (R35, R36, R38), before EMERGENCY_LOW is tested (log 33). -/
def loseLevel (r : ResId) (s : State) : State :=
  let was := (s.res r).source
  let t := modRes r (fun x => { x with source := .lost, pending := none }) s
  let t := onlyIf (was == .estimated) (clear .levelEstimated r.val) t
  levelMoved r (raise .levelLost r.val (some (s.res r).level) .none t)

/-- The source becomes ESTIMATED and LEVEL_ESTIMATED is raised (R36), before EMERGENCY_LOW is tested (log 33). -/
def beginEstimate (r : ResId) (s : State) : State :=
  let t :=
    modRes r (fun x => { x with source := .estimated, pending := none, stepMark := s.now, residue := 0 }) s
  levelMoved r (raise .levelEstimated r.val (some (s.res r).level) .none t)

/-- The silence timer is due: LIVE, with silence_s elapsed since the last acceptance (R36). -/
def State.silenceDue (s : State) (r : ResId) : Bool :=
  s.resInService r && (s.res r).source == .live && s.reached (s.res r).lastAccept (s.resE r).silence

/-- The silence expiry (R36). -/
def silenceOver (r : ResId) (s : State) : State := if s.estimable r then beginEstimate r s else loseLevel r s

/-- The loss timer is due: NO_DATA or ESTIMATED, with loss_s elapsed since last_accept (R35, R38). -/
def State.lossDue (s : State) (r : ResId) : Bool :=
  s.resInService r && ((s.res r).source == .noData || (s.res r).source == .estimated)
    && s.reached (s.res r).lastAccept (s.resE r).loss

/-- An ESTIMATED reservoir that is not estimable becomes LOST (R38). -/
def watchEstimate (r : ResId) (s : State) : State :=
  if s.resInService r ∧ (s.res r).source = .estimated ∧ s.estimable r = false then loseLevel r s else s

/-! ### The estimate step (R41, R42) -/

/-- The flow of the used pumps of a house that are RUNNING or STOP_ORDERED (R41). -/
def State.houseFlow (s : State) (h : HouseId) : Nat :=
  ((s.pumpsOf h).map fun p =>
    if (s.pump p).run == .running || (s.pump p).run == .stopOrdered then (s.pumpE p).flow else 0).sum

/-- The inflow I (R41). -/
def State.inflow (s : State) (r : ResId) : Nat :=
  ((allHouses.filter fun h => (s.houseE h).used && (s.houseE h).delivery == r).map s.houseFlow).sum

/-- The outflow O (R41). -/
def State.outflow (s : State) (r : ResId) : Nat :=
  ((allHouses.filter fun h => (s.houseE h).used && (s.houseE h).suction == some r).map s.houseFlow).sum

/-- The net flow N (R42). -/
def State.netFlow (s : State) (r : ResId) : Int :=
  (s.inflow r : Int) - s.outflow r - s.drawOf r s.period.cls

/-- The level and residue after a step of an accumulated volume (R42, items 3 to 5). -/
def stepLevel (level : Nat) (acc : Int) (litresPerCm height : Nat) : Nat × Int :=
  let change := acc.tdiv litresPerCm
  let moved : Int := level + change
  let clamped : Int := max 0 (min moved height)
  (clamped.toNat, if clamped = moved then acc - change * litresPerCm else 0)

/-- One estimate step (R41, R42). -/
def estimateOnce (r : ResId) (s : State) : State :=
  let x := s.res r
  let e := s.resE r
  let n := stepLevel x.level (x.residue + s.netFlow r * e.estStep) e.litresPerCm e.height
  let t := modRes r (fun y => { y with level := n.1, residue := n.2, stepMark := s.now }) s
  onlyIf (n.1 != x.level) (levelMoved r) t

/-- The estimate step timer is due (R41). -/
def State.stepDue (s : State) (r : ResId) : Bool :=
  s.resInService r && (s.res r).source == .estimated && s.reached (s.res r).stepMark (s.resE r).estStep

/-! ### The SILENT event of a station (R37, R38, R64) -/

/-- The reservoirs that a house names as delivery or suction, in ascending number (log 33). -/
def State.reservoirsOf (s : State) (h : HouseId) : List ResId :=
  allRes.filter fun r => (s.houseE h).delivery == r || (s.houseE h).suction == some r

/-- The SILENT event handed to the level monitor (R64, item 3), at the reservoirs in ascending number (log 33). -/
def stationLost (h : HouseId) (s : State) : State := (s.reservoirsOf h).foldl (fun t r => watchEstimate r t) s

end Sys2Proof.Machine
end

