-- ==== Sys2Proof/Machine/Houses.lean ====
section
/-! DEFINITION. The house evaluator: protections (R81-R84), fallback (R85, R86), stages, target and need (R87-R89),
the start and stop decisions (R90-R94), shortage (R95), rotation (R101-R103) and changeover (R104-R113), in the order of
R80. -/

namespace Sys2Proof.Machine

/-! ### Inputs (R80) -/

/-- The delivery level is usable. -/
def State.deliveryUsable (s : State) (h : HouseId) : Bool := (s.res (s.houseE h).delivery).source.usable

/-- Ld. -/
def State.deliveryLevel (s : State) (h : HouseId) : Nat := (s.res (s.houseE h).delivery).level

/-- The house's wait is set (R91). -/
def setWait (h : HouseId) (kind : WaitKind) (ends : Option Second) (s : State) : State :=
  modHouse h (fun x => { x with wait := ⟨kind, ends⟩ }) s

/-- C and the usable count are computed (R80, step 1). -/
def countPumps (h : HouseId) (s : State) : State :=
  modHouse h (fun x => { x with commanded := s.commandedCount h, usable := s.usableCount h }) s

/-! ### Protections (R81-R83) -/

/-- The dry latch judged on a usable suction level, with its hysteresis (R81). -/
def dryNext (latch : Bool) (level : Nat) (e : ResEntry) : Bool :=
  if latch then level < e.dryCut + e.dryHyst else level ≤ e.dryCut

/-- The suction protection judged (R81). -/
def judgeSuction (h : HouseId) (s : State) : State :=
  match (s.houseE h).suction with
  | none => s
  | some r =>
    if (s.res r).source.usable then
      let was := (s.house h).dryLatch
      let now := dryNext was (s.res r).level (s.resE r)
      let t := modHouse h (fun x => { x with dryLatch := now }) s
      if !was && now then raise .dryRunTrip h.val (some (s.res r).level) .none t
      else if was && !now then clear .dryRunTrip h.val t
      else t
    else s

/-- OVERFLOW holds (R82). -/
def State.overflows (s : State) (h : HouseId) : Bool :=
  s.deliveryUsable h && (s.resE (s.houseE h).delivery).overflow ≤ s.deliveryLevel h

/-- The overflow protection judged (R82). -/
def judgeOverflow (h : HouseId) (s : State) : State :=
  let was := (s.house h).overflow
  let now := s.overflows h
  let t := modHouse h (fun x => { x with overflow := now }) s
  let r := (s.houseE h).delivery
  if !was && now then raise .overflowHigh r.val (some (s.deliveryLevel h)) .none t
  else if was && !now then clear .overflowHigh r.val t
  else t

/-- The first of SUCTION_LOST, DRY_TRIP and OVERFLOW that holds (R83). -/
def State.protectionOf (s : State) (h : HouseId) : Protection :=
  let x := s.house h
  match (s.houseE h).suction with
  | none => if x.overflow then .overflow else .none
  | some r =>
    if !(s.res r).source.usable then .suctionLost
    else if x.dryLatch then .dryTrip
    else if x.overflow then .overflow
    else .none

/-- Both protections are judged and the protection field is set (R80, step 2). -/
def judgeProtection (h : HouseId) (s : State) : State :=
  let t := judgeOverflow h (judgeSuction h s)
  modHouse h (fun x => { x with protection := t.protectionOf h }) t

/-- A REQUESTED start is withdrawn from the arbiter's list (R83, R93, R113). -/
def dropStart (h : HouseId) (s : State) : State :=
  modHouse h (fun x => { x with start := .none }) (dropRequest h s)

/-- The start in flight withdrawn under a protection (R83). -/
def withdrawFlight (k : Ctx) (h : HouseId) (s : State) : State :=
  match (s.house h).start with
  | .none | .transmitted _ => s
  | .requested _ => dropStart h s
  | .granted p => withdrawStart k p s

/-- A house under a protection (R83): T is 0, need NONE, the changeover ends, every commanded pump is stopped and the
start in flight is withdrawn. The pumps are stopped in ascending number (log 33). -/
def protect (k : Ctx) (h : HouseId) (s : State) : State :=
  let t :=
    modHouse h
      (fun x => { x with target := 0, need := .none, change := .none, wait := ⟨.none, none⟩, rotMark := none }) s
  withdrawFlight k h ((t.runners h []).foldl (fun u p => stopRequest k p u) t)

/-! ### Fallback (R85, R86) -/

/-- The phase entered at the second `now` with these lengths: ON, or an untimed OFF where fallback_on_s is 0. -/
def enterOn (e : PlanEntry) (now : Second) (x : House) : House :=
  if 0 < e.fallbackOn then { x with phase := .on, phaseMark := some now, phaseLen := e.fallbackOn }
  else { x with phase := .off, phaseMark := none, phaseLen := 0 }

/-- A timed OFF phase entered. -/
def enterOff (e : PlanEntry) (now : Second) (x : House) : House :=
  { x with phase := .off, phaseMark := some now, phaseLen := e.fallbackOff }

/-- The phase after its expiry (R86). -/
def phaseExpired (e : PlanEntry) (now : Second) (x : House) : House :=
  match x.phase with
  | .none => x
  | .on => enterOff e now x
  | .off => enterOn e now x

/-- A phase expires, and the house is marked (R86). -/
def expirePhase (h : HouseId) (s : State) : State := mark h (modHouse h (phaseExpired (s.planE h) s.now) s)

/-- The phase of a house is a timed OFF of length 0, which expires in the second it begins (R86). -/
def House.offAtOnce (x : House) : Bool := x.phase == .off && x.phaseMark.isSome && x.phaseLen == 0

/-- An expiry, and that of an OFF of length 0 which it begins: the house is in ON again at once (R86). -/
def passPhase (h : HouseId) (s : State) : State :=
  let t := expirePhase h s
  onlyIf (t.house h).offAtOnce (expirePhase h) t

/-- The length in force of the phase, read at an evaluation (R86). -/
def phaseLength (e : PlanEntry) : Phase → Nat
  | .none => 0
  | .on => e.fallbackOn
  | .off => e.fallbackOff

/-- The fallback phase judged while the delivery level is not usable (R85). An expiry that the length in force makes due
is taken, and marks the house (R86; log 21). -/
def judgeFallback (h : HouseId) (s : State) : State :=
  let x := s.house h
  let e := s.planE h
  match x.phase, x.phaseMark with
  | .none, _ => modHouse h (enterOn e s.now) s
  | _, none => modHouse h (enterOn e s.now) s
  | ph, some m =>
    let len := phaseLength e ph
    if s.reached m len then passPhase h s
    else modHouse h (fun y => { y with phaseLen := len }) s

/-- The fallback phase judged (R85). -/
def judgePhase (h : HouseId) (s : State) : State :=
  if s.deliveryUsable h then modHouse h (fun x => { x with phase := .none, phaseMark := none, phaseLen := 0 }) s
  else judgeFallback h s

/-! ### Stages, target and need (R87-R89) -/

/-- The level of a stage, 1-4. -/
def BandEntry.stage (b : BandEntry) : Nat → Nat
  | 1 => b.s1
  | 2 => b.s2
  | 3 => b.s3
  | 4 => b.s4
  | _ => 0

/-- A stage is in use: stage 1 always, stages 2-4 where their field is not 0 (R87). -/
def BandEntry.inUse (b : BandEntry) (n : Nat) : Bool := n == 1 || (2 ≤ n && n ≤ 4 && b.stage n != 0)

/-- The number of stages in use. -/
def BandEntry.stages (b : BandEntry) : Nat := [1, 2, 3, 4].countP b.inUse

/-- R87, step 3. -/
def engage (b : BandEntry) (level : Nat) : Nat → Nat → Nat
  | 0, d => d
  | fuel + 1, d => if d < 4 && b.inUse (d + 1) && level ≤ b.stage (d + 1) then engage b level fuel (d + 1) else d

/-- R87, step 4. -/
def disengage (b : BandEntry) (level : Nat) : Nat → Nat → Nat
  | 0, d => d
  | fuel + 1, d => if 2 ≤ d && b.stage d + b.hyst ≤ level then disengage b level fuel (d - 1) else d

/-- The stage count from the level (R87). -/
def stagesFor (b : BandEntry) (level d : Nat) : Nat :=
  if b.stop ≤ level then 0 else disengage b level 4 (engage b level 4 (min d b.stages))

/-- D and T are set (R85, R87, R88). -/
def setTarget (h : HouseId) (s : State) : State :=
  let x := s.house h
  let d := if s.deliveryUsable h then stagesFor (s.bandE h s.period.cls) (s.deliveryLevel h) x.stages else 0
  let t :=
    if x.protection ≠ .none then 0
    else if !s.deliveryUsable h then (if x.phase = .on then 1 else 0)
    else min d (s.houseE h).maxRun
  modHouse h (fun y => { y with stages := d, target := t }) s

/-- R89. -/
def State.needOf (s : State) (h : HouseId) : Need :=
  let x := s.house h
  let level := s.deliveryLevel h
  let std := s.bandE h .standard
  if x.protection ≠ .none then .none
  else if !s.deliveryUsable h then (if x.commanded < x.target then .demand else .none)
  else if level ≤ (s.resE (s.houseE h).delivery).emerg ∧ 1 ≤ x.target then .emergency
  else if x.target ≤ x.commanded then .none
  else if s.period.cls ≠ .cheap then .demand
  else if std.inUse (x.commanded + 1) = true ∧ level ≤ std.stage (x.commanded + 1) then .demand
  else .fill

/-- Need is set (R80, step 5). -/
def setNeed (h : HouseId) (s : State) : State := modHouse h (fun x => { x with need := s.needOf h }) s

/-! ### Waits without a candidate (R91) -/

/-- The earlier of two ends; the first argument stays on a tie, and MIN_OFF comes before HISTORY. -/
def soonerWait (best : Option (Nat × Wait)) (left : Nat) (w : Wait) : Option (Nat × Wait) :=
  match best with
  | none => some (left, w)
  | some b => if left < b.1 ∨ (left = b.1 ∧ w.kind = .minOff) then some (left, w) else some b

/-- The pump fails only its min-off or its start history (R91). -/
def State.onlyWaits (s : State) (p : PumpId) : Bool :=
  (s.ineligible p == some 5 || s.ineligible p == some 6) && s.stationHeard p

/-- The expiries that a waiting pump needs (R58, R91). -/
def State.pumpWaits (s : State) (best : Option (Nat × Wait)) (p : PumpId) : Option (Nat × Wait) :=
  let q := s.pump p
  let b :=
    match q.stopMark with
    | some m =>
      if s.minOffDone p then best
      else soonerWait best ((s.pumpE p).minOff - s.since m) ⟨.minOff, some (endOf m (s.pumpE p).minOff)⟩
    | none => best
  match q.history with
  | m :: _ => if s.historyRoom p then b else soonerWait b (3600 - s.since m) ⟨.history, some (endOf m 3600)⟩
  | [] => b

/-- The wait of a house that has no start candidate (R91). -/
def State.waitFor (s : State) (h : HouseId) : Wait :=
  match ((s.pumpsOf h).filter fun p => s.onlyWaits p).foldl s.pumpWaits none with
  | some b => b.2
  | none => if (s.station h).state = .silent then ⟨.station, none⟩ else ⟨.none, none⟩

/-! ### Start and stop decisions (R90, R93, R94) -/

/-- The run seconds of a house's eligible pumps are read (R99). -/
def readEligible (h : HouseId) (s : State) : State := accrueAll ((s.pumpsOf h).filter fun p => s.eligible p) s

/-- The run seconds of a house's stop candidates are read (R100). -/
def readRunners (h : HouseId) (s : State) : State := accrueAll (s.runners h []) s

/-- A start request of the house joins or is updated (R90, R103, R105). -/
def requestStart (k : Ctx) (h : HouseId) (p : PumpId) (u : Urgency) (s : State) : State :=
  placeRequest k h p u (modHouse h (fun x => { x with start := .requested p, wait := ⟨.none, none⟩ }) s)

/-- The stagger time since the house's last start has elapsed (R90). -/
def State.staggerDone (s : State) (h : HouseId) : Bool := s.reached (s.house h).lastStartTx (s.houseE h).stagger

/-- The house waits with STAGGER (R91). -/
def waitStagger (h : HouseId) (s : State) : State :=
  setWait h .stagger (some (endOf (s.house h).lastStartTx (s.houseE h).stagger)) s

/-- The wait of a house without a start candidate joined to the wait it holds: the row NONE of R91 needs that no other
holds, so a MIN_RUN wait of the same evaluation stands; where both hold, the start's wait is kept (log 34). -/
def Wait.orElse (w held : Wait) : Wait := if w.kind = .none then held else w

/-- A request for the start candidate, where there is one (R90). -/
def requestBest (k : Ctx) (h : HouseId) (s : State) : State :=
  let t := readEligible h s
  match s.startCandidate h with
  | some p => requestStart k h p (s.house h).need.urgency t
  | none =>
    modHouse h (fun x => { x with wait := (s.waitFor h).orElse x.wait })
      (onlyIf (s.requestOf h).isSome (dropRequest h) t)

/-- The start decision (R90). -/
def decideStart (k : Ctx) (h : HouseId) (s : State) : State :=
  let x := s.house h
  if x.target ≤ x.commanded then s
  else
    match x.start with
    | .none => if s.staggerDone h then requestBest k h s else waitStagger h s
    | .requested _ => requestBest k h (modHouse h (fun y => { y with start := .none }) s)
    | .granted _ | .transmitted _ => s

/-- What the stop decision did: nothing, one stop, or a stop that ends the evaluation (R94, case 1). -/
inductive Stopped where
  | no | one | ended
  deriving DecidableEq, Repr

/-- R94 with the count to compare T with and the pumps left out of both cases (R104). Where an excess or a withdrawn pump
is due and no pump can be stopped, the house waits with MIN_RUN, with no known end where no pump is due (R94, R100). -/
def decideStop (k : Ctx) (h : HouseId) (count : Nat) (excluded : List PumpId) (s : State) : State × Stopped :=
  let runners := s.runners h excluded
  let leaving := runners.filter fun p => (s.pump p).service == .withdrawn
  match leaving.find? fun p => s.minRunDone p with
  | some p => (stopRequest k p s, .ended)
  | none =>
    let tooMany := decide ((s.house h).target < count)
    match if tooMany then s.stopCandidate h excluded else none with
    | some p => (stopRequest k p (readRunners h s), .one)
    | none =>
      let due := if tooMany then runners else leaving
      if tooMany || !due.isEmpty then (setWait h .minRun (s.minRunEnd due) s, .no) else (s, .no)

/-- The withdrawal of an unwanted start (R93): the state, whether a withdrawal was made, and whether the evaluation ends
(log 13). -/
def decideWithdraw (k : Ctx) (h : HouseId) (s : State) : State × Bool × Bool :=
  let x := s.house h
  match x.start with
  | .requested _ => if x.target ≤ x.commanded then (dropStart h s, true, false) else (s, false, false)
  | .granted p =>
    if (x.target < x.commanded ∨ (s.pump p).service = .withdrawn) ∧ (s.pump p).run = .startOrdered
        ∧ (s.pump p).order = .queued then
      (undoStart k p s, true, true)
    else (s, false, false)
  | .none | .transmitted _ => (s, false, false)

/-- What follows step 6 in an evaluation: the rotation test and the shortage test, the shortage test alone with the rotation
mark left idle (R113), or nothing (log 12). -/
inductive After where
  | rotation | shortage | nothing
  deriving DecidableEq, Repr

/-- What follows a stop decision. -/
def Stopped.after : Stopped → After
  | .ended => .nothing
  | .no | .one => .rotation

/-- Step 6 outside changeover (R80, R90, R93, R94) with the count that the stop decision compares T with and the pumps it
leaves out, and what follows. -/
def stepApart (k : Ctx) (h : HouseId) (count : Nat) (excluded : List PumpId) (s : State) : State × After :=
  match decideWithdraw k h s with
  | (t, _, true) => (t, .nothing)
  | (t, withdrew, false) =>
    match decideStop k h count excluded t with
    | (u, .ended) => (u, .nothing)
    | (u, .one) => (u, .rotation)
    | (u, .no) => (if withdrew then u else decideStart k h u, .rotation)

/-- Step 6 outside changeover (R80): the stop decision compares T with C and leaves no pump out. -/
def stepOutside (k : Ctx) (h : HouseId) (s : State) : State × After := stepApart k h (s.house h).commanded [] s

/-! ### Changeover (R104-R113) -/

/-- The changeover ends with the rotation mark given. -/
def endChange (h : HouseId) (rotMark : Option Second) (s : State) : State :=
  modHouse h (fun x => { x with change := .none, rotMark := rotMark }) s

/-- The stop decision made during a changeover, over the pumps other than the old and the new (R104). -/
def stopInChange (k : Ctx) (h : HouseId) (old new : PumpId) (s : State) : State × After :=
  let d := decideStop k h (s.changeCount h old new) [old, new] s
  (d.1, d.2.after)

/-- The new pump of R103 and R105: a start candidate that has run less than the old pump. -/
def State.lesserCandidate (s : State) (h : HouseId) (old : PumpId) : Option PumpId :=
  (s.startCandidate h).filter fun p => decide (s.runSecondsNow p < s.runSecondsNow old)

/-- The run seconds that the choice of a new pump reads. -/
def readChoice (h : HouseId) (old : PumpId) (s : State) : State := accrue old (readEligible h s)

/-- The new pump rechosen (R105); where there is none the changeover ends and the evaluation goes on as outside (log
12). -/
def rechoose (k : Ctx) (h : HouseId) (old : PumpId) (s : State) : State × After :=
  let t := readChoice h old s
  match s.lesserCandidate h old with
  | some p => (requestStart k h p .rotate (modHouse h (fun x => { x with change := .startingNew old p }) t), .rotation)
  | none => stepOutside k h (endChange h (some s.now) (dropStart h t))

/-- What follows a step in which a fall has ended the changeover: the house is not steady and its rotation mark stays idle
(R113), although the count may have come down to T in the same step (R101; log 34). -/
def After.fallen : After → After
  | .rotation | .shortage => .shortage
  | .nothing => .nothing

/-- T below K in STARTING_NEW (R113). -/
def changeFalls (k : Ctx) (h : HouseId) (old new : PumpId) (s : State) : State × After :=
  match (s.house h).start with
  | .requested _ =>
    let d := stepOutside k h (endChange h none (dropStart h s))
    (d.1, d.2.fallen)
  | .granted p =>
    if (s.pump p).run = .startOrdered ∧ (s.pump p).order = .queued then
      (undoStart k p (endChange h none s), .nothing)
    else stopInChange k h old new s
  | .none | .transmitted _ => stopInChange k h old new s

/-- R110, R113 and R105, where R106 and R107 do not act. -/
def changeDemand (k : Ctx) (h : HouseId) (old new : PumpId) (s : State) : State × After :=
  let count := s.changeCount h old new
  let x := s.house h
  if count < x.target then stepOutside k h (endChange h none s)
  else if x.target < count then changeFalls k h old new s
  else
    match x.start with
    | .requested _ => rechoose k h old s
    | .none | .granted _ | .transmitted _ => (s, .rotation)

/-- The new pump's start has failed (R111). -/
def changeFailed (k : Ctx) (h : HouseId) (s : State) : State × After :=
  stepOutside k h (endChange h (some s.now) s)

/-- The start of the new pump is confirmed (R108). -/
def changeConfirmed (k : Ctx) (h : HouseId) (old new : PumpId) (s : State) : State × After :=
  (modHouse h (fun x => { x with change := .stoppingOld old new }) (stopRequest k old s), .nothing)

/-- The new pump is found running and WITHDRAWN (R107): the changeover is dropped, the old pump keeps running, and the new
pump is the excess, which case 1 of R94 stops once its min-run allows. The stop decision of this evaluation therefore
compares T with K and leaves the old pump out (log 34). -/
def changeWithdrawn (k : Ctx) (h : HouseId) (old new : PumpId) (s : State) : State × After :=
  stepApart k h (s.changeCount h old new) [old] (endChange h none s)

/-- Step 6 in STARTING_NEW, in the order R106, R107, R110, R113, R105. R107 has no row for a new pump found STOP_ORDERED,
shed after its running report, and none acts (log 34). -/
def stepStarting (k : Ctx) (h : HouseId) (old new : PumpId) (s : State) : State × After :=
  let q := s.pump new
  if !(s.pump old).commandedRunning then stepOutside k h (endChange h none s)
  else
    match q.run with
    | .startOrdered =>
      if q.order = .queued ∧ q.service = .withdrawn then
        (undoStart k new (endChange h (some s.now) s), .nothing)
      else changeDemand k h old new s
    | .running =>
      if q.commanded then
        if q.service = .withdrawn then changeWithdrawn k h old new s
        else changeConfirmed k h old new s
      else changeFailed k h s
    | .stopped =>
      if (s.house h).start = .none then changeFailed k h s else changeDemand k h old new s
    | .unused | .unknown | .stopOrdered => changeDemand k h old new s

/-- Step 6 in STOPPING_OLD (R109, R112). -/
def stepStopping (k : Ctx) (h : HouseId) (old new : PumpId) (s : State) : State × After :=
  if (s.pump old).run = .stopOrdered ∧ (s.pump old).stopExpired = false then
    let t := stopInChange k h old new s
    (setWait h .none none t.1, t.2)
  else stepOutside k h (endChange h none s)

/-- Step 6 of R80, and what follows it. -/
def stepSix (k : Ctx) (h : HouseId) (s : State) : State × After :=
  match (s.house h).change with
  | .none => stepOutside k h s
  | .startingNew old new => stepStarting k h old new s
  | .stoppingOld old new => stepStopping k h old new s

/-! ### Rotation (R101-R103) -/

/-- The house is steady for rotation (R101). -/
def State.steady (s : State) (h : HouseId) : Bool :=
  let x := s.house h
  0 < (s.planE h).rotate && x.protection == .none && x.change == .none && x.start == .none
    && x.target == s.commandedCount h && 1 ≤ s.commandedCount h

/-- A due rotation test (R103). -/
def rotationTest (k : Ctx) (h : HouseId) (old : PumpId) (s : State) : State :=
  let t := readChoice h old s
  match s.lesserCandidate h old with
  | none => modHouse h (fun x => { x with rotMark := some s.now }) t
  | some p =>
    if s.staggerDone h then
      requestStart k h p .rotate
        (modHouse h (fun x => { x with change := .startingNew old p, rotMark := none }) t)
    else waitStagger h t

/-- The rotation mark and test of an evaluation (R101, R103). A steady house whose one commanded pump is START_ORDERED, kept
over an ENGINE STOP, has no run_start to set the mark from: the mark stands and no test is made (log 34). -/
def rotation (k : Ctx) (h : HouseId) (s : State) : State :=
  if s.steady h then
    match s.oldest h with
    | none => s
    | some old =>
      let m := ((s.house h).rotMark).getD (s.pump old).runStart
      let t := modHouse h (fun x => { x with rotMark := some m }) s
      if s.reached m (s.planE h).rotate then rotationTest k h old t else t
  else modHouse h (fun x => { x with rotMark := none }) s

/-- The rotation timer set from the mark that an evaluation leaves and the length as it stands: a length not yet reached
expires at its end. An expiry of this second still comes, whatever the evaluation has done to the mark (R102, R115). -/
def timeRotation (h : HouseId) (s : State) : State :=
  let next := (s.house h).rotMark.bind fun m =>
    if s.reached m (s.planE h).rotate then none else some (endOf m (s.planE h).rotate)
  modHouse h (fun x => { x with rotAt := if x.rotAt = some s.now then x.rotAt else next }) s

/-- The stagger expiry that an evaluation leaves: the end of a stagger wait that it holds, and none where it holds none. An
expiry of this second still comes, whatever the evaluation has done to the wait (R91, R98). -/
def timeStagger (h : HouseId) (s : State) : State :=
  let w := (s.house h).wait
  modHouse h
    (fun x =>
      { x with
        staggerAt := if x.staggerAt = some s.now then x.staggerAt else if w.kind = .stagger then w.ends else none })
    s

/-! ### Shortage (R95) and the whole evaluation (R80) -/

/-- The value of HOUSE_SHORT at raise: Ld, or 0 in fallback. -/
def State.shortValue (s : State) (h : HouseId) : Nat := if s.deliveryUsable h then s.deliveryLevel h else 0

/-- The HOUSE_SHORT condition of a house set, with its raise or clear (R95). -/
def setShort (h : HouseId) (now : Bool) (s : State) : State :=
  let was := (s.house h).short
  let t := modHouse h (fun x => { x with short := now }) s
  if !was && now then raise .houseShort h.val (some (s.shortValue h)) .none t
  else if was && !now then clear .houseShort h.val t
  else t

/-- HOUSE_SHORT tested (R95). -/
def testShort (h : HouseId) (s : State) : State := setShort h (decide (s.shortCount h < (s.house h).target)) s

/-- Steps 4 and 5 of R80. -/
def setDemand (h : HouseId) (s : State) : State := setNeed h (setTarget h (judgePhase h s))

/-- Steps 1 and 2 of R80. -/
def judge (h : HouseId) (s : State) : State := judgeProtection h (countPumps h s)

/-- Step 6, the rotation test and step 7 of R80. Where step 6 ends the evaluation, the rotation test, the setting of the
rotation mark (R101) and step 7 are left to the evaluation that follows (log 12). -/
def steps (k : Ctx) (h : HouseId) (s : State) : State :=
  match stepSix k h s with
  | (t, .nothing) => t
  | (t, .shortage) => testShort h t
  | (t, .rotation) => testShort h (rotation k h t)

/-- An evaluation of a house, in the order of R80. -/
def evaluate (k : Ctx) (h : HouseId) (s : State) : State :=
  let s := judge h s
  timeStagger h
    (timeRotation h
      (if (s.house h).protection ≠ .none then setShort h false (setDemand h (protect k h s))
      else steps k h (setWait h .none none (setDemand h s))))

/-- An evaluation taken for a mark: it is made while the engine is in RUN and the mode is AUTO, and has no effect in any
other case (R79). -/
def takeMark (k : Ctx) (h : HouseId) (s : State) : State := if s.active h then evaluate k h s else s

end Sys2Proof.Machine
end

