-- ==== Sys2Proof/Machine/Clock.lean ====
section
/-! DEFINITION. The clock and period unit: the lookup and the latch of the period record (R68, R69) and the advance of
the engine seconds count with its boundary test (R65, R66, R70). -/

namespace Sys2Proof.Machine

/-- The active calendar entry of the current minute; none while the time is UNSET or where no entry is active (R68). -/
def State.lookup (s : State) : Option CalId := if s.timeSet then s.activeEntry (s.sod / 60) else none

/-- The period that a source gives at this second: a CALENDAR entry's copy, or the fallback (R68, R69). -/
def State.periodOf (s : State) (source : Option CalId) (cause : LatchCause) : Period :=
  match source with
  | some i => ⟨(s.tables.calendar.get i).cls, (s.tables.calendar.get i).budget, some i, s.now, cause⟩
  | none => ⟨.standard, s.site.fallbackBudget, none, s.now, cause⟩

/-- The period record set from a source (R69). -/
def setPeriod (source : Option CalId) (cause : LatchCause) (s : State) : State :=
  { s with period := s.periodOf source cause }

/-- A latch handed on (R69): the evaluations of every AUTO house while in RUN, and then the arbiter (log 8). -/
def handLatch (k : Ctx) (s : State) : State :=
  arbiterLatch k (if s.engine = .run then s.autoHouses.foldl (fun t h => takeMark k h t) s else s)

/-- A latch from a source. -/
def latch (k : Ctx) (source : Option CalId) (cause : LatchCause) (s : State) : State :=
  handLatch k (setPeriod source cause s)

/-- A latch by the lookup of the current calendar time. -/
def latchNow (k : Ctx) (cause : LatchCause) (s : State) : State := latch k s.lookup cause s

/-- The calendar time one second later, while it is SET (R66). -/
def tickCalendar (s : State) : State :=
  if s.timeSet then
    if s.sod = 86399 then { s with sod := 0, day := (s.day + 1) % 65536 } else { s with sod := s.sod + 1 }
  else s

/-- The used CALENDAR entry whose boundary the current second of day reaches (R70). -/
def State.boundary (s : State) : Option CalId :=
  if s.timeSet && s.sod % 60 == 0 then
    (s.activeEntry (s.sod / 60)).filter fun i => (s.tables.calendar.get i).start == some (s.sod / 60)
  else none

/-- The advance of the engine seconds count (R65), of the calendar time (R66), and the boundary test (R70). -/
def advance (s : State) : State :=
  let t := tickCalendar { s with now := s.now + 1 }
  match t.boundary with
  | none => t
  | some i => latch .live (some i) .boundary t

end Sys2Proof.Machine
end

