-- ==== Sys2Proof/Machine/Tables.lean ====
section
/-! DEFINITION. Table memory: the source maps (R13), the consistency checks (R14-R16) and the effects of an accepted
write with the motor limits that it can end (R12, R38, R41, R46, R59, R60, R63, R78). -/

namespace Sys2Proof.Machine

/-! ### Source maps (R13) -/

/-- The level source map of the tables. -/
def levelMapOf (ts : Tables) : List LevelKey :=
  (allRes.filter fun r => (ts.reservoir.get r).used).map fun r =>
    ⟨(ts.reservoir.get r).station, (ts.reservoir.get r).channel, r⟩

/-- The pump source map with one pump more: a key already given stays with the lower-numbered pump. -/
def addPumpKey (ts : Tables) (m : List PumpKey) (p : PumpId) : List PumpKey :=
  let e := ts.pump.get p
  match e.house with
  | none => m
  | some h =>
    let station := (ts.house.get h).station
    if station = 0 ∨ (m.any fun k => k.station == station && k.slot == e.slot) then m
    else m ++ [⟨station, e.slot, p⟩]

/-- The pump source map of the tables. -/
def pumpMapOf (ts : Tables) : List PumpKey := allPumps.foldl (addPumpKey ts) []

/-- Both maps are rebuilt. -/
def rebuildMaps (s : State) : State := { s with levelMap := levelMapOf s.tables, pumpMap := pumpMapOf s.tables }

/-! ### The consistency checks (R16) -/

/-- Used houses of the tables. -/
def Tables.usedHouses (ts : Tables) : List HouseId := allHouses.filter fun h => (ts.house.get h).used

/-- Used pumps that name a house. -/
def Tables.pumpsOf (ts : Tables) (h : HouseId) : List PumpId := allPumps.filter fun p => (ts.pump.get p).house == some h

/-- Check 2 at a used HOUSE entry: its station is the own address, the supervisor's or a lower-numbered house's. -/
def Tables.stationTaken (ts : Tables) (own : Nat) (h : HouseId) : Bool :=
  let st := (ts.house.get h).station
  own != ts.site.supervisor
    && (st == own || st == ts.site.supervisor
      || ts.usedHouses.any fun g => decide (g < h) && (ts.house.get g).station == st)

/-- Check 3: the reservoirs of a house are used and differ. -/
def Tables.reservoirsGood (ts : Tables) (h : HouseId) : Bool :=
  let e := ts.house.get h
  (ts.reservoir.get e.delivery).used
    && match e.suction with
      | none => true
      | some r => (ts.reservoir.get r).used && r != e.delivery

/-- Check 4: a lower-numbered used house already names the delivery. -/
def Tables.deliveryTaken (ts : Tables) (h : HouseId) : Bool :=
  ts.usedHouses.any fun g => decide (g < h) && (ts.house.get g).delivery == (ts.house.get h).delivery

/-- Check 5: at least one pump, distinct slots, and max_run within the number of pumps. -/
def Tables.pumpsGood (ts : Tables) (h : HouseId) : Bool :=
  let slots := (ts.pumpsOf h).map fun p => (ts.pump.get p).slot
  !slots.isEmpty && decide slots.Nodup && (ts.house.get h).maxRun ≤ slots.length

/-- Checks 2 to 5 fail at a HOUSE entry. -/
def Tables.houseFails (ts : Tables) (own : Nat) (h : HouseId) : Bool :=
  (ts.house.get h).used
    && (ts.stationTaken own h || !ts.reservoirsGood h || ts.deliveryTaken h || !ts.pumpsGood h)

/-- Check 6 fails at a PUMP entry. -/
def Tables.pumpFails (ts : Tables) (p : PumpId) : Bool :=
  match (ts.pump.get p).house with
  | none => false
  | some h => !(ts.house.get h).used

/-- Check 7: the stages of a BAND entry in themselves. -/
def BandEntry.stagesGood (b : BandEntry) : Bool :=
  b.s1 < b.stop
    && (b.s2 == 0 || (b.s2 < b.s1 && b.s2 + b.hyst < b.stop))
    && (b.s3 == 0 || (b.s2 != 0 && b.s3 < b.s2 && b.s3 + b.hyst < b.stop))
    && (b.s4 == 0 || (b.s3 != 0 && b.s4 < b.s3 && b.s4 + b.hyst < b.stop))

/-- The house of a BAND entry (R7). -/
def bandHouse (i : Fin 36) : HouseId := ⟨i.val / 3, by omega⟩

/-- Check 7 fails at a BAND entry. -/
def Tables.bandFails (ts : Tables) (i : Fin 36) : Bool :=
  let b := ts.band.get i
  let h := ts.house.get (bandHouse i)
  let r := ts.reservoir.get h.delivery
  h.used && !(b.stagesGood && b.stop < r.overflow && r.overflow ≤ r.height)

/-- Check 8 fails at a RESERVOIR entry. -/
def Tables.resFails (ts : Tables) (r : ResId) : Bool :=
  let e := ts.reservoir.get r
  e.used && !(e.emerg < e.overflow && e.dryCut + e.dryHyst < e.height)

/-- Check 9 fails at a HOUSEPLAN entry. -/
def Tables.planFails (ts : Tables) (h : HouseId) : Bool :=
  let rotate := (ts.plan.get h).rotate
  (ts.house.get h).used && rotate != 0
    && (ts.pumpsOf h).any fun p => decide (rotate < (ts.pump.get p).minRun)

/-- Checks 1, 2, 10 and 12 fail at SITE. -/
def Tables.siteFails (ts : Tables) (own : Nat) : Bool :=
  ts.site.siteLimit == 0 || own == ts.site.supervisor || ts.site.hold < 2 * ts.site.refresh
    || ts.site.siteLimit < ts.site.fallbackBudget

/-- Check 12 fails at a used CALENDAR entry. -/
def Tables.calOverLimit (ts : Tables) (i : CalId) : Bool :=
  (ts.calendar.get i).used && decide (ts.site.siteLimit < (ts.calendar.get i).budget)

/-- Another used entry among those chosen holds the start_minute of a used CALENDAR entry. -/
def Tables.calShares (ts : Tables) (i : CalId) (others : CalId → Bool) : Bool :=
  match (ts.calendar.get i).start with
  | none => false
  | some m => (List.finRange 16).any fun j => others j && (ts.calendar.get j).start == some m

/-- Checks 11 and 12 fail at a CALENDAR entry. -/
def Tables.calFails (ts : Tables) (i : CalId) : Bool :=
  ts.calShares i (fun j => decide (j < i)) || ts.calOverLimit i

/-- The failing entries of one table: its code with each failing index, in index order. -/
def failuresIn {n : Nat} (code : Nat) (fails : Fin n → Bool) : List TableRef :=
  ((List.finRange n).filter fails).map fun i => ⟨code, i.val⟩

/-- The first failure of the consistency check, in table order and then index order (R15). -/
def Tables.firstFailure (ts : Tables) (own : Nat) : Option TableRef :=
  (failuresIn 0 ts.resFails ++ failuresIn 1 (ts.houseFails own) ++ failuresIn 2 ts.pumpFails
    ++ failuresIn 3 (n := 1) (fun _ => ts.siteFails own) ++ failuresIn 4 ts.bandFails ++ failuresIn 6 ts.calFails
    ++ failuresIn 7 ts.planFails).head?

/-- The restricted test of a written CALENDAR entry, against every other used entry (R14; log 17). -/
def Tables.calWriteFails (ts : Tables) (i : CalId) : Bool :=
  ts.calShares i (fun j => decide (j ≠ i)) || ts.calOverLimit i

/-- The restricted consistency test of a plan write in RUN (R14), on the tables as they would stand after it: the index
of the first written entry that fails. -/
def planFailure (t : TableId) (ts : Tables) (first count : Nat) : Option Nat :=
  let written (r : TableRef) : Bool := decide (first ≤ r.index ∧ r.index < first + count)
  let fails : List TableRef :=
    match t with
    | .band => failuresIn 4 ts.bandFails
    | .calendar => failuresIn 6 ts.calWriteFails
    | .plan => failuresIn 7 ts.planFails
    | .reservoir | .house | .pump | .site | .draw => []
  (fails.find? written).map (·.index)

/-! ### Motor limits (R59) -/

/-- The min-run expiry is due: a commanded RUNNING pump whose min-run is over and whose expiry has not come. -/
def State.minRunDue (s : State) (p : PumpId) : Bool :=
  (s.pump p).commandedRunning && (s.pump p).minRunOpen && s.minRunDone p

/-- The min-off expiry is due: a STOPPED pump whose min-off is over and whose expiry has not come. -/
def State.minOffDue (s : State) (p : PumpId) : Bool :=
  (s.pump p).run == .stopped && (s.pump p).minOffOpen && s.minOffDone p

/-- The min-run expiry: the house is marked, and the shedding check is made. -/
def minRunOver (p : PumpId) (s : State) : State :=
  shed .live (markPump p (modPump p (fun q => { q with minRunOpen := false }) s))

/-- The min-off expiry: the house is marked. -/
def minOffOver (p : PumpId) (s : State) : State :=
  markPump p (modPump p (fun q => { q with minOffOpen := false }) s)

/-- A limit that a write has raised beyond the time elapsed is running again. -/
def reopenLimits (p : PumpId) (s : State) : State :=
  modPump p
    (fun q =>
      { q with
        minRunOpen := q.minRunOpen || q.commandedRunning && !s.minRunDone p
        minOffOpen := q.minOffOpen || q.run == .stopped && !s.minOffDone p })
    s

/-! ### Effects of a structural write (R12) -/

/-- The alarms of a reservoir whose record begins again clear, in R12's order (log 33). -/
def clearResAlarms (r : ResId) (s : State) : State :=
  clear .emergencyLow r.val (clear .levelLost r.val (clear .levelEstimated r.val (clear .levelSensor r.val s)))

/-- A reservoir record begins again (R12, R25); where its source changes, the houses concerned are marked (R32, R34). -/
def resBegins (r : ResId) (s : State) : State :=
  onlyIf ((s.res r).source != .noData) (markConcerned r) (clearResAlarms r (modRes r (fun _ => .fresh s.now) s))

/-- Values above the new limits are brought within them (R12). -/
def fitReservoir (e : ResEntry) (x : Reservoir) : Reservoir :=
  { x with
    level := min x.level e.height
    pending := x.pending.map (min · e.height)
    residue := if x.residue.natAbs < e.litresPerCm then x.residue else 0 }

/-- A reservoir after its limits may have been lowered; a changed level is tested (R33), and marks no house (R32). -/
def refitRes (r : ResId) (s : State) : State :=
  let t := modRes r (fitReservoir (s.resE r)) s
  onlyIf ((t.res r).level != (s.res r).level) (testEmerg r) t

/-- A RESERVOIR entry written, over the entry it replaces (R12, R41). -/
def resWritten (old : ResEntry) (r : ResId) (s : State) : State :=
  let new := s.resE r
  if old.station ≠ new.station ∨ old.channel ≠ new.channel then resBegins r s
  else
    let t := refitRes r s
    onlyIf (decide (new.estStep < old.estStep) && t.stepDue r) (estimateOnce r) t

/-- The alarms of a pump whose identity changes clear (R12), in the order START_FAIL, STOP_FAIL, UNCOMMANDED_RUN,
UNEXPECTED_STOP, PUMP_FAULT (log 33). -/
def clearPumpAlarms (p : PumpId) (s : State) : State :=
  [AlarmKind.startFail, .stopFail, .uncommandedRun, .unexpectedStop, .pumpFault].foldl
    (fun t k => clear k p.val t) s

/-- The record of a pump whose identity changes: run seconds and service state are kept, and the start history unless
the pump becomes unused (R12, R46, R60). Held is reset, the house's station being SILENT or not (log 37). -/
def pumpBegins (p : PumpId) (s : State) : State :=
  let used := (s.pumpE p).used
  clearPumpAlarms p
    (modPump p
      (fun q =>
        { Pump.fresh (if used then .unknown else .unused) q.runSeconds q.service with
          history := if used then q.history else [] })
      s)

/-- The start history holds the newest max_starts entries (R60). -/
def trimHistory (p : PumpId) (s : State) : State :=
  let cap := (s.pumpE p).maxStarts
  modPump p (fun q => { q with history := q.history.drop (q.history.length - cap) }) s

/-- The motor limits of a pump as a write leaves them: a limit shortened to a time already elapsed takes its expiry at the
write, and one raised beyond it is running again (R59). -/
def limitsWritten (old : PumpEntry) (p : PumpId) (s : State) : State :=
  let new := s.pumpE p
  let t := onlyIf (decide (new.minRun < old.minRun) && s.minRunDue p) (minRunOver p) s
  reopenLimits p (onlyIf (decide (new.minOff < old.minOff) && t.minOffDue p) (minOffOver p) t)

/-- A PUMP entry written, over the entry it replaces (R12, R59, R60). -/
def pumpWritten (old : PumpEntry) (p : PumpId) (s : State) : State :=
  let new := s.pumpE p
  limitsWritten old p
    (trimHistory p (onlyIf (decide (old.house ≠ new.house ∨ old.slot ≠ new.slot)) (pumpBegins p) s))

/-- A house record takes the power-up values, with its mode and last_start_tx kept (R78). -/
def houseBegins (h : HouseId) (s : State) : State := modHouse h (fun x => .fresh x.mode x.lastStartTx) s

/-- A HOUSE entry written, over the entry it replaces (R12, R63, R78). -/
def houseWritten (old : HouseEntry) (h : HouseId) (s : State) : State :=
  if old.station = (s.houseE h).station then s
  else
    let t := houseBegins h (clear .stationSilent h.val (modStation h (fun _ => .fresh s.now) s))
    (t.pumpsOf h).foldl (fun u p => pumpBegins p u) t

/-- The entries of a table with an index in a range, in index order. -/
def writtenIn (n first count : Nat) : List (Fin n) :=
  (List.finRange n).filter fun i => decide (first ≤ i.val ∧ i.val < first + count)

/-- The effects at the objects of the entries written, in index order. -/
def entriesWritten (t : TableId) (old : Tables) (first count : Nat) (s : State) : State :=
  match t with
  | .reservoir => (writtenIn 16 first count).foldl (fun u r => resWritten (old.reservoir.get r) r u) s
  | .house => (writtenIn 12 first count).foldl (fun u h => houseWritten (old.house.get h) h u) s
  | .pump => (writtenIn 32 first count).foldl (fun u p => pumpWritten (old.pump.get p) p u) s
  | .site | .band | .draw | .calendar | .plan => s

/-- Every ESTIMATED reservoir is tested for estimability (R38), in ascending number (log 33). -/
def watchAll (s : State) : State := allRes.foldl (fun t r => watchEstimate r t) s

/-- An accepted write: the entries are written together, and a structural write rebuilds the maps and acts at the
objects (R12, R13), with one hand-over of the load change it makes (R62; log 25). -/
def writeTables (t : TableId) (first : Nat) (ws : List (List Nat)) (s : State) : State :=
  let new := writeEntries t first ws s.tables
  if structural t then
    let u := rebuildMaps { accrueAll allPumps s with tables := new }
    loadChanged .live s.siteLoad (watchAll (entriesWritten t s.tables first ws.length u))
  else { s with tables := new }

end Sys2Proof.Machine
end

