-- ==== Sys2Proof/Machine/Engine.lean ====
section
/-! DEFINITION. The engine: starting (R20, R21, R23), stopping (R22), house modes (R96, R97, R145), RESTART (R185) and
power-up (R18, R173). -/

namespace Sys2Proof.Machine

/-! ### ENGINE START (R20) -/

/-- Step 1: the engine enters RUN, and the last refusal becomes none. -/
def enterRun (s : State) : State := { s with engine := .run, lastRefusal := none }

/-- Step 2: the adoptions of R21, by house and then by pump in ascending number (log 33). -/
def adoptAll (s : State) : State := s.autoHouses.foldl (fun t h => adoptHouse .starting h t) s

/-- Step 4: every AUTO house is evaluated, in ascending house number. -/
def evaluateAll (s : State) : State := s.autoHouses.foldl (fun t h => takeMark .starting h t) s

/-- Step 5: every AUTO house's orders are queued. -/
def queueAll (s : State) : State := s.autoHouses.foldl (fun t h => placeOrders true h t) s

/-- Step 6: the window, the shedding check and the consideration of a grant. -/
def grantPass (s : State) : State := consider .quiet (shed .quiet (recompute s))

/-- ENGINE START after its consistency check has passed, steps 1 to 6, and the take that follows (R20, R171). -/
def startEngine (s : State) : State := fieldTake (grantPass (queueAll (evaluateAll (adoptAll (enterRun s)))))

/-- The consistency check of the tables and the own address as they stand (R15). -/
def State.checkFailure (s : State) : Option TableRef := s.tables.firstFailure s.ownAddr.toNat

/-- A PENDING automatic start becomes CANCELLED (R20, R22). -/
def cancelAuto (s : State) : State := if s.autoStart = .pending then { s with autoStart := .cancelled } else s

/-- The automatic start is due: PENDING in STANDBY, with settle_s elapsed since the settle mark (R23). -/
def State.autoDue (s : State) : Bool :=
  s.autoStart == .pending && s.engine == .standby && s.reached s.settleMark s.site.settle

/-- The expiry of settle_s (R23). -/
def autoRun (s : State) : State :=
  if s.site.autoRun = 0 then { s with autoStart := .cancelled }
  else
    match s.checkFailure with
    | none => startEngine { s with autoStart := .done }
    | some f => { s with autoStart := .failed, lastRefusal := some f }

/-! ### Release of houses (R22, R96) -/

/-- The conditions of DRY_RUN_TRIP, OVERFLOW_HIGH and HOUSE_SHORT held by a house clear (R22, R96). -/
def clearHouseAlarms (h : HouseId) (s : State) : State :=
  let x := s.house h
  onlyIf x.short (clear .houseShort h.val)
    (onlyIf x.overflow (clear .overflowHigh (s.houseE h).delivery.val)
      (onlyIf x.dryLatch (clear .dryRunTrip h.val) s))

/-- A house's record at ENGINE STOP or at a change of mode away from AUTO (R22, R96). -/
def releaseRecord (h : HouseId) (s : State) : State := houseBegins h (clearHouseAlarms h s)

/-- The load changes of a release handed on: site load first, and then projected load where orders to stop were undone
(R62). -/
def handRelease (before : State) (s : State) : State :=
  onlyIf (s.stoppingLoad != before.stoppingLoad) (shed .live) (loadChanged .live before.siteLoad s)

/-- The start arbiter at ENGINE STOP: the request list is emptied and shed wait becomes none (R22, R117). -/
def emptyArbiter (s : State) : State := modArbiter (fun a => { a with requests := [], shedWait := none }) s

/-- ENGINE STOP in RUN (R22): all pumps and then all houses in ascending number (log 33). The takes follow at its end
(log 10). -/
def stopEngine (s : State) : State :=
  let t := refreshIdle (releaseAll (emptyArbiter { s with engine := .standby }))
  let t := allPumps.foldl (fun u p => releasePump p u) t
  let t := allHouses.foldl (fun u h => releaseRecord h u) t
  fieldTake (handRelease s t)

/-! ### House modes (R96, R97, R145) -/

/-- The mode of a house changes. -/
def setMode (h : HouseId) (m : Mode) (s : State) : State := modHouse h (fun x => { x with mode := m }) s

/-- A change from AUTO to MANUAL or OUT in RUN (R96, R145), its pumps in ascending number (log 33). -/
def leaveAuto (h : HouseId) (m : Mode) (s : State) : State :=
  let t := dropRequest h (setMode h m s)
  let t := fieldTake (releaseHouse h t)
  let u := (t.pumpsOf h).foldl (fun v p => releasePump p v) t
  handRelease t (releaseRecord h (setRefresh h none u))

/-- A change from MANUAL or OUT to AUTO in RUN (R97, R145): the adoptions, the mark, and the orders derived once. -/
def enterAuto (h : HouseId) (s : State) : State :=
  derive .live true h (mark h (adoptHouse .starting h (setMode h .auto s)))

/-- A HOUSE MODE request taken (R96). -/
def changeMode (h : HouseId) (m : Mode) (s : State) : State :=
  let was := (s.house h).mode
  if was = m then s
  else if s.engine ≠ .run then setMode h m s
  else if was = .auto then leaveAuto h m s
  else if m = .auto then enterAuto h s
  else setMode h m s

/-! ### RESTART (R185) -/

/-- The pump records after a reset, with run seconds and service state kept (R46). -/
def pumpsAfterReset (s : State) : Vector Pump 32 :=
  Vector.ofFn fun p =>
    .fresh (if (s.pumpE p).used then .unknown else .unused) (s.pump p).runSeconds (s.pump p).service

/-- The queued entries are kept with their enqueue marks at engine second 0 (R146). -/
def restartQueue (s : State) : List DispEntry := s.dispatcher.queue.map fun e => { e with enqueue := 0 }

/-- A port after RESTART: the receiver, the frame in transmission and the rate are kept (R172). -/
def PortState.restarted (p : PortState) : PortState := { p with fwd := [], runCount := 0, counters := .zero }

/-- Live state set as after power-up, with R185's exceptions. -/
def resetLive (s : State) : State :=
  { s with
    engine := .standby
    autoStart := .none
    settleMark := 0
    lastRefusal := none
    cursor := ⟨0, 0⟩
    responses := []
    lastSave := none
    storeTx := .idle
    now := 0
    reservoirs := .replicate 16 (.fresh 0)
    pumps := pumpsAfterReset s
    stations := .replicate 12 (.fresh 0)
    houses := Vector.ofFn fun h => .fresh (s.house h).mode 0
    marks := []
    arbiter := .fresh
    dispatcher := { Dispatcher.fresh with queue := restartQueue s, inTx := s.dispatcher.inTx }
    alarms := .fresh
    field := s.field.restarted
    sup := s.sup.restarted }

/-- RESTART up to its response, in the order of R185. The takes follow at its end (log 10). -/
def restartEngine (s : State) : State :=
  let t := accrueAll allPumps (if s.engine = .run then releaseAll s else s)
  fieldTake (latchNow .quiet .restart (resetLive t))

/-! ### Power-up (R18, R173, R183) -/

/-- The store after power is lost: a SAVE in hand leaves its image partly written (R183). -/
def State.storeAfterLoss (s : State) : Vector StoreImage 9 :=
  match s.storeTx with
  | .saving i => s.store.set i .partly
  | .idle | .restoring _ => s.store

/-- Power-up with the straps read: every value is that of the reset, and the store is not read where the address is
outside 1-239 (R173). The queue of commands is the model's. -/
def powerUpWith (address : Byte) (fieldRate supRate : BitVec 2) (s : State) : State :=
  { State.reset with
    ownAddr := address
    field := .fresh fieldRate
    sup := .fresh supRate
    storeTx := if 1 ≤ address.toNat && address.toNat ≤ 239 then .restoring 0 else .idle
    store := s.storeAfterLoss
    pending := s.pending }

end Sys2Proof.Machine
end

