-- ==== Sys2Proof/Machine/Store.lean ====
section
/-! DEFINITION. The store interface: SAVE (R183), the restore (R184) and the end of STARTUP (R18, R73). -/

namespace Sys2Proof.Machine

/-- The SAVE request's tag, which its response carries (R164). -/
def codeSave : Byte := 0x4B

/-! ### SAVE (R183) -/

/-- The start of a SAVE: its content is taken, with run seconds brought up to date. -/
def beginSave (s : State) : State :=
  let t := accrueAll allPumps s
  { t with saveContent := imagesOf t.tables t.pumps.toList, storeTx := .saving 0 }

/-- A SAVE ends: its result is kept and its response built. -/
def endSave (ok : Bool) (s : State) : State :=
  let t := { s with storeTx := .idle, lastSave := some (if ok then SaveResult.ok else .storeFault) }
  respond codeSave (if ok then .ok else .storeFault) .none t

/-- The image after an image, none after image 8. -/
def nextImage (i : ImageId) : Option ImageId := if h : i.val + 1 < 9 then some ⟨i.val + 1, h⟩ else none

/-- The store acknowledges the last byte of the image in hand. -/
def imageWritten (s : State) : State :=
  match s.storeTx with
  | .idle | .restoring _ => s
  | .saving i =>
    let t := { s with store := s.store.set i (.whole (s.saveContent.getD i [])) }
    match nextImage i with
    | some j => { t with storeTx := .saving j }
    | none => endSave true t

/-- The store fails to acknowledge a byte of the image in hand. -/
def saveFault (s : State) : State :=
  match s.storeTx with
  | .idle | .restoring _ => s
  | .saving i => endSave false { s with store := s.store.set i .partly }

/-! ### Places in the store (R182) -/

/-- The image in whose place a store address lies. -/
def imageAt (address : Nat) : Option ImageId :=
  (List.finRange 9).find? fun i => decide (imageAddress i ≤ address ∧ address < imageAddress i + imageLength i)

/-- The byte that the store holds at an address; none outside the images, and where the image there is blank or partly
written and its bytes are not known. -/
def State.storeByte (s : State) (address : Nat) : Option Byte :=
  match imageAt address with
  | none => none
  | some i =>
    match s.store.get i with
    | .whole bytes => bytes[address - imageAddress i]?
    | .blank | .partly => none

/-! ### Restore (R184) -/

/-- The bytes that a read of the image in hand delivers, none where no whole image was delivered. -/
def State.readBytes (s : State) (i : ImageId) : StoreRead → Option (List Byte)
  | .held =>
    match s.store.get i with
    | .whole c => some c
    | .blank | .partly => none
  | .bytes c => some c
  | .noAck => none

/-- A table image judged: a good one loads its table whole, and a bad one leaves it cleared (R184). -/
def restoreTable (t : TableId) (bytes : Option (List Byte)) (s : State) : State :=
  match bytes.bind (imageEntries t s.tables) with
  | some ws => { s with tables := writeEntries t 0 ws s.tables }
  | none => { s with imagesGood := false }

/-- A pump's run seconds and service state loaded. -/
def loadRun (s : State) (v : PumpId × (Nat × Service)) : State :=
  modPump v.1 (fun q => { q with runSeconds := v.2.1, service := v.2.2 }) s

/-- Image 8 judged (R184): every pump's run seconds and service state are loaded, or set to 0 and IN_SERVICE. -/
def restoreRuns (bytes : Option (List Byte)) (s : State) : State :=
  let vs :=
    match bytes.bind (imageContent 8) with
    | some content => runEntries 32 content
    | none => List.replicate 32 (0, .inService)
  (allPumps.zip vs).foldl loadRun s

/-- The pump records that begin at the end of STARTUP (R46). -/
def beginRecords (s : State) : State := { s with pumps := pumpsAfterReset s }

/-- The end of STARTUP (R18, R73): the maps are built, the period is latched from the restored fallback, the engine enters
STANDBY, and the automatic start becomes PENDING where every table image was good and auto_run is 1. -/
def endStartup (s : State) : State :=
  let t := latch .quiet none .powerUp (beginRecords (rebuildMaps { s with storeTx := .idle }))
  { t with
    engine := .standby
    settleMark := t.now
    autoStart := if t.imagesGood ∧ t.site.autoRun = 1 then .pending else .none }

/-- The read of the image in hand ends (R184). -/
def imageRead (r : StoreRead) (s : State) : State :=
  match s.storeTx with
  | .idle | .saving _ => s
  | .restoring i =>
    match nextImage i, tableOf i.val with
    | some j, some t => restoreTable t (s.readBytes i r) { s with storeTx := .restoring j }
    | _, _ => endStartup (restoreRuns (s.readBytes i r) s)

end Sys2Proof.Machine
end

