-- ==== Sys2Proof/Machine/Views.lean ====
section
/-! DEFINITION. The live views of READ LIVE (R181) with the contents their chapters give. -/

namespace Sys2Proof.Machine

/-- ENGINE item 0. -/
def State.engineView (s : State) : EngineView where
  engine := s.engine
  autoStart := s.autoStart
  settleMark := s.settleMark
  lastRefusal := s.lastRefusal
  ownAddr := s.ownAddr
  now := s.now
  timeSet := s.timeSet
  sod := s.sod
  day := s.day
  period := s.period
  budget := s.budget
  cursor := s.cursor
  lastSave := s.lastSave
  storeTx := s.storeTx

/-- A RESERVOIR item (R24). -/
def State.resItem (s : State) (r : ResId) : LiveItem := .reservoir (s.res r) (s.since (s.res r).lastAccept)

/-- A HOUSE item: the counts are computed afresh, and the station is reported for a used house (R63, R76, R77). -/
def State.houseItem (s : State) (h : HouseId) : LiveItem :=
  .house { s.house h with commanded := s.commandedCount h, usable := s.usableCount h } (s.activity h)
    (if (s.houseE h).used then some ((s.station h).state, s.since (s.station h).lastHeard) else none)

/-- A PUMP item (R45). -/
def State.pumpItem (s : State) (p : PumpId) : LiveItem := .pump (s.pump p) (s.ineligible p)

/-- ARBITER item 0 (R116). -/
def State.arbiterItem (s : State) : LiveItem :=
  .arbiter
    { requests := s.arbiter.requests.length
      window := s.arbiter.window
      lastGrantMark := s.arbiter.lastGrantMark
      lastGrant := s.arbiter.lastGrant
      shedWait := s.arbiter.shedWait
      siteLoad := s.siteLoad
      projected := s.projectedLoad
      budget := s.budget
      margin := s.site.budgetMargin
      elapsed := s.since s.arbiter.lastGrantMark
      overBudget := s.arbiter.overBudget }

/-- A request item of the ARBITER view (R116). -/
def State.requestItem (s : State) (e : Request) : LiveItem := .request e e.effective (s.unfit e)

/-- A per-house item of the DISPATCH view (R135). -/
def State.dispatchItem (s : State) (h : HouseId) : LiveItem :=
  let m := s.dispatcher.refresh.get h
  .dispatchHouse (s.dispatcher.lastSent.get h) m (m.map s.since)

/-- A PORTS item (R172). -/
def PortState.item (p : PortState) : LiveItem :=
  .port
    { counters := p.counters
      rx := p.rx
      forwarded := p.fwd.length
      sending := p.tx.map TxFrame.kind
      runCount := p.runCount
      rate := p.rate }

/-- The last item number of a view, none for a code above 7 (R181). -/
def lastItem : Nat → Option Nat
  | 0 => some 0
  | 1 => some 15
  | 2 => some 11
  | 3 => some 31
  | 4 => some 12
  | 5 => some 24
  | 6 => some 24
  | 7 => some 1
  | _ => none

/-- The items of a view that exist at the reading, from item 0 on (R181). -/
def State.viewItems (s : State) : Nat → List LiveItem
  | 0 => [.engine s.engineView]
  | 1 => allRes.map s.resItem
  | 2 => allHouses.map s.houseItem
  | 3 => allPumps.map s.pumpItem
  | 4 => s.arbiterItem :: s.arbiter.requests.map s.requestItem
  | 5 => allHouses.map s.dispatchItem ++ .dispatchInTx s.dispatcher.inTx :: s.dispatcher.queue.map .dispatchEntry
  | 6 =>
    .alarmSummary s.alarms.entries.length s.alarms.overflow s.alarms.overrun s.alarms.notices.length ::
      s.alarms.entries.map .alarm
  | 7 => [s.field.item, s.sup.item]
  | _ => []

/-- Whole items from the front, as many as fit in `room` bytes. -/
def fitItems : Nat → List LiveItem → List LiveItem
  | _, [] => []
  | room, i :: rest => if itemSize i ≤ room then i :: fitItems (room - itemSize i) rest else []

/-- The data of a live view response: items from `first`, as many as fit in 112 bytes, and the next item not carried, or
FFh where the view ended. -/
def State.viewData (s : State) (view first : Nat) : RespData :=
  let rest := (s.viewItems view).drop first
  let carried := fitItems 112 rest
  .live view first (if carried.length < rest.length then first + carried.length else 255) carried

/-- What a reading brings up to date before it: the run seconds of the PUMP view (R61, R181). -/
def beforeView (view : Nat) (s : State) : State := if view = 3 then accrueAll allPumps s else s

/-- What a reading changes after it: the notice-overrun indicator of the ALARMS view read from item 0 (R158). -/
def afterView (view first : Nat) (s : State) : State :=
  if view = 6 ∧ first = 0 then modAlarms (fun a => { a with overrun := false }) s else s

end Sys2Proof.Machine
end

