-- ==== Sys2Proof/Machine/Management.lean ====
section
/-! DEFINITION. The management unit: the judgement of a request (R175, R176), and each request's tests and effect (R20,
R22, R57, R61, R71, R72, R96, R154, R178-R181, R183, R185). -/

namespace Sys2Proof.Machine

/-! ### Answers -/

/-- What a request answers at once; none for a SAVE begun, whose response is built at its completion (R175, R183). -/
abbrev Reply := Option (Result × RespData)

/-- An answer without data. -/
def Reply.of (r : Result) : Reply := some (r, .none)

/-- The answer joins the response queue, after the effects of the request and the notices they build (log 33). -/
def answer (code : Byte) (a : State × Reply) : State :=
  match a.2 with
  | none => a.1
  | some r => respond code r.1 r.2 a.1

/-- R175, cases 1 and 2, before the request is handed to its own rule. A request reaches the part only where its own
address is a station's (R173). -/
def asked (code : Byte) (op : State → State × Reply) (s : State) : State :=
  if !s.addressValid || decide (6 ≤ s.responses.length) then s
  else if s.engine = .startup then respond code .wrongState .none s
  else answer code (op s)

/-- A refusal: no effect beyond the response (R177). -/
def refuse (r : Result) (s : State) : State × Reply := (s, .of r)

/-- A refusal with the table code and entry index of the failure (R164). -/
def refuseAt (table index : Nat) (s : State) : State × Reply := (s, some (.badValue, .failedAt table index))

/-- A request acted on. -/
def done (s : State) : State × Reply := (s, .of .ok)

/-! ### Tables (R178-R180) -/

/-- The entry that an index byte names (R178). -/
def entryAt (cursor : TableRef) (t : TableId) (index : Byte) : Option Nat :=
  let i := index.toNat
  let same := cursor.table == tableCode t
  if i = 255 then if same && decide (cursor.index + 1 < entryCount t) then some (cursor.index + 1) else none
  else if i = 254 then if same && decide (1 ≤ cursor.index) then some (cursor.index - 1) else none
  else if i = 253 then if same then some cursor.index else none
  else if i < entryCount t then some i
  else none

/-- The first entry of a count of entries within the table (R178). -/
def firstEntry (cursor : TableRef) (t : TableId) (index : Byte) (count : Nat) : Option Nat :=
  (entryAt cursor t index).filter fun i => decide (i + count ≤ entryCount t)

/-- A count of 1-8 (R178). -/
def countGood (count : Byte) : Bool := decide (1 ≤ count.toNat ∧ count.toNat ≤ 8)

/-- The entries of a table that one response carries, of `count` asked for (R179). -/
def entriesCarried (t : TableId) (count : Nat) : Nat := min count (113 / entrySize t)

/-- The cursor moves (R178). -/
def setCursor (t : TableId) (last : Nat) (s : State) : State := { s with cursor := ⟨tableCode t, last⟩ }

/-- READ TABLE (R179). -/
def readTable (table index count : Byte) (s : State) : State × Reply :=
  if !countGood count then refuse .badFormat s
  else
    match tableOf table.toNat with
    | none => refuse .badTable s
    | some t =>
      match firstEntry s.cursor t index count.toNat with
      | none => refuse .badIndex s
      | some i =>
        let n := entriesCarried t count.toNat
        (setCursor t (i + n - 1) s,
          some (.ok, .entries (tableCode t) i (((tableWords s.tables t).drop i).take n)))

/-- R180, test 1. -/
def writeFormatGood (table count : Byte) (entries : List Byte) : Bool :=
  countGood count
    && match tableOf table.toNat with
      | none => true
      | some t => entries.length == count.toNat * entrySize t

/-- R180, test 5: the engine state admits a write of the table's kind (R11). -/
def State.admits (s : State) (t : TableId) : Bool := s.engine == .standby || (s.engine == .run && !structural t)

/-- The entries of a WRITE TABLE as words. -/
def entryWords (t : TableId) (count : Nat) (entries : List Byte) : List (List Nat) :=
  piecesOf (fieldCount t) count (wordsOf entries)

/-- R180, test 7. -/
def State.writeConflict (s : State) (t : TableId) (first : Nat) (ws : List (List Nat)) : Option Nat :=
  if s.engine = .run then planFailure t (writeEntries t first ws s.tables) first ws.length else none

/-- R180, tests 6 and 7, and the write. -/
def writeChecked (t : TableId) (first : Nat) (ws : List (List Nat)) (s : State) : State × Reply :=
  match rangeFailure t s.tables first ws with
  | some i => refuseAt (tableCode t) i s
  | none =>
    match s.writeConflict t first ws with
    | some i => refuseAt (tableCode t) i s
    | none =>
      (setCursor t (first + ws.length - 1) (writeTables t first ws s),
        some (.ok, .written (tableCode t) first ws.length))

/-- WRITE TABLE, its tests in the order of R180. -/
def writeTable (table index count : Byte) (entries : List Byte) (s : State) : State × Reply :=
  if !writeFormatGood table count entries then refuse .badFormat s
  else
    match s.storeTx with
    | .saving _ => refuse .busy s
    | .idle | .restoring _ =>
      match tableOf table.toNat with
      | none => refuse .badTable s
      | some t =>
        match firstEntry s.cursor t index count.toNat with
        | none => refuse .badIndex s
        | some i =>
          if s.admits t then writeChecked t i (entryWords t count.toNat entries) s else refuse .wrongState s

/-! ### The other requests -/

/-- READ LIVE (R181). -/
def readLive (view first : Byte) (s : State) : State × Reply :=
  match lastItem view.toNat with
  | none => refuse .badValue s
  | some last =>
    if last < first.toNat then refuse .badIndex s
    else
      let t := beforeView view.toNat s
      (afterView view.toNat first.toNat t, some (.ok, t.viewData view.toNat first.toNat))

/-- SET TIME (R71). -/
def setTime (day second : Nat) (s : State) : State × Reply :=
  if 65535 < day ∨ 86399 < second then refuse .badValue s
  else done (latchNow .live .setTime { s with sod := second, day := day, timeSet := true })

/-- ENGINE START (R20). -/
def askStart (s : State) : State × Reply :=
  if s.engine ≠ .standby then refuse .wrongState s
  else
    let t := cancelAuto s
    match t.checkFailure with
    | some f => refuseAt f.table f.index { t with lastRefusal := some f }
    | none => done (startEngine t)

/-- ENGINE STOP (R22). -/
def askStop (s : State) : State × Reply := done (if s.engine = .run then stopEngine s else cancelAuto s)

/-- The mode of a code (R176). -/
def modeOf : Nat → Option Mode
  | 0 => some .auto
  | 1 => some .manual
  | 2 => some .out
  | _ => none

/-- The used house of a number (R96, R176). -/
def State.usedHouse (s : State) (n : Nat) : Option HouseId := (houseOf n).filter fun h => (s.houseE h).used

/-- The used pump of a number (R57, R61, R176). -/
def State.usedPump (s : State) (n : Nat) : Option PumpId := (pumpOf n).filter fun p => (s.pumpE p).used

/-- HOUSE MODE (R96). -/
def askMode (house mode : Byte) (s : State) : State × Reply :=
  match s.usedHouse house.toNat, modeOf mode.toNat with
  | none, _ => refuse .badIndex s
  | some _, none => refuse .badValue s
  | some h, some m => done (changeMode h m s)

/-- PUMP SERVICE with an action, none for a code other than 0 and 1 (R57, R176). -/
def askService (pump : Byte) (action : Option (PumpId → State → State)) (s : State) : State × Reply :=
  match s.usedPump pump.toNat, action with
  | none, _ => refuse .badIndex s
  | some _, none => refuse .badValue s
  | some p, some f => done (f p s)

/-- SET RUN SECONDS (R61). -/
def askRunSeconds (pump : Byte) (value : Nat) (s : State) : State × Reply :=
  match s.usedPump pump.toNat with
  | none => refuse .badIndex s
  | some p => done (modPump p (fun q => { q with runSeconds := value, accrualMark := s.now }) s)

/-- ALARM ACK of one kind and object (R154). -/
def askAck (kind object : Nat) (s : State) : State × Reply :=
  match (alarmOf kind).filter fun k => decide (object < alarmObjects k) with
  | none => refuse .badValue s
  | some k => if (s.alarmAt k object).isSome then done (acknowledge k object s) else refuse .notFound s

/-- ALARM ACK ALL (R154). -/
def askAckAll (s : State) : State × Reply := done (acknowledgeAll s)

/-- RELATCH (R72). -/
def askRelatch (s : State) : State × Reply := done (latchNow .live .relatch s)

/-- SAVE (R183). -/
def askSave (s : State) : State × Reply :=
  match s.storeTx with
  | .saving _ => refuse .busy s
  | .idle | .restoring _ => (beginSave s, none)

/-- RESTART (R185). -/
def askRestart (s : State) : State × Reply :=
  match s.storeTx with
  | .saving _ => refuse .busy s
  | .idle | .restoring _ => done (restartEngine s)

/-! ### Request codes and frames (R164, R175, R176) -/

def codeReadTable : Byte := 0x40
def codeWriteTable : Byte := 0x41
def codeReadLive : Byte := 0x42
def codeSetTime : Byte := 0x43
def codeStart : Byte := 0x44
def codeStop : Byte := 0x45
def codeMode : Byte := 0x46
def codeService : Byte := 0x47
def codeRunSeconds : Byte := 0x48
def codeAck : Byte := 0x49
def codeRelatch : Byte := 0x4A
def codeRestart : Byte := 0x4C

/-- The action of a PUMP SERVICE byte (R176). -/
def serviceAction : Nat → Option (PumpId → State → State)
  | 0 => some serviceReturn
  | 1 => some serviceWithdraw
  | _ => none

/-- ALARM ACK by its kind byte: FFh names ALL (R176). -/
def askAckByte (kind object : Byte) (s : State) : State × Reply :=
  if kind = 0xFF then askAckAll s else askAck kind.toNat object.toNat s

/-- A request of a known tag by its parameter bytes, in the sizes of R176; any other size is BAD_FORMAT. -/
def requestOf (tag : Nat) (c : List Byte) : State → State × Reply :=
  match tag, c with
  | 0x40, [table, index, count] => readTable table index count
  | 0x41, table :: index :: count :: entries => writeTable table index count entries
  | 0x42, [view, first] => readLive view first
  | 0x43, [d1, d0, s2, s1, s0] => setTime (numOf [d1, d0]) (numOf [s2, s1, s0])
  | 0x44, [] => askStart
  | 0x45, [] => askStop
  | 0x46, [house, mode] => askMode house mode
  | 0x47, [pump, action] => askService pump (serviceAction action.toNat)
  | 0x48, [pump, v3, v2, v1, v0] => askRunSeconds pump (numOf [v3, v2, v1, v0])
  | 0x49, [kind, object] => askAckByte kind object
  | 0x4A, [] => askRelatch
  | 0x4B, [] => askSave
  | 0x4C, [] => askRestart
  | _, _ => refuse .badFormat

/-- The request code of a frame's records: the tag of its one record, or 00h (R164). -/
def codeOf : List Rec → Byte
  | [r] => r.tag
  | _ => 0

/-- A tag that names a request (R164). -/
def isRequest (tag : Byte) : Bool := decide (0x40 ≤ tag.toNat ∧ tag.toNat ≤ 0x4C)

/-- The records of a request frame judged, cases 3 to 5 of R175. -/
def judgeRequest : List Rec → State → State × Reply
  | [r], s => if isRequest r.tag then requestOf r.tag.toNat r.content s else refuse .unknownRequest s
  | _, s => refuse .badFormat s

/-- A request frame taken (R175). -/
def takeRequest (rs : List Rec) (s : State) : State := asked (codeOf rs) (judgeRequest rs) s

end Sys2Proof.Machine
end

