-- ==== Sys2Proof/Machine/Receive.lean ====
section
/-! DEFINITION. Reception: the receivers (R165), the judgement of a frame (R166), its routing (R167) and the record
interpreter (R26, R44, R147). -/

namespace Sys2Proof.Machine

/-! ### A whole frame (R161) -/

/-- A byte of a frame by its place, SYNC being 0. -/
def frameByte (bytes : List Byte) (i : Nat) : Byte := bytes.getD i 0

/-- The record bytes of a whole frame. -/
def frameRecords (bytes : List Byte) : List Byte := (bytes.drop 5).dropLast

/-- The check test (R166): the sum of LENGTH through CHECK is 0 modulo 256. -/
def checkGood (bytes : List Byte) : Bool := byteSum (bytes.drop 1) % 256 == 0

/-! ### Counters (R172) -/

def countOn (p : Port) (f : Counters → Counters) (s : State) : State :=
  modPort p (fun q => { q with counters := f q.counters }) s

def countGoodFrame (c : Counters) : Counters := { c with good := bump c.good }
def countCheckFail (c : Counters) : Counters := { c with checkFail := bump c.checkFail }
def countLengthDrop (c : Counters) : Counters := { c with lengthDrop := bump c.lengthDrop }
def countAbandon (c : Counters) : Counters := { c with abandon := bump c.abandon }

/-! ### The record interpreter (R26, R44) -/

/-- A LEVEL record from a station (R26): a pair outside the level source map is ignored. -/
def takeLevel (src channel raw : Nat) (flag : Bool) (s : State) : State :=
  match s.levelMap.find? fun k => k.station == src && k.channel == channel with
  | none => s
  | some k => levelRecord k.reservoir raw flag s

/-- A PUMP record from a station (R44): a pair outside the pump source map is ignored. -/
def takePump (src slot run panel fault : Nat) (s : State) : State :=
  match s.pumpMap.find? fun k => k.station == src && k.slot.val == slot with
  | none => s
  | some k => pumpRecord .live k.pump run panel fault s

/-- One record of a TELEMETRY frame (R162): any other tag or LEN is stepped over. -/
def takeRecord (src : Nat) (s : State) (r : Rec) : State :=
  match r.content with
  | [a, b, c, d] =>
    if r.tag = tagLevel then takeLevel src a.toNat (numOf [b, c]) (d.getLsbD 0) s
    else if r.tag = tagPump then takePump src a.toNat b.toNat c.toNat d.toNat s
    else s
  | _ => s

/-! ### Routing (R167) -/

/-- A good frame on the field port: the stations, and the records of TELEMETRY. -/
def routeField (src kind : Byte) (rs : List Rec) (s : State) : State :=
  let t := stationHeardFrom src.toNat s
  if kind = kindTelemetry then rs.foldl (takeRecord src.toNat) t else t

/-- The house whose orders a COMMAND frame would contradict (R147). -/
def State.refusing (s : State) (dest : Byte) : Option HouseId :=
  allHouses.find? fun h => s.active h && (s.houseE h).station == dest.toNat

/-- A good frame on the supervisory port: consumed, or forwarded. -/
def routeSup (bytes : List Byte) (rs : List Rec) (s : State) : State :=
  let dest := frameByte bytes 2
  let src := frameByte bytes 3
  let kind := frameByte bytes 4
  if kind = kindRequest ∧ dest = s.ownAddr ∧ s.addressValid then takeRequest rs s
  else
    match if kind = kindCommand then s.refusing dest else none with
    | some h => pushNotice (.refusal dest src h s.now) s
    | none => forward .supervisory bytes s

/-- A good frame routed and, unless it is consumed, forwarded (R166, R167). -/
def routeGood (p : Port) (bytes : List Byte) (rs : List Rec) (s : State) : State :=
  match p with
  | .field => forward .field bytes (routeField (frameByte bytes 3) (frameByte bytes 4) rs s)
  | .supervisory => routeSup bytes rs s

/-- A frame judged at the arrival of its CHECK byte (R166). -/
def judgeFrame (p : Port) (bytes : List Byte) (s : State) : State :=
  match walkRecords (frameRecords bytes) with
  | none => countOn p countLengthDrop s
  | some rs =>
    if checkGood bytes then routeGood p bytes rs (countOn p countGoodFrame s)
    else forward p bytes (countOn p countCheckFail s)

/-! ### The receiver (R165) -/

/-- The receiver's state and assembly buffer. -/
def setRx (p : Port) (rx : RxState) (buf : List Byte) (s : State) : State :=
  modPort p (fun q => { q with rx := rx, buf := buf }) s

/-- The body is complete: LENGTH bytes have followed SYNC and LENGTH. -/
def bodyDone (buf : List Byte) : Bool := buf.length == (frameByte buf 1).toNat + 2

/-- A byte arrives at a receiver (R165). -/
def receiveByte (p : Port) (b : Byte) (s : State) : State :=
  let q := s.port p
  match q.rx with
  | .hunt => if b = syncByte then setRx p .length [b] s else s
  | .length =>
    if 3 ≤ b.toNat ∧ b.toNat ≤ 123 then setRx p .body (q.buf ++ [b]) s
    else countOn p countLengthDrop (setRx p .hunt [] s)
  | .body => setRx p (if bodyDone (q.buf ++ [b]) then .check else .body) (q.buf ++ [b]) s
  | .check => judgeFrame p (q.buf ++ [b]) (setRx p .hunt [] s)

/-- The frame in assembly is abandoned, by a gap or a framing error; in HUNT there is none (R165). -/
def abandonFrame (p : Port) (s : State) : State :=
  if (s.port p).rx = .hunt then s else countOn p countAbandon (setRx p .hunt [] s)

end Sys2Proof.Machine
end

