-- ==== Sys2Proof/Machine/Timers.lean ====
section
/-! DEFINITION. The timer expiries of pump supervision, the house evaluator, the arbiter and the dispatcher: when each is
due, and what it does (R52, R53, R60, R64, R79, R86, R91, R102, R122, R128, R142). -/

namespace Sys2Proof.Machine

/-! ### Stations and confirm timers (R52, R53, R64) -/

/-- The station silence timer is due: a used house whose station is HEARD (R64). -/
def State.stationDue (s : State) (h : HouseId) : Bool :=
  s.engine != .startup && (s.houseE h).used && (s.station h).state == .heard
    && s.reached (s.station h).lastHeard s.site.stationSilence

/-- The station becomes SILENT, in the order of R64. -/
def stationSilenced (h : HouseId) (s : State) : State :=
  let t := raise .stationSilent h.val none .none (modStation h (fun x => { x with state := .silent }) s)
  mark h (stationLost h (holdPumps true h t))

/-- A confirm timer is due: the pump is in its ordered state with the order TRANSMITTED, is not held, and the confirm time
has elapsed since its mark. -/
def State.confirmDue (s : State) (p : PumpId) (run : RunState) (length : Nat) : Bool :=
  let q := s.pump p
  q.run == run && q.order == .transmitted && !q.held
    && match q.confirmMark with
      | none => false
      | some m => s.reached m length

/-- The start confirm expiry (R52): FAILED with START_FAIL, except in HAND or OFF, with one mark for the changes of run and
service state (log 36). -/
def startUnconfirmed (p : PumpId) (s : State) : State :=
  let failed := !(s.pump p).isLocal
  let t := onlyIf failed (modPump p fun q => { q with service := .failed }) (failCore p s)
  derivePump .live p (onlyIf failed (raisePump .startFail p) (markPump p (loadFell .live t)))

/-- The stop confirm expiry (R53): STOP_FAIL with the stop still in force, except in HAND or OFF, where the pump runs on
under local control. The confirm mark is none after it (log 15). -/
def stopUnconfirmed (p : PumpId) (s : State) : State :=
  if (s.pump p).isLocal then derivePump .live p (markPump p (shed .live (runOnCore p s)))
  else
    markPump p (raisePump .stopFail p (modPump p (fun q => { q with stopExpired := true, confirmMark := none }) s))

/-! ### Start history (R60) -/

/-- The oldest start history entry is 3600 s old (R60). -/
def State.ageingDue (s : State) (p : PumpId) : Bool :=
  match (s.pump p).history with
  | [] => false
  | m :: _ => s.reached m 3600

/-- The oldest start history entry leaves the list, and the house is marked (R60). -/
def historyAged (p : PumpId) (s : State) : State :=
  markPump p (modPump p (fun q => { q with history := q.history.tail }) s)

/-! ### Houses (R79, R86, R91, R102) -/

/-- The first mark of a house in the list is taken (R79). -/
def takeHouseMark (h : HouseId) (s : State) : State :=
  if h ∈ s.marks then takeMark .live h { s with marks := s.marks.erase h } else s

/-- The stagger expiry comes at this second (R91, R98). -/
def State.staggerDue (s : State) (h : HouseId) : Bool := (s.house h).staggerAt == some s.now

/-- The stagger expiry: the house is marked (R91). -/
def staggerOver (h : HouseId) (s : State) : State := mark h (modHouse h (fun x => { x with staggerAt := none }) s)

/-- A timed fallback phase has lasted its length in force (R86). -/
def State.phaseDue (s : State) (h : HouseId) : Bool :=
  s.active h
    && match (s.house h).phase, (s.house h).phaseMark with
      | .none, _ => false
      | _, none => false
      | _, some m => s.reached m (s.house h).phaseLen

/-- The phase changes, and the house is marked (R86). -/
def phaseOver (h : HouseId) (s : State) : State := passPhase h s

/-- The rotation expiry comes at this second (R102). -/
def State.rotationDue (s : State) (h : HouseId) : Bool := (s.house h).rotAt == some s.now

/-- The rotation expiry: the house is marked (R102). -/
def rotationOver (h : HouseId) (s : State) : State := mark h (modHouse h (fun x => { x with rotAt := none }) s)

/-! ### Arbiter and dispatcher (R122, R128, R142) -/

/-- The ageing timer of a house's request is due (R122). -/
def State.requestDue (s : State) (h : HouseId) : Bool :=
  match s.requestOf h with
  | none => false
  | some e => s.reached e.ageMark s.site.age

/-- The entry of a house ages, and a grant is considered (R122). -/
def requestAged (h : HouseId) (s : State) : State :=
  consider .live
    (modArbiter
      (fun a =>
        { a with
          requests := a.requests.map fun e => if e.house = h then { e with aged := e.agedUp, ageMark := s.now } else e })
      s)

/-- The grant gap is first reached (R124, R128). -/
def State.gapDue (s : State) : Bool := s.firstReached s.arbiter.lastGrantMark s.site.grantGap

/-- No entry of the house is in transmission. -/
def State.notInTx (s : State) (h : HouseId) : Bool :=
  match s.dispatcher.inTx with
  | none => true
  | some e => decide (e.house ≠ h)

/-- The refresh timer of a house is due, and no entry for it is queued or in transmission (R142). -/
def State.refreshDue (s : State) (h : HouseId) : Bool :=
  s.active h && (s.queuedEntry h).isNone && s.notInTx h
    && match s.dispatcher.refresh.get h with
      | none => false
      | some m => s.reached m s.site.refresh

/-- The operation where the condition of an expiry holds; otherwise the expiry does not come (log 5). -/
def whenDue (due : Bool) (f : State → State) (s : State) : State := if due then f s else s

end Sys2Proof.Machine
end

