-- ==== Sys2Proof/Machine/PortCommands.lean ====
section
/-! DEFINITION. The commands of the reset input, the trunk lines and the store line. -/

namespace Sys2Proof.Machine

/-- POWER_UP (R18, R173). -/
def execPowerUp (address : Byte) (fieldRate supRate : BitVec 2) (s : State) : Host.Outcome State Fault Refusal :=
  .next (powerUpWith address fieldRate supRate s)

/-- FRAME_ARRIVAL (R166): the byte that completes a frame. -/
def execFrameArrival (port : Port) (check : Byte) (s : State) : Host.Outcome State Fault Refusal :=
  .next (receiveByte port check s)

/-- BAD_LENGTH_BYTE (R165, R166): one byte arrival, which fails where a LENGTH is awaited (log 24). -/
def execBadLengthByte (port : Port) (byte : Byte) (s : State) : Host.Outcome State Fault Refusal :=
  .next (receiveByte port byte s)

/-- GAP_EXPIRY (R165). -/
def execGapExpiry (port : Port) (s : State) : Host.Outcome State Fault Refusal := .next (abandonFrame port s)

/-- FRAMING_ERROR (R165). -/
def execFramingError (port : Port) (s : State) : Host.Outcome State Fault Refusal := .next (abandonFrame port s)

/-- RECEIVED_BYTE (R165). -/
def execReceivedByte (port : Port) (byte : Byte) (s : State) : Host.Outcome State Fault Refusal :=
  .next (receiveByte port byte s)

/-- TRANSMIT_COMPLETION (R171). -/
def execTransmitCompletion (port : Port) (s : State) : Host.Outcome State Fault Refusal := .next (completeTx port s)

/-- STORE_IMAGE_WRITTEN (R183). -/
def execStoreImageWritten (s : State) : Host.Outcome State Fault Refusal := .next (imageWritten s)

/-- STORE_FAULT (R183). -/
def execStoreFault (s : State) : Host.Outcome State Fault Refusal := .next (saveFault s)

/-- RESTORE_IMAGE_READ (R184). -/
def execRestoreImageRead (read : StoreRead) (s : State) : Host.Outcome State Fault Refusal := .next (imageRead read s)

end Sys2Proof.Machine
end

