-- ==== Sys2Proof/Machine/RequestCommands.lean ====
section
/-! DEFINITION. The commands that are management requests (R175, R176): a request frame for the part, taken whole. -/

namespace Sys2Proof.Machine

/-- MGMT_REQUEST_MALFORMED (R175): a frame with these record bytes. Bytes that do not split into records fail the length
test of their frame and reach no request (R162, R166). -/
def execMgmtRequestMalformed (records : List Byte) (s : State) : Host.Outcome State Fault Refusal :=
  .next
    (match walkRecords records with
    | none => s
    | some rs => takeRequest rs s)

/-- READ_TABLE (R179). -/
def execReadTable (table index count : Byte) (s : State) : Host.Outcome State Fault Refusal :=
  .next (asked codeReadTable (readTable table index count) s)

/-- WRITE_TABLE (R180). -/
def execWriteTable (table index count : Byte) (entries : List Byte) (s : State) : Host.Outcome State Fault Refusal :=
  .next (asked codeWriteTable (writeTable table index count entries) s)

/-- READ_LIVE (R181). -/
def execReadLive (view first : Byte) (s : State) : Host.Outcome State Fault Refusal :=
  .next (asked codeReadLive (readLive view first) s)

/-- SET_TIME (R71). -/
def execSetTime (day : BitVec 16) (second : BitVec 24) (s : State) : Host.Outcome State Fault Refusal :=
  .next (asked codeSetTime (setTime day.toNat second.toNat) s)

/-- ENGINE_START (R20). -/
def execEngineStart (s : State) : Host.Outcome State Fault Refusal := .next (asked codeStart askStart s)

/-- ENGINE_STOP (R22). -/
def execEngineStop (s : State) : Host.Outcome State Fault Refusal := .next (asked codeStop askStop s)

/-- HOUSE_MODE (R96, R97). -/
def execHouseMode (house mode : Byte) (s : State) : Host.Outcome State Fault Refusal :=
  .next (asked codeMode (askMode house mode) s)

/-- PUMP_SERVICE_RETURN (R57). -/
def execPumpServiceReturn (pump : Byte) (s : State) : Host.Outcome State Fault Refusal :=
  .next (asked codeService (askService pump (some serviceReturn)) s)

/-- PUMP_SERVICE_WITHDRAW (R57). -/
def execPumpServiceWithdraw (pump : Byte) (s : State) : Host.Outcome State Fault Refusal :=
  .next (asked codeService (askService pump (some serviceWithdraw)) s)

/-- SET_RUN_SECONDS (R61). -/
def execSetRunSeconds (pump : Byte) (value : BitVec 32) (s : State) : Host.Outcome State Fault Refusal :=
  .next (asked codeRunSeconds (askRunSeconds pump value.toNat) s)

/-- ALARM_ACK of one kind and object (R154); kind FFh spells ALARM ACK ALL (R176). -/
def execAlarmAck (kind object : Byte) (s : State) : Host.Outcome State Fault Refusal :=
  .next (asked codeAck (askAckByte kind object) s)

/-- ALARM_ACK_ALL (R154). -/
def execAlarmAckAll (_object : Byte) (s : State) : Host.Outcome State Fault Refusal := .next (asked codeAck askAckAll s)

/-- RELATCH (R72). -/
def execRelatch (s : State) : Host.Outcome State Fault Refusal := .next (asked codeRelatch askRelatch s)

/-- SAVE (R183). -/
def execSave (s : State) : Host.Outcome State Fault Refusal := .next (asked codeSave askSave s)

/-- RESTART (R185). -/
def execRestart (s : State) : Host.Outcome State Fault Refusal := .next (asked codeRestart askRestart s)

end Sys2Proof.Machine
end

