-- ==== Sys2Proof/Machine/TimerCommands.lean ====
section
/-! DEFINITION. The commands of the clock and of the timers, and the evaluation of a marked house. An expiry that is not
due has no effect (log 5). -/

namespace Sys2Proof.Machine

/-- ENGINE_SECOND_ADVANCE (R65). -/
def execEngineSecondAdvance (s : State) : Host.Outcome State Fault Refusal := .next (advance s)

/-- AUTOMATIC_START (R23). -/
def execAutomaticStart (s : State) : Host.Outcome State Fault Refusal := .next (whenDue s.autoDue autoRun s)

/-- SILENCE_EXPIRY (R36). -/
def execSilenceExpiry (r : ResId) (s : State) : Host.Outcome State Fault Refusal :=
  .next (whenDue (s.silenceDue r) (silenceOver r) s)

/-- LOSS_EXPIRY (R35, R38). -/
def execLossExpiry (r : ResId) (s : State) : Host.Outcome State Fault Refusal :=
  .next (whenDue (s.lossDue r) (loseLevel r) s)

/-- ESTIMATE_STEP (R41, R42). -/
def execEstimateStep (r : ResId) (s : State) : Host.Outcome State Fault Refusal :=
  .next (whenDue (s.stepDue r) (estimateOnce r) s)

/-- STATION_SILENCE_EXPIRY (R64). -/
def execStationSilenceExpiry (h : HouseId) (s : State) : Host.Outcome State Fault Refusal :=
  .next (whenDue (s.stationDue h) (stationSilenced h) s)

/-- START_CONFIRM_EXPIRY (R52). -/
def execStartConfirmExpiry (p : PumpId) (s : State) : Host.Outcome State Fault Refusal :=
  .next (whenDue (s.confirmDue p .startOrdered s.site.startConfirm) (startUnconfirmed p) s)

/-- STOP_CONFIRM_EXPIRY (R53). -/
def execStopConfirmExpiry (p : PumpId) (s : State) : Host.Outcome State Fault Refusal :=
  .next (whenDue (s.confirmDue p .stopOrdered s.site.stopConfirm) (stopUnconfirmed p) s)

/-- MIN_RUN_EXPIRY (R59): the house is marked, and the shedding check is made. -/
def execMinRunExpiry (p : PumpId) (s : State) : Host.Outcome State Fault Refusal :=
  .next (whenDue (s.minRunDue p) (minRunOver p) s)

/-- MIN_OFF_EXPIRY (R59). -/
def execMinOffExpiry (p : PumpId) (s : State) : Host.Outcome State Fault Refusal :=
  .next (whenDue (s.minOffDue p) (minOffOver p) s)

/-- HISTORY_AGEING (R60). -/
def execHistoryAgeing (p : PumpId) (s : State) : Host.Outcome State Fault Refusal :=
  .next (whenDue (s.ageingDue p) (historyAged p) s)

/-- HOUSE_EVALUATION (R80): a mark of the house is taken. -/
def execHouseEvaluation (h : HouseId) (s : State) : Host.Outcome State Fault Refusal := .next (takeHouseMark h s)

/-- STAGGER_EXPIRY (R91). -/
def execStaggerExpiry (h : HouseId) (s : State) : Host.Outcome State Fault Refusal :=
  .next (whenDue (s.staggerDue h) (staggerOver h) s)

/-- FALLBACK_PHASE_EXPIRY (R86). -/
def execFallbackPhaseExpiry (h : HouseId) (s : State) : Host.Outcome State Fault Refusal :=
  .next (whenDue (s.phaseDue h) (phaseOver h) s)

/-- ROTATION_EXPIRY (R102). -/
def execRotationExpiry (h : HouseId) (s : State) : Host.Outcome State Fault Refusal :=
  .next (whenDue (s.rotationDue h) (rotationOver h) s)

/-- REQUEST_AGEING_EXPIRY (R122). -/
def execRequestAgeingExpiry (h : HouseId) (s : State) : Host.Outcome State Fault Refusal :=
  .next (whenDue (s.requestDue h) (requestAged h) s)

/-- GRANT_GAP_EXPIRY (R128). -/
def execGrantGapExpiry (s : State) : Host.Outcome State Fault Refusal := .next (whenDue s.gapDue (consider .live) s)

/-- REFRESH_EXPIRY (R142). -/
def execRefreshExpiry (h : HouseId) (s : State) : Host.Outcome State Fault Refusal :=
  .next (whenDue (s.refreshDue h) (derive .live true h) s)

end Sys2Proof.Machine
end

