-- ==== Sys2Proof/Machine/Dispatch.lean ====
section
/-! DEFINITION. The effect of each command on everything but the queue. -/

namespace Sys2Proof.Machine

def exec (i : Instr) (s : State) : Host.Outcome State Fault Refusal :=
  match i with
  | .powerUp address fieldRate supRate => Sys2Proof.Machine.execPowerUp address fieldRate supRate s
  | .frameArrival port check => Sys2Proof.Machine.execFrameArrival port check s
  | .badLengthByte port byte => Sys2Proof.Machine.execBadLengthByte port byte s
  | .gapExpiry port => Sys2Proof.Machine.execGapExpiry port s
  | .framingError port => Sys2Proof.Machine.execFramingError port s
  | .mgmtRequestMalformed records => Sys2Proof.Machine.execMgmtRequestMalformed records s
  | .readTable table index count => Sys2Proof.Machine.execReadTable table index count s
  | .writeTable table index count entries => Sys2Proof.Machine.execWriteTable table index count entries s
  | .readLive view first => Sys2Proof.Machine.execReadLive view first s
  | .setTime day second => Sys2Proof.Machine.execSetTime day second s
  | .engineStart => Sys2Proof.Machine.execEngineStart s
  | .engineStop => Sys2Proof.Machine.execEngineStop s
  | .houseMode house mode => Sys2Proof.Machine.execHouseMode house mode s
  | .pumpServiceReturn pump => Sys2Proof.Machine.execPumpServiceReturn pump s
  | .pumpServiceWithdraw pump => Sys2Proof.Machine.execPumpServiceWithdraw pump s
  | .setRunSeconds pump value => Sys2Proof.Machine.execSetRunSeconds pump value s
  | .alarmAck kind object => Sys2Proof.Machine.execAlarmAck kind object s
  | .alarmAckAll object => Sys2Proof.Machine.execAlarmAckAll object s
  | .relatch => Sys2Proof.Machine.execRelatch s
  | .save => Sys2Proof.Machine.execSave s
  | .restart => Sys2Proof.Machine.execRestart s
  | .storeImageWritten => Sys2Proof.Machine.execStoreImageWritten s
  | .storeFault => Sys2Proof.Machine.execStoreFault s
  | .restoreImageRead read => Sys2Proof.Machine.execRestoreImageRead read s
  | .engineSecondAdvance => Sys2Proof.Machine.execEngineSecondAdvance s
  | .automaticStart => Sys2Proof.Machine.execAutomaticStart s
  | .silenceExpiry reservoir => Sys2Proof.Machine.execSilenceExpiry reservoir s
  | .lossExpiry reservoir => Sys2Proof.Machine.execLossExpiry reservoir s
  | .estimateStep reservoir => Sys2Proof.Machine.execEstimateStep reservoir s
  | .stationSilenceExpiry house => Sys2Proof.Machine.execStationSilenceExpiry house s
  | .startConfirmExpiry pump => Sys2Proof.Machine.execStartConfirmExpiry pump s
  | .stopConfirmExpiry pump => Sys2Proof.Machine.execStopConfirmExpiry pump s
  | .minRunExpiry pump => Sys2Proof.Machine.execMinRunExpiry pump s
  | .minOffExpiry pump => Sys2Proof.Machine.execMinOffExpiry pump s
  | .historyAgeing pump => Sys2Proof.Machine.execHistoryAgeing pump s
  | .houseEvaluation house => Sys2Proof.Machine.execHouseEvaluation house s
  | .staggerExpiry house => Sys2Proof.Machine.execStaggerExpiry house s
  | .fallbackPhaseExpiry house => Sys2Proof.Machine.execFallbackPhaseExpiry house s
  | .rotationExpiry house => Sys2Proof.Machine.execRotationExpiry house s
  | .requestAgeingExpiry house => Sys2Proof.Machine.execRequestAgeingExpiry house s
  | .grantGapExpiry => Sys2Proof.Machine.execGrantGapExpiry s
  | .refreshExpiry house => Sys2Proof.Machine.execRefreshExpiry house s
  | .transmitCompletion port => Sys2Proof.Machine.execTransmitCompletion port s
  | .receivedByte port byte => Sys2Proof.Machine.execReceivedByte port byte s

end Sys2Proof.Machine
end

