-- ==== Sys2Proof/Safety.lean ====
section
/-! DEFINITION. The terms of the statements: what a cascade of orders may touch (the frames), the bounds of every queue and
counter, the frames in assembly, runs of commands, and the words of a write as they stand. -/

namespace Sys2Proof.Machine

/-! ### Frames: a state apart from some of its parts -/

/-- A port apart from what waits to leave it and what it sends. -/
def PortState.apartOut (p : PortState) : PortState := { p with fwd := [], tx := none, runCount := 0 }

/-- A state apart from the alarm list, the notices, the responses and the output of the supervisory port. -/
def State.apartAlarms (s : State) : State :=
  { s with alarms := .fresh, responses := [], sup := s.sup.apartOut }

/-- A pump apart from its orders, its marks of a stop and its run seconds. -/
def Pump.apartOrder (q : Pump) : Pump :=
  { q with
    run := .unknown
    commanded := false
    order := .none
    stopMark := none
    orderTx := none
    confirmMark := none
    runSeconds := 0
    accrualMark := 0
    admission := none
    stopExpired := false
    minOffOpen := false }

/-- A house apart from its start in flight. -/
def House.apartStart (x : House) : House := { x with start := .none }

/-- A state apart from its alarms, the marks, the arbiter, the dispatcher, the orders of the pumps, the starts in flight
and the output of both ports. -/
def State.apartOrders (s : State) : State :=
  { s.apartAlarms with
    marks := []
    arbiter := .fresh
    dispatcher := .fresh
    field := s.field.apartOut
    houses := s.houses.map House.apartStart
    pumps := s.pumps.map Pump.apartOrder }

/-- A state apart from its orders and from the record of one house, of which the mode and last_start_tx stand. -/
def State.apartHouse (h : HouseId) (s : State) : State :=
  { s.apartOrders with
    houses := (s.houses.map House.apartStart).set h (.fresh (s.house h).mode (s.house h).lastStartTx) }

/-- A state apart from its orders and from the records of the houses, of which the modes and last_start_tx stand. -/
def State.apartHouses (s : State) : State :=
  { s.apartOrders with houses := s.houses.map fun x => .fresh x.mode x.lastStartTx }

/-- A state apart from its alarms and from the marks of houses. -/
def State.apartMarks (s : State) : State := { s.apartAlarms with marks := [] }

/-- The pump records with the chosen pumps adopted: run_start now with its min-run begun, and IN_SERVICE where FAILED
(R21, R48, R59). -/
def State.pumpsAdopted (s : State) (adopted : PumpId → Bool) : Vector Pump 32 :=
  Vector.ofFn fun p =>
    let q := s.pump p
    if adopted p then
      { q with
        runStart := s.now, minRunOpen := decide (1 ≤ (s.pumpE p).minRun)
        service := if q.service = .failed then .inService else q.service }
    else q

/-! ### Bounds of the queues, lists and counters -/

/-- The six counters stay within 16 bits (R172). -/
structure Counters.Bounded (c : Counters) : Prop where
  good : c.good ≤ 65535
  checkFail : c.checkFail ≤ 65535
  lengthDrop : c.lengthDrop ≤ 65535
  abandon : c.abandon ≤ 65535
  forwardDrop : c.forwardDrop ≤ 65535
  sent : c.sent ≤ 65535

/-- A port's forward queue, run count and counters (R168-R170, R172). -/
structure PortState.Bounded (limit : Nat) (p : PortState) : Prop where
  fwd : p.fwd.length ≤ 8
  runCount : p.runCount ≤ limit
  counters : p.counters.Bounded

/-- A RELEASE entry has every slot LOCAL, hold 0 and no marks (R134). -/
def DispEntry.Sound (e : DispEntry) : Prop :=
  e.kind = .release →
    e.orders = .replicate 4 .localControl ∧ e.hold = 0 ∧ e.startMarks = .replicate 4 false
      ∧ e.stopMarks = .replicate 4 false

/-- The alarm list: 24 entries, one for a kind and object, repeats to 255, and 6 notices (R150, R157). -/
structure Alarms.Bounded (a : Alarms) : Prop where
  entries : a.entries.length ≤ 24
  keys : (a.entries.map fun e => (e.kind, e.object)).Nodup
  repeats : ∀ e ∈ a.entries, e.repeats ≤ 255
  notices : a.notices.length ≤ 6

/-- The dispatcher: one entry for a house, and RELEASE entries as R134 gives them. -/
structure Dispatcher.Bounded (d : Dispatcher) : Prop where
  houses : (d.queue.map fun e => e.house).Nodup
  queue : ∀ e ∈ d.queue, e.Sound
  inTx : ∀ e, d.inTx = some e → e.Sound

/-- Every queue, list and counter of the part is within its bound. -/
structure State.Bounded (s : State) : Prop where
  responses : s.responses.length ≤ 6
  alarms : s.alarms.Bounded
  requests : (s.arbiter.requests.map fun e => e.house).Nodup
  dispatcher : s.dispatcher.Bounded
  field : s.field.Bounded 3
  sup : s.sup.Bounded 4

/-- The pumps' run seconds saturate (R61), and a start history holds at most max_starts entries (R60), as the tables stand
once their restore, which only STARTUP makes, has ended. A cleared entry's history still takes its one start. -/
structure State.PumpsBounded (s : State) : Prop where
  seconds : ∀ p, (s.pump p).runSeconds ≤ 4294967295
  restoring : ∀ i, s.storeTx = .restoring i → s.engine = .startup
  histories : s.engine ≠ .startup → ∀ p, (s.pump p).history.length ≤ max 1 (s.pumpE p).maxStarts

/-! ### Frames in assembly (R165) -/

/-- What the assembly buffer holds in each receiver state: nothing, SYNC, and SYNC with a LENGTH of 3-123 and the body
so far. -/
def PortState.Assembled (p : PortState) : Prop :=
  match p.rx with
  | .hunt => p.buf = []
  | .length => p.buf = [0xC3]
  | .body =>
    p.buf.take 1 = [0xC3] ∧ 3 ≤ (p.buf.getD 1 0).toNat ∧ (p.buf.getD 1 0).toNat ≤ 123 ∧ 2 ≤ p.buf.length
      ∧ p.buf.length < (p.buf.getD 1 0).toNat + 2
  | .check =>
    p.buf.take 1 = [0xC3] ∧ 3 ≤ (p.buf.getD 1 0).toNat ∧ (p.buf.getD 1 0).toNat ≤ 123
      ∧ p.buf.length = (p.buf.getD 1 0).toNat + 2

/-- Both receivers. -/
def State.Assembled (s : State) : Prop := s.field.Assembled ∧ s.sup.Assembled

/-! ### Runs of commands -/

/-- Commands taken one after another, to the first that stops. -/
def execAll : List Instr → State → Host.Outcome State Fault Refusal
  | [], s => .next s
  | c :: cs, s =>
    match exec c s with
    | .next t => execAll cs t
    | .fault f => .fault f
    | .refused r => .refused r

/-! ### Requests -/

/-- The state in which a request frame is handed to its own rule: the own address is a station's, the response queue has
room, and the engine has left STARTUP (R173, R175). -/
def State.serves (s : State) : Prop := s.addressValid = true ∧ s.responses.length < 6 ∧ s.engine ≠ .startup

/-- The request code of a command that is a well-formed request (R164). -/
def requestCode : Instr → Option Byte
  | .readTable _ _ _ => some 0x40
  | .writeTable _ _ _ _ => some 0x41
  | .readLive _ _ => some 0x42
  | .setTime _ _ => some 0x43
  | .engineStart => some 0x44
  | .engineStop => some 0x45
  | .houseMode _ _ => some 0x46
  | .pumpServiceReturn _ | .pumpServiceWithdraw _ => some 0x47
  | .setRunSeconds _ _ => some 0x48
  | .alarmAck _ _ | .alarmAckAll _ => some 0x49
  | .relatch => some 0x4A
  | .save => some 0x4B
  | .restart => some 0x4C
  | .powerUp _ _ _ | .frameArrival _ _ | .badLengthByte _ _ | .gapExpiry _ | .framingError _
  | .mgmtRequestMalformed _ | .storeImageWritten | .storeFault | .restoreImageRead _ | .engineSecondAdvance
  | .automaticStart | .silenceExpiry _ | .lossExpiry _ | .estimateStep _ | .stationSilenceExpiry _
  | .startConfirmExpiry _ | .stopConfirmExpiry _ | .minRunExpiry _ | .minOffExpiry _ | .historyAgeing _
  | .houseEvaluation _ | .staggerExpiry _ | .fallbackPhaseExpiry _ | .rotationExpiry _ | .requestAgeingExpiry _
  | .grantGapExpiry | .refreshExpiry _ | .transmitCompletion _ | .receivedByte _ _ => none

/-- A command that may carry or be a request of any kind: a byte of a trunk line, or a request frame by its records. -/
def mayCarryRequest : Instr → Bool
  | .frameArrival _ _ | .badLengthByte _ _ | .receivedByte _ _ | .mgmtRequestMalformed _ => true
  | .readTable _ _ _ | .writeTable _ _ _ _ | .readLive _ _ | .setTime _ _ | .engineStart | .engineStop
  | .houseMode _ _ | .pumpServiceReturn _ | .pumpServiceWithdraw _ | .setRunSeconds _ _ | .alarmAck _ _
  | .alarmAckAll _ | .relatch | .save | .restart | .powerUp _ _ _ | .gapExpiry _ | .framingError _
  | .storeImageWritten | .storeFault | .restoreImageRead _ | .engineSecondAdvance | .automaticStart
  | .silenceExpiry _ | .lossExpiry _ | .estimateStep _ | .stationSilenceExpiry _ | .startConfirmExpiry _
  | .stopConfirmExpiry _ | .minRunExpiry _ | .minOffExpiry _ | .historyAgeing _ | .houseEvaluation _
  | .staggerExpiry _ | .fallbackPhaseExpiry _ | .rotationExpiry _ | .requestAgeingExpiry _ | .grantGapExpiry
  | .refreshExpiry _ | .transmitCompletion _ => false

/-! ### Tables -/

/-- The most entries of a table in one response (R178). -/
def mostEntries : TableId → Nat
  | .reservoir => 3
  | .site => 1
  | .house | .pump | .band | .draw | .calendar | .plan => 8

/-- The words that stand after a write of words that pass the range test: the cleared entry's where the used marker holds
the unused value (R10). -/
def storedWords : TableId → List Nat → List Nat
  | .reservoir, w => if w.head? = some 0 then ResEntry.cleared.words else w
  | .house, w => if w.head? = some 0 then HouseEntry.cleared.words else w
  | .pump, w => if w.head? = some noneWord then PumpEntry.cleared.words else w
  | .calendar, w => if w.head? = some noneWord then CalEntry.cleared.words else w
  | .site, w => w
  | .band, w => w
  | .draw, w => w
  | .plan, w => w

/-- The tables with one of them taken from other tables. -/
def withTable (t : TableId) (source ts : Tables) : Tables :=
  match t with
  | .reservoir => { ts with reservoir := source.reservoir }
  | .house => { ts with house := source.house }
  | .pump => { ts with pump := source.pump }
  | .site => { ts with site := source.site }
  | .band => { ts with band := source.band }
  | .draw => { ts with draw := source.draw }
  | .calendar => { ts with calendar := source.calendar }
  | .plan => { ts with plan := source.plan }

/-- Every entry of a table stands as a write in STANDBY would leave it: its own words pass the range test and read as the
entry (R10). -/
def Tables.standing (ts : Tables) : TableId → Prop
  | .reservoir => ∀ i, parseRes (ts.reservoir.get i).words = some (ts.reservoir.get i)
  | .house => ∀ i, parseHouse (ts.house.get i).words = some (ts.house.get i)
  | .pump => ∀ i, parsePump (ts.pump.get i).words = some (ts.pump.get i)
  | .site => parseSite ts.site.words = some ts.site
  | .band => ∀ i, parseBand (ts.band.get i).words = some (ts.band.get i)
  | .draw => ∀ i, parseDraw (ts.draw.get i).words = some (ts.draw.get i)
  | .calendar => ∀ i, parseCal (ts.calendar.get i).words = some (ts.calendar.get i)
  | .plan => ∀ i, parsePlan (ts.plan.get i).words = some (ts.plan.get i)

/-- An entry fails the consistency check (R16), by the table code and index the failure is charged to. -/
def Tables.entryFails (ts : Tables) (own : Nat) (r : TableRef) : Bool :=
  match r.table with
  | 0 => if h : r.index < 16 then ts.resFails ⟨r.index, h⟩ else false
  | 1 => if h : r.index < 12 then ts.houseFails own ⟨r.index, h⟩ else false
  | 2 => if h : r.index < 32 then ts.pumpFails ⟨r.index, h⟩ else false
  | 3 => r.index == 0 && ts.siteFails own
  | 4 => if h : r.index < 36 then ts.bandFails ⟨r.index, h⟩ else false
  | 6 => if h : r.index < 16 then ts.calFails ⟨r.index, h⟩ else false
  | 7 => if h : r.index < 12 then ts.planFails ⟨r.index, h⟩ else false
  | _ => false

/-- Table order, by selector code and then by index (R15). -/
def TableRef.before (a b : TableRef) : Prop := a.table < b.table ∨ (a.table = b.table ∧ a.index < b.index)

end Sys2Proof.Machine
end

