-- ==== Sys2Proof/WellFormed.lean ====
section
/-! DEFINITION. The commands that the part can meet: what a frame on the trunk can carry (R161, R162, R176). A command
that is not well formed still has its meaning. -/

namespace Sys2Proof

/-- The operands of a command are ones that its event can carry. A request frame holds at most 120 record bytes (R161);
a WRITE TABLE record follows its LEN with three parameters, so its entries take at most 115 bytes; a BAD_LENGTH_BYTE is
outside 3-123 (R165); and an ALARM ACK of one kind does not name ALL (R176). -/
def Instr.wellFormed : Instr → Bool
  | .badLengthByte _ byte => byte.toNat < 3 || 123 < byte.toNat
  | .mgmtRequestMalformed records => records.length ≤ 120
  | .writeTable _ _ _ entries => entries.length ≤ 115
  | .alarmAck kind _ => kind != 0xFF
  | .powerUp _ _ _ | .frameArrival _ _ | .gapExpiry _ | .framingError _ | .readTable _ _ _ | .readLive _ _
  | .setTime _ _ | .engineStart | .engineStop | .houseMode _ _ | .pumpServiceReturn _ | .pumpServiceWithdraw _
  | .setRunSeconds _ _ | .alarmAckAll _ | .relatch | .save | .restart | .storeImageWritten | .storeFault
  | .restoreImageRead _ | .engineSecondAdvance | .automaticStart | .silenceExpiry _ | .lossExpiry _
  | .estimateStep _ | .stationSilenceExpiry _ | .startConfirmExpiry _ | .stopConfirmExpiry _ | .minRunExpiry _
  | .minOffExpiry _ | .historyAgeing _ | .houseEvaluation _ | .staggerExpiry _ | .fallbackPhaseExpiry _
  | .rotationExpiry _ | .requestAgeingExpiry _ | .grantGapExpiry | .refreshExpiry _ | .transmitCompletion _
  | .receivedByte _ _ => true

end Sys2Proof
end

