-- ==== Sys2Proof/Certificates/Slice0/Obligations.lean ====
section
/-! DEFINITION. The statements for the provers, from the numbered rules of the spec. In each, `s` is the state before the
command and `t`, or `u` before its response joins, the state after it. -/

open Sys2Proof Sys2Proof.Machine

/-! ### The step -/

/-- The command at the front of the queue is taken, and an empty queue idles (the model's choice, log 4). -/
def Obligations.StepTakesFront : Prop :=
  (∀ (c : Instr) (rest : List Instr) (s : State),
    s.pending = c :: rest → step s = exec c { s with pending := rest })
  ∧ ∀ s : State, s.pending = [] → step s = .next s

/-- Every command has an effect in every state (log 5), and leaves the queue of commands alone. -/
def Obligations.EveryCommandActs : Prop :=
  ∀ (c : Instr) (s : State), ∃ t, exec c s = .next t ∧ t.pending = s.pending

/-- Who may write the straps' values (R173), the store (R183), the tables (section 1.3, R184), the calendar time (R66) and
the modes (R96): everything else keeps them. -/
def Obligations.OwnersAlone : Prop :=
  ∀ (c : Instr) (s t : State), exec c s = .next t → (∀ a f r, c ≠ .powerUp a f r) →
    t.ownAddr = s.ownAddr ∧ t.field.rate = s.field.rate ∧ t.sup.rate = s.sup.rate
    ∧ (c ≠ .storeImageWritten → c ≠ .storeFault → t.store = s.store)
    ∧ (mayCarryRequest c = false →
      ((∀ b i n e, c ≠ .writeTable b i n e) → (∀ r, c ≠ .restoreImageRead r) → t.tables = s.tables)
      ∧ ((∀ d x, c ≠ .setTime d x) → c ≠ .engineSecondAdvance →
        t.timeSet = s.timeSet ∧ t.sod = s.sod ∧ t.day = s.day)
      ∧ ((∀ h m, c ≠ .houseMode h m) → ∀ h, (t.house h).mode = (s.house h).mode))

/-- The bounds of every queue and list that has one and of every counter hold right after power-up, and so does the
receivers' condition. -/
def Obligations.BoundsAtReset : Prop := State.reset.Bounded ∧ State.reset.PumpsBounded ∧ State.reset.Assembled

/-- Every step keeps the bounds of every queue, list and counter (R134, R150, R157, R168-R170, R172, R174, R118), and those
of the pumps' run seconds and start histories (R60, R61). -/
def Obligations.BoundsKept : Prop :=
  (∀ s t : State, s.Bounded → step s = .next t → t.Bounded)
  ∧ ∀ s t : State, s.PumpsBounded → step s = .next t → t.PumpsBounded

/-- Every step keeps what the assembly buffers hold in each receiver state (R165). -/
def Obligations.AssemblyKept : Prop := ∀ s t : State, s.Assembled → step s = .next t → t.Assembled

/-! ### Power-up -/

/-- POWER_UP: the reset values of the chapters (R2, R17, R25, R46, R63, R65, R66, R73, R78, R117, R135, R159, R172-R174), and
what a SAVE in hand leaves in the store (R183). The blank service state and run seconds of STARTUP are log 19's. -/
def Obligations.PowerUpResets : Prop :=
  ∀ (a : Byte) (f r : BitVec 2) (s : State), ∃ t, exec (.powerUp a f r) s = .next t
    ∧ t.engine = .startup ∧ t.autoStart = .none ∧ t.settleMark = 0 ∧ t.lastRefusal = none
    ∧ t.cursor = ⟨0, 0⟩ ∧ t.responses = [] ∧ t.lastSave = none
    ∧ t.storeTx = (if 1 ≤ a.toNat ∧ a.toNat ≤ 239 then .restoring 0 else .idle)
    ∧ t.store = (match s.storeTx with
      | .saving i => s.store.set i .partly
      | .idle | .restoring _ => s.store)
    ∧ (∀ x, tableWords t.tables x = List.replicate (entryCount x)
        (if x = .pump ∨ x = .calendar then noneWord :: List.replicate (fieldCount x - 1) 0
          else List.replicate (fieldCount x) 0))
    ∧ t.levelMap = [] ∧ t.pumpMap = []
    ∧ t.now = 0 ∧ t.timeSet = false ∧ t.sod = 0 ∧ t.day = 0
    ∧ t.period = ⟨.standard, 0, none, 0, .powerUp⟩
    ∧ (∀ i, t.res i = ⟨0, .noData, 0, none, 0, .ok, none, 0, false⟩)
    ∧ (∀ p, (t.pump p).run = .unused ∧ (t.pump p).commanded = false ∧ (t.pump p).held = false
      ∧ (t.pump p).order = .none ∧ (t.pump p).panel = none ∧ (t.pump p).fault = none
      ∧ (t.pump p).runStart = 0 ∧ (t.pump p).accrualMark = 0 ∧ (t.pump p).stopMark = none
      ∧ (t.pump p).orderTx = none ∧ (t.pump p).confirmMark = none ∧ (t.pump p).lastRun = none
      ∧ (t.pump p).history = [] ∧ (t.pump p).admission = none)
    ∧ (∀ h, t.station h = ⟨.heard, 0⟩)
    ∧ (∀ h, (t.house h).mode = .auto ∧ (t.house h).stages = 0 ∧ (t.house h).target = 0
      ∧ (t.house h).need = .none ∧ (t.house h).protection = .none ∧ (t.house h).dryLatch = false
      ∧ (t.house h).phase = .none ∧ (t.house h).phaseMark = none ∧ (t.house h).start = .none
      ∧ (t.house h).change = .none ∧ (t.house h).lastStartTx = 0 ∧ (t.house h).wait.kind = .none
      ∧ (t.house h).rotMark = none)
    ∧ t.arbiter.requests = [] ∧ t.arbiter.window = .closed ∧ t.arbiter.lastGrantMark = 0
    ∧ t.arbiter.lastGrant = none ∧ t.arbiter.shedWait = none
    ∧ t.dispatcher.queue = [] ∧ t.dispatcher.inTx = none
    ∧ (∀ h, t.dispatcher.lastSent.get h = none ∧ t.dispatcher.refresh.get h = none)
    ∧ t.alarms = ⟨[], false, false, []⟩
    ∧ t.field = ⟨.hunt, [], [], none, 0, ⟨0, 0, 0, 0, 0, 0⟩, f⟩
    ∧ t.sup = ⟨.hunt, [], [], none, 0, ⟨0, 0, 0, 0, 0, 0⟩, r⟩
    ∧ t.ownAddr = a ∧ t.pending = s.pending

/-! ### Receivers and ports -/

/-- R165: the receiver's table, row by row, and the frames abandoned by a gap or a framing error. R165 times no gap in HUNT:
that GAP_EXPIRY there changes nothing is the model's choice (log 5). -/
def Obligations.ReceiverStates : Prop :=
  ∀ (p : Port) (s : State),
    (∀ b : Byte, exec (.receivedByte p b) s = .next (match (s.port p).rx with
      | .hunt => if b = 0xC3 then modPort p (fun q => { q with rx := .length, buf := [0xC3] }) s else s
      | .length =>
        if 3 ≤ b.toNat ∧ b.toNat ≤ 123 then modPort p (fun q => { q with rx := .body, buf := q.buf ++ [b] }) s
        else modPort p (fun q => { q with
          rx := .hunt, buf := [],
          counters := { q.counters with lengthDrop := min (q.counters.lengthDrop + 1) 65535 } }) s
      | .body => modPort p (fun q => { q with
          rx := if (q.buf ++ [b]).length = ((q.buf ++ [b]).getD 1 0).toNat + 2 then .check else .body
          buf := q.buf ++ [b] }) s
      | .check => judgeFrame p ((s.port p).buf ++ [b]) (modPort p (fun q => { q with rx := .hunt, buf := [] }) s)))
    ∧ ∀ c, c = .gapExpiry p ∨ c = .framingError p →
      exec c s = .next (if (s.port p).rx = .hunt then s
        else modPort p (fun q => { q with
          rx := .hunt, buf := [],
          counters := { q.counters with abandon := min (q.counters.abandon + 1) 65535 } }) s)

/-- R166: the judgement of a frame at its CHECK byte, and a LENGTH byte outside 3-123. -/
def Obligations.FrameJudged : Prop :=
  ∀ (p : Port) (s : State),
    (∀ check : Byte, (s.port p).rx = .check →
      exec (.frameArrival p check) s = .next
        (let bytes := (s.port p).buf ++ [check]
        let u := modPort p (fun q => { q with rx := .hunt, buf := [] }) s
        match walkRecords ((bytes.drop 5).dropLast) with
        | none => modPort p (fun q => { q with
            counters := { q.counters with lengthDrop := min (q.counters.lengthDrop + 1) 65535 } }) u
        | some rs =>
          if byteSum (bytes.drop 1) % 256 = 0 then
            routeGood p bytes rs (modPort p (fun q => { q with
              counters := { q.counters with good := min (q.counters.good + 1) 65535 } }) u)
          else
            forward p bytes (modPort p (fun q => { q with
              counters := { q.counters with checkFail := min (q.counters.checkFail + 1) 65535 } }) u)))
    ∧ ∀ b : Byte, (s.port p).rx = .length → (b.toNat < 3 ∨ 123 < b.toNat) →
      exec (.badLengthByte p b) s = .next (modPort p (fun q => { q with
        rx := .hunt, buf := [],
        counters := { q.counters with lengthDrop := min (q.counters.lengthDrop + 1) 65535 } }) s)

/-- The bytes of a frame built in the form of R161, with records that fit (R162), reach a hunting receiver one after
another: the frame is judged good and routed as those bytes with those records (R165, R166). -/
def Obligations.FramesReceived : Prop :=
  ∀ (p : Port) (dest src kind : Byte) (records : List Byte) (rs : List Rec) (s : State),
    records.length ≤ 120 → walkRecords records = some rs → (s.port p).rx = .hunt →
    execAll ((frameBytes dest src kind records).map (Instr.receivedByte p)) s
      = .next (routeGood p (frameBytes dest src kind records) rs
          (modPort p (fun q => { q with
            buf := [], counters := { q.counters with good := min (q.counters.good + 1) 65535 } }) s))

/-- The bytes of the frames the station sends beside telemetry (R161): each C3h, LENGTH, DEST, SRC, KIND, its records and a
CHECK that makes the sum 0 modulo 256. DISPATCH (R139, R163): KIND 03h, four ORDER records in slot order and one HOLD record.
MGMT_RESPONSE (R163): KIND 11h and one RESPONSE record of the request's tag, the result and the data (R164), for data that
one record holds. NOTICE (R163): KIND 12h and one refusal (R156) or alarm (R147) record. -/
def Obligations.DispatchFrame : Prop :=
  (∀ (own : Byte) (e : DispEntry),
    let bytes := (TxFrame.dispatch own e).bytes
    bytes.length = 26 ∧ bytes.take 5 = [0xC3, 23, BitVec.ofNat 8 e.dest, own, 0x03]
    ∧ byteSum (bytes.drop 1) % 256 = 0
    ∧ walkRecords ((bytes.drop 5).dropLast) = some
        [⟨0x30, [0, orderCode (e.orders.get 0)]⟩, ⟨0x30, [1, orderCode (e.orders.get 1)]⟩,
          ⟨0x30, [2, orderCode (e.orders.get 2)]⟩, ⟨0x30, [3, orderCode (e.orders.get 3)]⟩,
          ⟨0x31, [BitVec.ofNat 8 (e.hold / 256), BitVec.ofNat 8 e.hold]⟩])
  ∧ (∀ r : Response, (respDataBytes r.data).length ≤ 116 →
    let bytes := (TxFrame.response r).bytes
    let data := respDataBytes r.data
    bytes.length = data.length + 10
    ∧ bytes.take 5 = [0xC3, BitVec.ofNat 8 (data.length + 7), BitVec.ofNat 8 r.dest, r.src, 0x11]
    ∧ byteSum (bytes.drop 1) % 256 = 0
    ∧ walkRecords ((bytes.drop 5).dropLast) = some [⟨0x60, r.code :: (match r.result with
        | .ok => 0 | .unknownRequest => 1 | .badFormat => 2 | .badTable => 3 | .badIndex => 4 | .badValue => 5
        | .wrongState => 6 | .busy => 7 | .storeFault => 8 | .notFound => 9) :: data⟩])
  ∧ (respDataBytes .none = []
    ∧ (∀ a b, respDataBytes (.failedAt a b) = [BitVec.ofNat 8 a, BitVec.ofNat 8 b])
    ∧ (∀ a b c, respDataBytes (.written a b c) = [BitVec.ofNat 8 a, BitVec.ofNat 8 b, BitVec.ofNat 8 c])
    ∧ (∀ a b ws, respDataBytes (.entries a b ws) = [BitVec.ofNat 8 a, BitVec.ofNat 8 b, BitVec.ofNat 8 ws.length]
      ++ ws.flatten.flatMap fun w => [BitVec.ofNat 8 (w / 256), BitVec.ofNat 8 w]))
  ∧ (∀ (n : Notice) (content : List Byte) (tag : Byte),
    (∀ event kind object state raised side value repeats overflow,
      n.body = .alarm event kind object state raised side value repeats overflow → tag = 0x62 ∧ content =
        [match event with | .raised => 0 | .reRaised => 1 | .cleared => 2,
          match kind with
          | .levelSensor => 0x00 | .levelEstimated => 0x01 | .levelLost => 0x02 | .emergencyLow => 0x03
          | .overflowHigh => 0x04 | .dryRunTrip => 0x05 | .houseShort => 0x06 | .stationSilent => 0x07
          | .startFail => 0x08 | .stopFail => 0x09 | .uncommandedRun => 0x0A | .unexpectedStop => 0x0B
          | .pumpFault => 0x0C | .budgetOver => 0x0D,
          BitVec.ofNat 8 object,
          match state with | .activeUnacked => 0 | .clearedUnacked => 1 | .removed => 2]
        ++ (match raised with
          | .calendar day second => [0, BitVec.ofNat 8 (day / 256), BitVec.ofNat 8 day,
              BitVec.ofNat 8 (second / 65536), BitVec.ofNat 8 (second / 256), BitVec.ofNat 8 second]
          | .unset m => [1, 0, m.extractLsb' 24 8, m.extractLsb' 16 8, m.extractLsb' 8 8, m.extractLsb' 0 8])
        ++ [match side with | .none => 0 | .below => 1 | .above => 2,
          BitVec.ofNat 8 (value.getD 0xFFFF / 256), BitVec.ofNat 8 (value.getD 0xFFFF), BitVec.ofNat 8 repeats,
          if overflow then 1 else 0]) →
    (∀ dest src house second, n.body = .refusal dest src house second → tag = 0x61 ∧ content =
        [dest, src, BitVec.ofNat 8 house.val, second.extractLsb' 8 8, second.extractLsb' 0 8]) →
    let bytes := (TxFrame.notice n).bytes
    bytes.length = content.length + 8
    ∧ bytes.take 5 = [0xC3, BitVec.ofNat 8 (content.length + 5), BitVec.ofNat 8 n.dest, n.src, 0x12]
    ∧ byteSum (bytes.drop 1) % 256 = 0
    ∧ walkRecords ((bytes.drop 5).dropLast) = some [⟨tag, content⟩])

/-- R168: a frame to be forwarded joins the end of the other port's queue as it arrived, is sent at once where that port is
idle with nothing waiting (R171), and is dropped and counted where the queue holds 8. -/
def Obligations.ForwardQueue : Prop :=
  ∀ (p : Port) (bytes : List Byte) (s : State),
    (8 ≤ (s.port (otherPort p)).fwd.length →
      forward p bytes s = modPort p (fun q => { q with
        counters := { q.counters with forwardDrop := min (q.counters.forwardDrop + 1) 65535 } }) s)
    ∧ ((s.port (otherPort p)).fwd.length < 8 → (s.port (otherPort p)).tx ≠ none →
      forward p bytes s = modPort (otherPort p) (fun q => { q with fwd := q.fwd ++ [bytes] }) s)
    ∧ ((s.port (otherPort p)).fwd = [] → (s.port (otherPort p)).tx = none → s.dispatcher.queue = [] →
      s.responses = [] → s.alarms.notices = [] →
      forward p bytes s = modPort (otherPort p) (fun q => { q with tx := some (.forwarded bytes), runCount := 0 }) s)

/-- R169: the field port's take with its transmitter idle, row by row. A dispatch frame is sent for the head entry's house
and becomes the entry in transmission; where the suction guard does not act, with the orders of the entry, which become the
house's last sent orders, and each marked pump moves from QUEUED to TAKEN (R51, R139). R136 and R137: the orders and marks
derived for a slot, and their placing in the queue. -/
def Obligations.FieldArbiter : Prop :=
  ∀ s : State,
    (s.field.tx = none →
      (s.dispatcher.queue = [] → s.field.fwd = [] → fieldTake s = s)
      ∧ (∀ e rest, s.dispatcher.queue = e :: rest → s.field.fwd = [] →
        ∃ g, g.house = e.house ∧ g.dest = e.dest ∧ (fieldTake s).dispatcher.inTx = some g
          ∧ (fieldTake s).field = { s.field with tx := some (.dispatch s.ownAddr g), runCount := 0 })
      ∧ (∀ f fs, s.dispatcher.queue = [] → s.field.fwd = f :: fs →
        fieldTake s = { s with field := { s.field with tx := some (.forwarded f), fwd := fs, runCount := 0 } })
      ∧ (∀ e rest f fs, s.dispatcher.queue = e :: rest → s.field.fwd = f :: fs → s.field.runCount < 3 →
        ∃ g, g.house = e.house ∧ g.dest = e.dest ∧ (fieldTake s).dispatcher.inTx = some g
          ∧ (fieldTake s).field
            = { s.field with tx := some (.dispatch s.ownAddr g), runCount := s.field.runCount + 1 })
      ∧ (∀ e rest f fs, s.dispatcher.queue = e :: rest → s.field.fwd = f :: fs → 3 ≤ s.field.runCount →
        fieldTake s = { s with field := { s.field with tx := some (.forwarded f), fwd := fs, runCount := 0 } })
      ∧ (∀ e rest, s.dispatcher.queue = e :: rest → (s.field.fwd = [] ∨ s.field.runCount < 3) →
        (e.kind = .release ∨ s.suctionGuard e.house = false) →
        let marked := fun p : PumpId => ∃ k, s.pumpAt e.house k = some p ∧ (s.pump p).order = .queued
          ∧ ((e.startMarks.get k = true ∧ (s.pump p).run = .startOrdered)
            ∨ (e.stopMarks.get k = true ∧ (s.pump p).run = .stopOrdered))
        (fieldTake s).dispatcher.inTx = some e
          ∧ (∀ h, (fieldTake s).dispatcher.lastSent.get h
            = if h = e.house then some e.orders else s.dispatcher.lastSent.get h)
          ∧ (∀ p, marked p → (fieldTake s).pump p = { s.pump p with order := .taken })
          ∧ (∀ p, ¬marked p → (fieldTake s).pump p = s.pump p)
          ∧ ((∀ x ∈ rest, x.house ≠ e.house) →
            ∃ new, (fieldTake s).dispatcher.queue = rest ++ new ∧ ∀ x ∈ new, x.house = e.house)
          ∧ ((∀ x ∈ rest, x.house ≠ e.house) → e.orders = s.ordersOf e.house →
            e.startMarks = s.marksOf e.house .startOrdered → e.stopMarks = s.marksOf e.house .stopOrdered →
            (fieldTake s).dispatcher.queue = rest)))
    ∧ ∀ h : HouseId,
      (∀ k : SlotId,
        (s.pumpAt h k = none → (s.ordersOf h).get k = .localControl ∧ (s.marksOf h .startOrdered).get k = false
          ∧ (s.marksOf h .stopOrdered).get k = false)
        ∧ ∀ p, s.pumpAt h k = some p →
          (s.ordersOf h).get k = (if (s.pump p).panel = some .hand ∨ (s.pump p).panel = some .off then .localControl
            else if (s.pump p).run = .startOrdered ∨ ((s.pump p).run = .running ∧ (s.pump p).commanded = true) then .run
            else .stop)
          ∧ ((s.marksOf h .startOrdered).get k = true ↔ (s.pump p).run = .startOrdered ∧ (s.pump p).order = .queued)
          ∧ ((s.marksOf h .stopOrdered).get k = true ↔ (s.pump p).run = .stopOrdered ∧ (s.pump p).order = .queued))
      ∧ (∀ forced l e l', s.dispatcher.queue = l ++ e :: l' → e.house = h → (∀ x ∈ l ++ l', x.house ≠ h) →
        placeOrders forced h s = { s with dispatcher := { s.dispatcher with
          queue := l ++ ⟨h, (if e.kind = .release then (s.houseE h).station else e.dest), .orders, s.ordersOf h,
            s.site.hold, s.marksOf h .startOrdered, s.marksOf h .stopOrdered, e.enqueue⟩ :: l' } })
      ∧ (∀ forced, (∀ e ∈ s.dispatcher.queue, e.house ≠ h) →
        let wanted := forced = true ∨ s.dispatcher.lastSent.get h ≠ some (s.ordersOf h)
          ∨ ∃ k : SlotId, (s.marksOf h .startOrdered).get k = true ∨ (s.marksOf h .stopOrdered).get k = true
        (wanted → placeOrders forced h s = { s with dispatcher := { s.dispatcher with
          queue := s.dispatcher.queue ++ [⟨h, (s.houseE h).station, .orders, s.ordersOf h, s.site.hold,
            s.marksOf h .startOrdered, s.marksOf h .stopOrdered, s.now⟩] } })
        ∧ (¬wanted → placeOrders forced h s = s))

/-- R170: the supervisory port's take with its transmitter idle, row by row, and the take that follows a transmit
completion (R171), which counts the frame sent (R172). -/
def Obligations.SupervisoryArbiter : Prop :=
  ∀ s : State,
    let took := fun u : State => match u.responses, u.sup.fwd, u.alarms.notices with
      | r :: rest, _, _ => { u with responses := rest, sup := { u.sup with tx := some (.response r) } }
      | [], [], [] => u
      | [], f :: fs, [] => { u with sup := { u.sup with tx := some (.forwarded f), fwd := fs, runCount := 0 } }
      | [], [], n :: ns =>
        { u with
          sup := { u.sup with tx := some (.notice n), runCount := 0 }
          alarms := { u.alarms with notices := ns } }
      | [], f :: fs, n :: ns =>
        if u.sup.runCount < 4 then
          { u with sup := { u.sup with tx := some (.forwarded f), fwd := fs, runCount := u.sup.runCount + 1 } }
        else
          { u with
            sup := { u.sup with tx := some (.notice n), runCount := 0 }
            alarms := { u.alarms with notices := ns } }
    (s.sup.tx = none → supTake s = took s)
    ∧ ∀ x, s.sup.tx = some x → exec (.transmitCompletion .supervisory) s = .next (took { s with sup := { s.sup with
        tx := none, counters := { s.sup.counters with sent := min (s.sup.counters.sent + 1) 65535 } } })

/-- TRANSMIT_COMPLETION of a DISPATCH frame (R51, R60, R92, R140): each start-marked pump still START_ORDERED and TAKEN, and
each stop-marked pump still STOP_ORDERED and TAKEN, is TRANSMITTED with order_tx and the confirm mark now; a start enters
its history, sets the house's last_start_tx and makes its start in flight TRANSMITTED; every other pump stands, and the
house's refresh mark is set or becomes idle. The take of the idle port follows. -/
def Obligations.DispatchCompleted : Prop :=
  ∀ (s : State) (own : Byte) (f e : DispEntry),
    s.field.tx = some (.dispatch own f) → s.dispatcher.inTx = some e →
    let started := fun p : PumpId => ∃ k, e.startMarks.get k = true ∧ s.pumpAt e.house k = some p
      ∧ (s.pump p).run = .startOrdered ∧ (s.pump p).order = .taken
    let stopped := fun p : PumpId => ∃ k, e.stopMarks.get k = true ∧ s.pumpAt e.house k = some p
      ∧ (s.pump p).run = .stopOrdered ∧ (s.pump p).order = .taken
    let joined := fun p : PumpId =>
      (s.pump p).history.drop ((s.pump p).history.length + 1 - (s.pumpE p).maxStarts) ++ [s.now]
    let u := completeDispatch s
    (∃ t, exec (.transmitCompletion .field) s = .next t
      ∧ t = fieldTake { u with field := { u.field with
          tx := none, counters := { u.field.counters with sent := min (u.field.counters.sent + 1) 65535 } } }
      ∧ t.field.counters.sent = min (s.field.counters.sent + 1) 65535
      ∧ (∀ p, started p → (t.pump p).history = joined p ∧ (t.house e.house).lastStartTx = s.now)
      ∧ (∀ p, ¬started p → (t.pump p).history = (s.pump p).history)
      ∧ ((∀ p, ¬started p) → (t.house e.house).lastStartTx = (s.house e.house).lastStartTx)
      ∧ (∀ h, t.dispatcher.refresh.get h
          = if h = e.house then (if e.kind = .orders ∧ s.active h = true then some s.now else none)
            else s.dispatcher.refresh.get h))
    ∧ (∀ p, started p → u.pump p = { s.pump p with
        order := .transmitted, orderTx := some s.now, confirmMark := some s.now, history := joined p })
    ∧ (∀ p, stopped p → u.pump p = { s.pump p with
        order := .transmitted, orderTx := some s.now, confirmMark := some s.now })
    ∧ (∀ p, ¬started p → ¬stopped p → u.pump p = s.pump p)
    ∧ (∀ p, started p → (s.house e.house).start = .granted p → (u.house e.house).start = .transmitted p)
    ∧ ((∀ p, started p → (s.house e.house).start ≠ .granted p) →
      (u.house e.house).start = (s.house e.house).start)
    ∧ (∀ h, h ≠ e.house → u.house h = s.house h)
    ∧ u.dispatcher.inTx = none ∧ u.field = s.field

/-- R138: no DISPATCH frame of orders taken carries RUN to a house whose suction reservoir is LOST, NO_DATA, or at or below
its dry-run cutoff, but for a pump whose start an earlier frame has already taken; while no pump is START_ORDERED and TAKEN
or without an order as a frame is taken, none carries RUN at all (log 16). -/
def Obligations.SuctionGuard : Prop :=
  ∀ (s : State) (own : Byte) (e : DispEntry) (k : SlotId) (r : ResId),
    s.field.tx = none → 1 ≤ s.site.grantGap →
    (fieldTake s).field.tx = some (.dispatch own e) → e.kind = .orders →
    (s.houseE e.house).suction = some r →
    ((s.res r).source = .lost ∨ (s.res r).source = .noData ∨ (s.res r).level ≤ (s.resE r).dryCut) →
    e.orders.get k = .run →
    ∃ p, s.pumpAt e.house k = some p ∧ (s.pump p).run = .startOrdered
      ∧ ((s.pump p).order = .taken ∨ (s.pump p).order = .none)

/-- A good TELEMETRY frame on the field port (R26, R44, R63, R162, R167): its stations are heard and its records are taken
in order. A record of 4 bytes reaches the reservoir or pump that the source maps give, or none, and one of another LEN is
stepped over. At its pump a PUMP record of codes outside its own is ignored; another applies its panel mode (R55), then its
fault code (R56), then its run feedback (R47). That an order's end leaves no order_tx, no confirm mark and no expired stop
is log 15's; the order of houses that share a station, and a shedding check before the house's orders are placed, is log
33's. -/
def Obligations.TelemetryRecords : Prop :=
  (∀ (check a b c d : Byte) (tag : Byte) (s : State),
    let bytes := s.field.buf ++ [check]
    let src := (bytes.getD 3 0).toNat
    let u := stationHeardFrom src (modPort .field (fun q => { q with
      rx := .hunt, buf := [], counters := { q.counters with good := min (q.counters.good + 1) 65535 } }) s)
    s.field.rx = .check → byteSum (bytes.drop 1) % 256 = 0 → bytes.getD 4 0 = 0x01 →
    walkRecords ((bytes.drop 5).dropLast) = some [⟨tag, [a, b, c, d]⟩] →
    (tag = 0x20 → exec (.frameArrival .field check) s = .next (forward .field bytes
      (match s.levelMap.find? fun k => k.station == src && k.channel == a.toNat with
        | none => u
        | some k => levelRecord k.reservoir (b.toNat * 256 + c.toNat) (d.getLsbD 0) u)))
    ∧ (tag = 0x21 → exec (.frameArrival .field check) s = .next (forward .field bytes
      (match s.pumpMap.find? fun k => k.station == src && k.slot.val == a.toNat with
        | none => u
        | some k => pumpRecord .live k.pump b.toNat c.toNat d.toNat u)))
    ∧ (tag ≠ 0x20 → tag ≠ 0x21 → exec (.frameArrival .field check) s = .next (forward .field bytes u)))
  ∧ (∀ (check : Byte) (rs : List Rec) (s : State),
    let bytes := s.field.buf ++ [check]
    let src := (bytes.getD 3 0).toNat
    s.field.rx = .check → byteSum (bytes.drop 1) % 256 = 0 → bytes.getD 4 0 = 0x01 →
    walkRecords ((bytes.drop 5).dropLast) = some rs →
    exec (.frameArrival .field check) s = .next (forward .field bytes (rs.foldl (takeRecord src) (stationHeardFrom src
      (modPort .field (fun q => { q with
        rx := .hunt, buf := [], counters := { q.counters with good := min (q.counters.good + 1) 65535 } }) s)))))
  ∧ (∀ (src : Nat) (s : State) (c : Rec), c.content.length ≠ 4 → takeRecord src s c = s)
  ∧ ∀ (p : PumpId) (s : State),
    let q := s.pump p
    let power := some (s.pumpE p).power
    let active := s.engine = .run
      ∧ ∃ h, (s.pumpE p).house = some h ∧ (s.houseE h).used = true ∧ (s.house h).mode = .auto
    (∀ run panel fault : Nat, 1 < run ∨ 2 < panel → pumpRecord .live p run panel fault s = s)
    ∧ (∀ (run fault : Nat) (panel : Fin 3), run ≤ 1 → pumpRecord .live p run panel fault s
      = applyFeedback .live p (run == 1) (applyFault p fault (applyPanel .live p
          (match panel with | 0 => .remote | 1 => .hand | 2 => .off) s)))
    ∧ (∀ m, q.panel = some m → applyPanel .live p m s = s)
    ∧ (∀ m, q.panel ≠ some m →
      let t := markPump p (modPump p (fun x => { x with panel := some m }) s)
      let becomes := fun u => applyPanel .live p m s = derivePump .live p u
      (q.panel = none → becomes t)
      ∧ (q.panel = some .remote →
        (q.run = .running → becomes (modPump p (fun x => { x with commanded := false }) t))
        ∧ (q.run = .startOrdered → q.order = .queued →
          becomes (derivePump .live p (markPump p (loadFell .live (undoCore p t)))))
        ∧ (q.run = .startOrdered → q.order ≠ .queued → becomes t)
        ∧ (q.run = .stopOrdered → q.stopExpired = true → becomes (clear .stopFail p.val (markPump p (shed .live
            { t with pumps := t.pumps.set p { q with
              panel := some m, run := .running, commanded := false, order := .none, orderTx := none
              confirmMark := none, stopExpired := false, runSeconds := s.runSecondsNow p, accrualMark := s.now } }))))
        ∧ (q.run = .stopOrdered → q.stopExpired = false → becomes t)
        ∧ (q.run = .unused ∨ q.run = .unknown ∨ q.run = .stopped → becomes t))
      ∧ (q.panel = some .hand ∨ q.panel = some .off →
        (m = .remote ∧ q.run = .running ∧ q.commanded = false ∧ active →
          let v := modPump p (fun x => { x with
            commanded := true, runStart := s.now, minRunOpen := decide (1 ≤ (s.pumpE p).minRun)
            service := if x.service = .failed then .inService else x.service }) t
          becomes (derivePump .live p (if q.service = .failed then clear .startFail p.val (markPump p v) else v)))
        ∧ (¬(m = .remote ∧ q.run = .running ∧ q.commanded = false ∧ active) → becomes t)))
    ∧ ((undoCore p s).pumps = s.pumps.set p { q with
        run := .stopped, commanded := false, order := .none, orderTx := none, confirmMark := none
        admission := none, runSeconds := s.runSecondsNow p, accrualMark := s.now })
    ∧ ∀ f : Nat,
      let u := modPump p (fun x => { x with fault := some f }) s
      let zero := q.fault = none ∨ q.fault = some 0
      (zero → f = 0 → applyFault p f s = u)
      ∧ (zero → 1 ≤ f → applyFault p f s = raise .pumpFault p.val power .none (markPump p u))
      ∧ (¬zero → 1 ≤ f → applyFault p f s = u)
      ∧ (¬zero → f = 0 → applyFault p f s = clear .pumpFault p.val (markPump p u))

/-- A good frame on the supervisory port (R147, R167): a request for the own address is consumed, a COMMAND frame for a
house that the part dispatches is consumed with a refusal notice, and every other frame is forwarded. -/
def Obligations.SupervisoryRouting : Prop :=
  ∀ (check : Byte) (rs : List Rec) (s : State),
    let bytes := s.sup.buf ++ [check]
    let dest := bytes.getD 2 0
    let kind := bytes.getD 4 0
    let u := modPort .supervisory (fun q => { q with
      rx := .hunt, buf := [], counters := { q.counters with good := min (q.counters.good + 1) 65535 } }) s
    let commands := fun h : HouseId => kind = 0x02 ∧ s.engine = .run ∧ (s.houseE h).used = true
      ∧ (s.house h).mode = .auto ∧ (s.houseE h).station = dest.toNat
    s.sup.rx = .check → byteSum (bytes.drop 1) % 256 = 0 → walkRecords ((bytes.drop 5).dropLast) = some rs →
    (kind = 0x10 → dest = s.ownAddr → s.addressValid = true →
      exec (.frameArrival .supervisory check) s = .next (takeRequest rs u))
    ∧ (∀ h, commands h → (∀ g, g < h → ¬commands g) →
      exec (.frameArrival .supervisory check) s
        = .next (pushNotice (.refusal dest (bytes.getD 3 0) h s.now) u))
    ∧ ((∀ h, ¬commands h) → (kind ≠ 0x10 ∨ dest ≠ s.ownAddr ∨ s.addressValid = false) →
      exec (.frameArrival .supervisory check) s = .next (forward .supervisory bytes u))

/-! ### Pumps and stations -/

/-- R47, R48, R49, R59, R61: run feedback at a pump, in every state: the pump's whole record, the load change, the mark, the
alarm conditions and the orders, in that order. What the change of run state hands on moves orders only, and a report that
repeats the state changes nothing. A run or a stop begins its motor limit, unless the limit is over as it begins (R59). That
an order's end leaves no confirm mark, no order_tx and no expired stop is log 15's, and that an adoption clears START_FAIL
before it raises UNCOMMANDED_RUN is log 20's, and that one mark stands for its changes of run and service state log 36's. -/
def Obligations.RunFeedback : Prop :=
  ∀ (p : PumpId) (s : State),
    let q := s.pump p
    let power := some (s.pumpE p).power
    let elapsed := fun m : Second => (s.now - m).toNat
    let began := fun q : Pump => if q.order = .transmitted then q.orderTx.getD s.now else s.now
    let adopted := s.engine = .run ∧ (s.pump p).panel = some .remote
      ∧ ∃ h, (s.pumpE p).house = some h ∧ (s.houseE h).used = true ∧ (s.house h).mode = .auto
    (((s.pump p).run = .unknown ∨ (s.pump p).run = .stopped) →
      (adopted → (applyFeedback .live p true s).apartOrders = (modPump p (fun q => { q with
        runStart := s.now, minRunOpen := decide (1 ≤ (s.pumpE p).minRun)
        service := if q.service = .failed then .inService else q.service }) s).apartOrders)
      ∧ (¬adopted → (applyFeedback .live p true s).apartOrders
        = (modPump p (fun q => { q with runStart := s.now }) s).apartOrders))
    ∧ ((s.pump p).run = .startOrdered →
      (applyFeedback .live p true s).apartOrders = (modPump p (fun q => { q with
        minRunOpen := decide (elapsed (began q) < (s.pumpE p).minRun), runStart := began q }) s).apartOrders)
    ∧ (((s.pump p).run = .running ∨ (s.pump p).run = .stopOrdered) →
      (applyFeedback .live p false s).apartOrders = (modPump p (fun q => { q with
        lastRun := some (s.now - q.runStart).toNat }) s).apartOrders)
    ∧ ((s.pump p).run = .unknown → (applyFeedback .live p false s).apartOrders = s.apartOrders)
    ∧ (((s.pump p).run = .running ∨ (s.pump p).run = .stopOrdered ∨ (s.pump p).run = .unused) →
      applyFeedback .live p true s = s)
    ∧ (((s.pump p).run = .stopped ∨ (s.pump p).run = .startOrdered ∨ (s.pump p).run = .unused) →
      applyFeedback .live p false s = s)
    ∧ (q.run = .unknown ∨ q.run = .stopped →
      (adopted →
        let t := markPump p (loadRose .live { s with pumps := s.pumps.set p { q with
          run := .running, commanded := true, order := .none, runStart := s.now, accrualMark := s.now
          minRunOpen := decide (1 ≤ (s.pumpE p).minRun)
          service := if q.service = .failed then .inService else q.service } })
        applyFeedback .live p true s = derivePump .live p (raise .uncommandedRun p.val power .none
          (if q.service = .failed then clear .startFail p.val t else t)))
      ∧ (¬adopted → applyFeedback .live p true s = derivePump .live p (markPump p (loadRose .live
          { s with pumps := s.pumps.set p { q with
            run := .running, commanded := false, order := .none, runStart := s.now, accrualMark := s.now } }))))
    ∧ (q.run = .startOrdered →
      let confirmed := fun (commanded : Bool) (admission : Option Urgency) =>
        applyFeedback .live p true s = derivePump .live p (markPump p (endFlight p
          { s with pumps := s.pumps.set p { q with
            run := .running, commanded := commanded, order := .none, orderTx := none, confirmMark := none
            runStart := began q, minRunOpen := decide (elapsed (began q) < (s.pumpE p).minRun)
            admission := admission, accrualMark := s.now } }))
      (adopted → confirmed true q.admission) ∧ (¬adopted → confirmed false none))
    ∧ (∀ h, (s.pumpE p).house = some h →
      ((s.house h).start = .granted p ∨ (s.house h).start = .transmitted p →
        endFlight p s = modHouse h (fun x => { x with start := .none }) s)
      ∧ (¬((s.house h).start = .granted p ∨ (s.house h).start = .transmitted p) → endFlight p s = s))
    ∧ (q.run = .unknown → applyFeedback .live p false s = derivePump .live p (markPump p
        { s with pumps := s.pumps.set p { q with
          run := .stopped, stopMark := some s.now, minOffOpen := decide (1 ≤ (s.pumpE p).minOff)
          accrualMark := s.now } }))
    ∧ (q.run = .running ∨ q.run = .stopOrdered →
      let t := markPump p (loadFell .live { s with pumps := s.pumps.set p { q with
        run := .stopped, commanded := false, order := .none, stopMark := some s.now, orderTx := none
        confirmMark := none, lastRun := some (s.now - q.runStart).toNat, admission := none, stopExpired := false
        minOffOpen := decide (1 ≤ (s.pumpE p).minOff)
        runSeconds := s.runSecondsNow p, accrualMark := s.now } })
      let u := if q.stopExpired = true then clear .stopFail p.val t else t
      (q.run = .running ∧ q.commanded = true →
        applyFeedback .live p false s = derivePump .live p (raise .unexpectedStop p.val power .none u))
      ∧ (¬(q.run = .running ∧ q.commanded = true) → applyFeedback .live p false s = derivePump .live p u))

/-- R47, R49, R59, R61 outside RUN: the whole pump record after run feedback, with every other pump unchanged. That an order's
end leaves no order_tx, no confirm mark and no expired stop is log 15's. -/
def Obligations.StandbyFeedback : Prop :=
  ∀ (p : PumpId) (s : State), s.engine ≠ .run →
    let q := s.pump p
    let began := if q.order = .transmitted then q.orderTx.getD s.now else s.now
    (q.run = .unknown ∨ q.run = .stopped → (applyFeedback .live p true s).pumps = s.pumps.set p
      { q with run := .running, commanded := false, order := .none, runStart := s.now, accrualMark := s.now })
    ∧ (q.run = .startOrdered → (applyFeedback .live p true s).pumps = s.pumps.set p
      { q with
        run := .running, commanded := false, order := .none, orderTx := none, confirmMark := none
        runStart := began, minRunOpen := decide ((s.now - began).toNat < (s.pumpE p).minRun)
        admission := none, accrualMark := s.now })
    ∧ (q.run = .unknown → (applyFeedback .live p false s).pumps = s.pumps.set p
      { q with
        run := .stopped, stopMark := some s.now, minOffOpen := decide (1 ≤ (s.pumpE p).minOff)
        accrualMark := s.now })
    ∧ (q.run = .running ∨ q.run = .stopOrdered → (applyFeedback .live p false s).pumps = s.pumps.set p
      { q with
        run := .stopped, commanded := false, order := .none, stopMark := some s.now, orderTx := none
        confirmMark := none, lastRun := some (s.now - q.runStart).toNat, admission := none, stopExpired := false
        minOffOpen := decide (1 ≤ (s.pumpE p).minOff)
        runSeconds := min (q.runSeconds + (s.now - q.accrualMark).toNat) 4294967295, accrualMark := s.now })

/-- STATION_SILENCE_EXPIRY and the return of the station (R63, R64). The station becomes SILENT with last_heard kept and
STATION_SILENT raised, its pumps become held with their run seconds brought up to date, each ESTIMATED reservoir of the
house becomes LOST, and the house is marked. A good frame from a SILENT station makes it HEARD, clears the condition,
releases its pumps with the confirm timers of their transmitted orders restarted, and marks the house. -/
def Obligations.StationSilence : Prop :=
  ∀ (h : HouseId) (s : State),
    (s.engine ≠ .startup → (s.houseE h).used = true → (s.station h).state = .heard →
      s.site.stationSilence ≤ (s.now - (s.station h).lastHeard).toNat →
      ∃ t, exec (.stationSilenceExpiry h) s = .next t
        ∧ t = mark h (stationLost h (holdPumps true h (raise .stationSilent h.val none .none
            (modStation h (fun x => { x with state := .silent }) s))))
        ∧ h ∈ t.marks
        ∧ t.stations = s.stations.set h ⟨.silent, (s.station h).lastHeard⟩
        ∧ (∀ p, t.pump p = if (s.pumpE p).house = some h then
            { s.pump p with held := true, runSeconds := s.runSecondsNow p, accrualMark := s.now } else s.pump p)
        ∧ (∀ r, (s.resE r).used = true → (s.res r).source = .estimated →
          ((s.houseE h).delivery = r ∨ (s.houseE h).suction = some r) →
          (t.res r).source = .lost ∧ (t.res r).pending = none ∧ (t.res r).level = (s.res r).level)
        ∧ (∀ r, ((s.res r).source ≠ .estimated ∨ ((s.houseE h).delivery ≠ r ∧ (s.houseE h).suction ≠ some r)) →
          t.res r = s.res r)
        ∧ t.houses = s.houses ∧ t.arbiter = s.arbiter ∧ t.dispatcher = s.dispatcher ∧ t.field = s.field
        ∧ t.tables = s.tables ∧ t.period = s.period ∧ t.engine = s.engine ∧ t.now = s.now)
    ∧ ((s.houseE h).used = false ∨ (s.station h).state = .silent
        ∨ (s.now - (s.station h).lastHeard).toNat < s.site.stationSilence →
      exec (.stationSilenceExpiry h) s = .next s)
    ∧ ((s.station h).state = .heard → houseHeard h s = modStation h (fun _ => ⟨.heard, s.now⟩) s)
    ∧ ((s.station h).state = .silent →
      let awaited := fun q : Pump => (q.run = .startOrdered ∨ q.run = .stopOrdered) ∧ q.order = .transmitted
      houseHeard h s = { clear .stationSilent h.val (modStation h (fun _ => ⟨.heard, s.now⟩) s) with
        marks := s.marks ++ [h]
        pumps := Vector.ofFn fun p => let q := s.pump p
          if (s.pumpE p).house = some h then
            { q with
              held := false, runSeconds := s.runSecondsNow p, accrualMark := s.now
              confirmMark := if awaited q then some s.now else q.confirmMark }
          else q })
    ∧ ∀ src : Nat, (s.engine = .startup → stationHeardFrom src s = s)
      ∧ (s.engine ≠ .startup → stationHeardFrom src s = (allHouses.filter fun g =>
          (s.houseE g).used && (s.houseE g).station == src).foldl (fun t g => houseHeard g t) s)

/-- START_CONFIRM_EXPIRY and STOP_CONFIRM_EXPIRY (R52, R53): in REMOTE the pump is FAILED and STOPPED with START_FAIL, or
stays STOP_ORDERED with STOP_FAIL; in HAND or OFF it is STOPPED, or runs on uncommanded, without an alarm. While the pump
is held no expiry comes and the command leaves the state alone (log 5). That an order's end leaves no confirm mark, no
order_tx and no expired stop is log 15's, as is the absent confirm mark of an expired stop; that a pump not yet reported
acts as in REMOTE is log 34's, and that one mark stands for the changes of run and service state log 36's. -/
def Obligations.ConfirmExpiries : Prop :=
  ∀ (p : PumpId) (m : Second) (s : State), (s.pump p).order = .transmitted → (s.pump p).confirmMark = some m →
    let power := some (s.pumpE p).power
    let remote := (s.pump p).panel = some .remote ∨ (s.pump p).panel = none
    ((s.pump p).run = .startOrdered → (s.pump p).held = false → s.site.startConfirm ≤ (s.now - m).toNat →
      (remote → exec (.startConfirmExpiry p) s = .next (derivePump .live p
        (raise .startFail p.val power .none
          (markPump p (loadFell .live (modPump p (fun q => { q with service := .failed }) (failCore p s)))))))
      ∧ ((s.pump p).panel = some .hand ∨ (s.pump p).panel = some .off → exec (.startConfirmExpiry p) s
        = .next (derivePump .live p (markPump p (loadFell .live (failCore p s))))))
    ∧ (failCore p s).pumps = s.pumps.set p { s.pump p with
        run := .stopped, commanded := false, order := .none, stopMark := some s.now, orderTx := none
        confirmMark := none, admission := none, runSeconds := s.runSecondsNow p, accrualMark := s.now
        minOffOpen := decide (1 ≤ (s.pumpE p).minOff) }
    ∧ (∀ h, (s.pumpE p).house = some h → ((s.house h).start = .granted p ∨ (s.house h).start = .transmitted p) →
      ((failCore p s).house h).start = .none)
    ∧ ((s.pump p).run = .stopOrdered → (s.pump p).held = false → s.site.stopConfirm ≤ (s.now - m).toNat →
      (remote → exec (.stopConfirmExpiry p) s = .next (markPump p
        (raise .stopFail p.val power .none
          (modPump p (fun q => { q with stopExpired := true, confirmMark := none }) s))))
      ∧ ((s.pump p).panel = some .hand ∨ (s.pump p).panel = some .off → exec (.stopConfirmExpiry p) s
        = .next (derivePump .live p (markPump p (shed .live { s with pumps := s.pumps.set p { s.pump p with
            run := .running, commanded := false, order := .none, orderTx := none, confirmMark := none
            stopExpired := false, runSeconds := s.runSecondsNow p, accrualMark := s.now } })))))
    ∧ ((s.pump p).held = true →
      exec (.startConfirmExpiry p) s = .next s ∧ exec (.stopConfirmExpiry p) s = .next s)

/-- What each remaining timer expiry does in its second (R59, R60, R79, R86, R91, R102, R129, R142): a mark of the house,
in whatever mode and engine state (log 7), and the change the rule names. A motor limit's expiry comes once its time is over
and has not come before, the rotation and stagger expiries once at their own second (log 6), and an OFF phase of length 0 expires as it begins.
An expiry that does not come changes nothing (log 5). No refresh is made while an entry of the house is
queued or in transmission. -/
def Obligations.TimerMarks : Prop :=
  ∀ (p : PumpId) (h : HouseId) (m : Second) (s : State),
    let marked := fun u : State => { u with marks := u.marks ++ [h] }
    let elapsed := fun m : Second => (s.now - m).toNat
    ((s.pumpE p).house = some h →
      ((s.pump p).run = .running → (s.pump p).commanded = true → (s.pump p).minRunOpen = true →
        (s.pumpE p).minRun ≤ elapsed (s.pump p).runStart →
        exec (.minRunExpiry p) s = .next (shed .live
          (marked { s with pumps := s.pumps.set p { s.pump p with minRunOpen := false } })))
      ∧ ((s.pump p).run = .stopped → (s.pump p).stopMark = some m → (s.pump p).minOffOpen = true →
        (s.pumpE p).minOff ≤ elapsed m → exec (.minOffExpiry p) s
          = .next (marked { s with pumps := s.pumps.set p { s.pump p with minOffOpen := false } }))
      ∧ (∀ rest, (s.pump p).history = m :: rest → 3600 ≤ (s.now - m).toNat →
        exec (.historyAgeing p) s
          = .next (marked { s with pumps := s.pumps.set p { s.pump p with history := rest } })))
    ∧ ((s.house h).staggerAt = some s.now →
      exec (.staggerExpiry h) s
        = .next (marked { s with houses := s.houses.set h { s.house h with staggerAt := none } }))
    ∧ ((s.house h).staggerAt ≠ some s.now → exec (.staggerExpiry h) s = .next s)
    ∧ ((s.pump p).minRunOpen = false ∨ elapsed (s.pump p).runStart < (s.pumpE p).minRun →
      exec (.minRunExpiry p) s = .next s)
    ∧ ((s.pump p).minOffOpen = false ∨ ((s.pump p).stopMark = some m ∧ elapsed m < (s.pumpE p).minOff) →
      exec (.minOffExpiry p) s = .next s)
    ∧ ((s.house h).rotAt = some s.now →
      exec (.rotationExpiry h) s
        = .next (marked { s with houses := s.houses.set h { s.house h with rotAt := none } }))
    ∧ ((s.house h).rotAt ≠ some s.now → exec (.rotationExpiry h) s = .next s)
    ∧ (s.engine = .run → (s.houseE h).used = true → (s.house h).mode = .auto →
      ((s.house h).phaseMark = some m → (s.house h).phaseLen ≤ (s.now - m).toNat →
        let on := (s.planE h).fallbackOn
        let off := (s.planE h).fallbackOff
        let enters := fun (ph : Phase) (mark : Option Second) (len : Nat) =>
          modHouse h (fun x => { x with phase := ph, phaseMark := mark, phaseLen := len }) s
        ((s.house h).phase = .on → 1 ≤ off →
          exec (.fallbackPhaseExpiry h) s = .next (marked (enters .off (some s.now) off)))
        ∧ ((s.house h).phase = .on → off = 0 → 1 ≤ on →
          exec (.fallbackPhaseExpiry h) s = .next (marked (marked (enters .on (some s.now) on))))
        ∧ ((s.house h).phase = .on → off = 0 → on = 0 →
          exec (.fallbackPhaseExpiry h) s = .next (marked (marked (enters .off none 0))))
        ∧ ((s.house h).phase = .off → 1 ≤ on →
          exec (.fallbackPhaseExpiry h) s = .next (marked (enters .on (some s.now) on)))
        ∧ ((s.house h).phase = .off → on = 0 →
          exec (.fallbackPhaseExpiry h) s = .next (marked (enters .off none 0))))
      ∧ (s.dispatcher.refresh.get h = some m → s.site.refresh ≤ (s.now - m).toNat →
        ((∀ e ∈ s.dispatcher.queue, e.house ≠ h) →
          (∀ e, s.dispatcher.inTx = some e → e.house ≠ h) →
          exec (.refreshExpiry h) s = .next (fieldTake { s with dispatcher := { s.dispatcher with
            queue := s.dispatcher.queue ++ [⟨h, (s.houseE h).station, .orders, s.ordersOf h, s.site.hold,
              s.marksOf h .startOrdered, s.marksOf h .stopOrdered, s.now⟩] } }))
        ∧ (∀ e ∈ s.dispatcher.queue, e.house = h → exec (.refreshExpiry h) s = .next s)
        ∧ (∀ e, s.dispatcher.inTx = some e → e.house = h → exec (.refreshExpiry h) s = .next s)))

/-- PUMP_SERVICE_RETURN, PUMP_SERVICE_WITHDRAW and SET_RUN_SECONDS (R57, R61, R176): the service state or the run seconds of
a used pump, with the mark and the START_FAIL condition of a change of service state; BAD_INDEX for an unused pump. That
the clear's notice is handed over before the response joins is log 33's. -/
def Obligations.PumpRequests : Prop :=
  ∀ (b : Byte) (p : PumpId) (v : BitVec 32) (s : State), s.serves → b.toNat = p.val →
    ((s.pumpE p).house = none →
      exec (.pumpServiceReturn b) s = .next (respond 0x47 .badIndex .none s)
      ∧ exec (.pumpServiceWithdraw b) s = .next (respond 0x47 .badIndex .none s)
      ∧ exec (.setRunSeconds b v) s = .next (respond 0x48 .badIndex .none s))
    ∧ (∀ h, (s.pumpE p).house = some h →
      let changed := fun x : Service =>
        let u := markPump p (modPump p (fun q => { q with service := x }) s)
        if (s.pump p).service = .failed then clear .startFail p.val u else u
      exec (.pumpServiceReturn b) s
        = .next (respond 0x47 .ok .none (if (s.pump p).service = .inService then s else changed .inService))
      ∧ exec (.pumpServiceWithdraw b) s
        = .next (respond 0x47 .ok .none (if (s.pump p).service = .withdrawn then s else changed .withdrawn))
      ∧ exec (.setRunSeconds b v) s = .next (respond 0x48 .ok .none (modPump p (fun q =>
          { q with runSeconds := v.toNat, accrualMark := s.now }) s)))

/-! ### Reservoir levels -/

/-- R32, R33: a change of level or source tests the EMERGENCY_LOW condition and marks every used house concerned, in
ascending number and in whatever mode and engine state. -/
def Obligations.LevelMoved : Prop :=
  ∀ (r : ResId) (s : State),
    let x := s.res r
    let holds := (x.source = .live ∨ x.source = .estimated) ∧ x.level ≤ (s.resE r).emerg
    let u := modRes r (fun x => { x with emergLow := decide holds }) s
    let v :=
      if holds ∧ x.emergLow = false then raise .emergencyLow r.val (some x.level) .none u
      else if ¬holds ∧ x.emergLow = true then clear .emergencyLow r.val u
      else u
    levelMoved r s = { v with
      marks := s.marks ++ allHouses.filter fun h =>
        (s.houseE h).used && ((s.houseE h).delivery == r || (s.houseE h).suction == some r) }

/-- R26 to R29 and R31: a LEVEL record at its reservoir. An invalid sample raises LEVEL_SENSOR and changes the record's
sensor_state and last_raw alone; a valid one clears it, is converted, and is accepted or held by the step check. -/
def Obligations.SampleTaken : Prop :=
  ∀ (r : ResId) (raw : Nat) (flag : Bool) (s : State),
    let x := s.res r
    let e := s.resE r
    let level := min (e.zero + raw * e.span / 4095) e.height
    let accepted := x.source ≠ .live ∨ e.step = 0 ∨ (level - x.level) + (x.level - level) ≤ e.step
      ∨ ∃ q, x.pending = some q ∧ (level - q) + (q - level) ≤ e.step
    let invalid := fun (f : Sensor) (side : Side) =>
      levelRecord r raw flag s = raise .levelSensor r.val (some x.level) side
        (modRes r (fun y => { y with sensor := f, lastRaw := some raw }) s)
    (raw < e.rawMin → invalid .faultBelow .below)
    ∧ (e.rawMin ≤ raw → e.rawMax < raw → invalid .faultAbove .above)
    ∧ (e.rawMin ≤ raw → raw ≤ e.rawMax → flag = true → invalid .faultBelow .below)
    ∧ (e.rawMin ≤ raw → raw ≤ e.rawMax → flag = false →
      let u := modRes r (fun y => { y with sensor := .ok, lastRaw := some raw }) s
      let v := if x.sensor = .ok then u else clear .levelSensor r.val u
      let w := modRes r (fun y =>
        { y with level := level, source := .live, lastAccept := s.now, pending := none, residue := 0 }) v
      (¬accepted → levelRecord r raw flag s = modRes r (fun y => { y with pending := some level }) v)
      ∧ (accepted →
        levelRecord r raw flag s = levelMoved r (match x.source with
          | .estimated => clear .levelEstimated r.val w
          | .lost => clear .levelLost r.val w
          | .noData | .live => w)
        ∧ (levelRecord r raw flag s).res r
          = ⟨level, .live, s.now, none, 0, .ok, some raw, x.stepMark, decide (level ≤ e.emerg)⟩))

/-- SILENCE_EXPIRY and LOSS_EXPIRY (R35 to R38): to ESTIMATED where every station concerned is HEARD, otherwise to LOST,
with the alarms of each; an expiry that is not due changes nothing (log 5). -/
def Obligations.SilenceLoss : Prop :=
  ∀ (r : ResId) (s : State), (s.resE r).used = true → s.engine ≠ .startup →
    let x := s.res r
    let elapsed := (s.now - x.lastAccept).toNat
    let heard := ∀ h, (s.houseE h).used = true → ((s.houseE h).delivery = r ∨ (s.houseE h).suction = some r) →
      (s.station h).state = .heard
    let lost := modRes r (fun y => { y with source := .lost, pending := none }) s
    (x.source = .live → (s.resE r).silence ≤ elapsed → heard →
      exec (.silenceExpiry r) s = .next (levelMoved r (raise .levelEstimated r.val (some x.level) .none
        (modRes r (fun y => { y with source := .estimated, pending := none, stepMark := s.now, residue := 0 }) s))))
    ∧ (x.source = .live → (s.resE r).silence ≤ elapsed → ¬heard →
      exec (.silenceExpiry r) s = .next (levelMoved r (raise .levelLost r.val (some x.level) .none lost)))
    ∧ (x.source = .noData → (s.resE r).loss ≤ elapsed →
      exec (.lossExpiry r) s = .next (levelMoved r (raise .levelLost r.val (some x.level) .none lost)))
    ∧ (x.source = .estimated → (s.resE r).loss ≤ elapsed →
      exec (.lossExpiry r) s
        = .next (levelMoved r (raise .levelLost r.val (some x.level) .none (clear .levelEstimated r.val lost))))
    ∧ (x.source ≠ .live ∨ elapsed < (s.resE r).silence → exec (.silenceExpiry r) s = .next s)
    ∧ (x.source = .live ∨ x.source = .lost ∨ elapsed < (s.resE r).loss → exec (.lossExpiry r) s = .next s)

/-- ESTIMATE_STEP (R42): the accumulated volume moves the level by whole centimetres, truncated toward zero and clamped to
0 to height_cm, and the rest is the residue, 0 where the clamp changed the value. N is R41's: the flow of the RUNNING and
STOP_ORDERED pumps of the used houses that deliver into the reservoir, less that of those that draw from it and the draw of
the class in force. Where the level changed, the houses are
marked and the EMERGENCY_LOW test is applied (R32, R33); a step that leaves it changes the residue and the mark alone. A
command whose step is not due leaves the state alone (log 5). -/
def Obligations.EstimateStep : Prop :=
  ∀ (r : ResId) (s : State),
    let x := s.res r
    let e := s.resE r
    let N : Int := (s.inflow r : Int) - (s.outflow r : Int) - (s.drawOf r s.period.cls : Int)
    let A : Int := x.residue + N * (e.estStep : Int)
    let C : Int := A.tdiv (e.litresPerCm : Int)
    let L : Int := (x.level : Int) + C
    let level : Nat := (max 0 (min L (e.height : Int))).toNat
    (e.used = true → s.engine ≠ .startup → x.source = .estimated → e.estStep ≤ (s.now - x.stepMark).toNat →
      ∃ t, exec (.estimateStep r) s = .next t
        ∧ t.res r = { x with
            level := level
            residue := if 0 ≤ L ∧ L ≤ (e.height : Int) then A - C * (e.litresPerCm : Int) else 0
            stepMark := s.now
            emergLow := if level = x.level then x.emergLow else decide (level ≤ e.emerg) }
        ∧ (level = x.level → t = modRes r (fun _ => t.res r) s)
        ∧ (level ≠ x.level → t.marks = s.marks ++ (allHouses.filter fun h =>
            (s.houseE h).used && ((s.houseE h).delivery == r || (s.houseE h).suction == some r))
          ∧ t = levelMoved r (modRes r (fun _ => { t.res r with emergLow := x.emergLow }) s))
        ∧ t.apartMarks = (modRes r (fun _ => t.res r) s).apartMarks)
    ∧ (x.source ≠ .estimated ∨ (s.now - x.stepMark).toNat < e.estStep → exec (.estimateStep r) s = .next s)
    ∧ (let flow := fun names : HouseId → Bool => ((allPumps.filter fun p => (allHouses.any fun h =>
            (s.pumpE p).house == some h && (s.houseE h).used && names h)
          && ((s.pump p).run == .running || (s.pump p).run == .stopOrdered)).map fun p => (s.pumpE p).flow).sum
      s.inflow r = flow (fun h => (s.houseE h).delivery == r)
      ∧ s.outflow r = flow (fun h => (s.houseE h).suction == some r)
      ∧ s.drawOf r s.period.cls = match s.period.cls with
        | .cheap => (s.drawE r).cheap | .standard => (s.drawE r).standard | .peak => (s.drawE r).peak)

/-! ### Management requests -/

/-- R175 and R176: a request frame by its records. With a full response queue it does nothing; in STARTUP it is answered
WRONG_STATE, with code 00h where it holds other than one record (log 28); with other than one record BAD_FORMAT and code
00h; with an unknown tag UNKNOWN_REQUEST; with a size that does not match its request BAD_FORMAT. A response joins the
queue's end with DEST the supervisor's address and SRC the own address, or is sent at once where the port is idle and no
response waits (R170, R171). -/
def Obligations.RequestGate : Prop :=
  ∀ (records : List Byte) (rs : List Rec) (s : State), s.addressValid = true → walkRecords records = some rs →
    let answered := fun (code : Byte) (r : Result) =>
      exec (.mgmtRequestMalformed records) s = .next
        (if s.sup.tx ≠ none then
          { s with responses := s.responses ++ [⟨s.site.supervisor, s.ownAddr, code, r, .none⟩] }
        else match s.responses with
          | [] => { s with sup := { s.sup with
              tx := some (.response ⟨s.site.supervisor, s.ownAddr, code, r, .none⟩) } }
          | x :: xs => { s with
              responses := xs ++ [⟨s.site.supervisor, s.ownAddr, code, r, .none⟩]
              sup := { s.sup with tx := some (.response x) } })
    (6 ≤ s.responses.length → exec (.mgmtRequestMalformed records) s = .next s)
    ∧ (s.responses.length < 6 →
      (s.engine = .startup → answered (match rs with | [r] => r.tag | _ => 0) .wrongState)
      ∧ (s.engine ≠ .startup →
        (rs.length ≠ 1 → answered 0 .badFormat)
        ∧ (∀ r, rs = [r] → (r.tag.toNat < 0x40 ∨ 0x4C < r.tag.toNat) → answered r.tag .unknownRequest)
        ∧ (∀ r n, rs = [r] → (r.tag.toNat, n) ∈ [(0x40, 3), (0x42, 2), (0x43, 5), (0x44, 0), (0x45, 0), (0x46, 2),
            (0x47, 2), (0x48, 5), (0x49, 2), (0x4A, 0), (0x4B, 0), (0x4C, 0)] → r.content.length ≠ n →
            answered r.tag .badFormat)
        ∧ (∀ r, rs = [r] → r.tag = 0x41 → r.content.length < 3 → answered r.tag .badFormat)))

/-- R18 and R175: during STARTUP every request is answered WRONG_STATE where the response queue has room, and dropped where
it is full, with no other effect. -/
def Obligations.StartupAnswers : Prop :=
  ∀ (c : Instr) (code : Byte) (s : State), requestCode c = some code → s.addressValid = true → s.engine = .startup →
    exec c s = .next (if 6 ≤ s.responses.length then s else respond code .wrongState .none s)

/-- READ_TABLE with an absolute index (R178): refused in R179's order with BAD_FORMAT on a count outside 1 to 8, BAD_TABLE
on a table above 7 and BAD_INDEX on an index or a count past the end; else as many of the entries asked for as one response
carries, as they stand, and the cursor on the last one carried. -/
def Obligations.ReadTableResult : Prop :=
  ∀ (tb ix n : Byte) (s : State), s.serves →
    let refused := fun r : Result => exec (.readTable tb ix n) s = .next (respond 0x40 r .none s)
    (n.toNat = 0 ∨ 8 < n.toNat → refused .badFormat)
    ∧ (1 ≤ n.toNat → n.toNat ≤ 8 →
      (7 < tb.toNat → refused .badTable)
      ∧ ∀ x, tableOf tb.toNat = some x →
        (ix.toNat < 0xFD → entryCount x < ix.toNat + n.toNat → refused .badIndex)
        ∧ (ix.toNat + n.toNat ≤ entryCount x →
          let m := min n.toNat (mostEntries x)
          exec (.readTable tb ix n) s = .next (respond 0x40 .ok
            (.entries tb.toNat ix.toNat (((tableWords s.tables x).drop ix.toNat).take m))
            { s with cursor := ⟨tb.toNat, ix.toNat + m - 1⟩ })))

/-- R178: NEXT, PREVIOUS and SAME name the entry after, before and at the cursor, as its own index does; past either end
and against another table READ_TABLE and a well formed WRITE_TABLE outside a SAVE are refused with BAD_INDEX. -/
def Obligations.RelativeIndex : Prop :=
  ∀ (tb n : Byte) (x : TableId) (j : Nat) (s : State), s.serves → tableOf tb.toNat = some x →
    1 ≤ n.toNat → n.toNat ≤ 8 →
    let refused := fun ix : Byte => exec (.readTable tb ix n) s = .next (respond 0x40 .badIndex .none s)
      ∧ ((∀ i, s.storeTx ≠ .saving i) → ∀ es : List Byte, es.length = n.toNat * entrySize x →
        exec (.writeTable tb ix n es) s = .next (respond 0x41 .badIndex .none s))
    (s.cursor = ⟨tb.toNat, j⟩ → j < entryCount x →
      (j + 1 < entryCount x → exec (.readTable tb 0xFF n) s = exec (.readTable tb (BitVec.ofNat 8 (j + 1)) n) s
        ∧ ∀ es, exec (.writeTable tb 0xFF n es) s = exec (.writeTable tb (BitVec.ofNat 8 (j + 1)) n es) s)
      ∧ (1 ≤ j → exec (.readTable tb 0xFE n) s = exec (.readTable tb (BitVec.ofNat 8 (j - 1)) n) s
        ∧ ∀ es, exec (.writeTable tb 0xFE n es) s = exec (.writeTable tb (BitVec.ofNat 8 (j - 1)) n es) s)
      ∧ (exec (.readTable tb 0xFD n) s = exec (.readTable tb (BitVec.ofNat 8 j) n) s
        ∧ ∀ es, exec (.writeTable tb 0xFD n es) s = exec (.writeTable tb (BitVec.ofNat 8 j) n es) s)
      ∧ (j + 1 = entryCount x → refused 0xFF) ∧ (j = 0 → refused 0xFE))
    ∧ (s.cursor.table ≠ tb.toNat → ∀ ix : Byte, 0xFD ≤ ix.toNat → refused ix)

/-- WRITE_TABLE: the tests of R180 in their order, each refusal without any other effect, and the write. A plan write
changes the tables and the cursor alone. -/
def Obligations.WriteTests : Prop :=
  ∀ (tb ix n : Byte) (es : List Byte) (s : State), s.serves →
    let refused := fun (r : Result) (d : RespData) =>
      exec (.writeTable tb ix n es) s = .next (respond 0x41 r d s)
    let formed := 1 ≤ n.toNat ∧ n.toNat ≤ 8 ∧ ∀ x, tableOf tb.toNat = some x → es.length = n.toNat * entrySize x
    (¬formed → refused .badFormat .none)
    ∧ (formed →
      (∀ i, s.storeTx = .saving i → refused .busy .none)
      ∧ ((∀ i, s.storeTx ≠ .saving i) →
        (tableOf tb.toNat = none → refused .badTable .none)
        ∧ (∀ x, tableOf tb.toNat = some x →
          (firstEntry s.cursor x ix n.toNat = none → refused .badIndex .none)
          ∧ (∀ i, firstEntry s.cursor x ix n.toNat = some i →
            let ws := entryWords x n.toNat es
            let new := writeEntries x i ws s.tables
            (s.engine = .run → structural x = true → refused .wrongState .none)
            ∧ (s.engine = .standby ∨ structural x = false →
              (∀ f, rangeFailure x s.tables i ws = some f → refused .badValue (.failedAt tb.toNat f))
              ∧ (rangeFailure x s.tables i ws = none →
                (∀ f, s.engine = .run → planFailure x new i n.toNat = some f →
                  refused .badValue (.failedAt tb.toNat f))
                ∧ (s.engine = .standby ∨ planFailure x new i n.toNat = none →
                  ∃ u, exec (.writeTable tb ix n es) s = .next (respond 0x41 .ok (.written tb.toNat i n.toNat) u)
                    ∧ u.tables = new ∧ u.cursor = ⟨tb.toNat, i + n.toNat - 1⟩
                    ∧ (structural x = false →
                      u = { s with tables := new, cursor := ⟨tb.toNat, i + n.toNat - 1⟩ }))))))))

/-- R10, R178, R180: entries that pass the range test stand after a write as their words, or as the cleared entry where the
used marker holds the unused value, and every other entry stands as before. -/
def Obligations.WriteReadBack : Prop :=
  ∀ (x : TableId) (first : Nat) (ws : List (List Nat)) (ts : Tables),
    (∀ w ∈ ws, entryOk x w = true) → first + ws.length ≤ entryCount x →
    (∀ j, (tableWords (writeEntries x first ws ts) x)[j]? =
      if first ≤ j ∧ j < first + ws.length then some (storedWords x (ws.getD (j - first) []))
      else (tableWords ts x)[j]?)
    ∧ ∀ y, y ≠ x → tableWords (writeEntries x first ws ts) y = tableWords ts y

/-- R12, R13, R32, R46, R59, R60, R61, R78: an accepted structural write rebuilds both source maps and keeps the engine in
STANDBY, the modes and last_start_tx of the houses, and the service state of every pump with its run seconds brought up to
date. A reservoir whose station or channel changed begins again and marks the houses concerned; so do a house's station,
with its pumps, at a change of station, and a pump whose house or slot changed. Values above a lowered height_cm or
litres_per_cm are brought within it, and a motor limit shortened to a time already elapsed takes its expiry at the write. -/
def Obligations.StructuralWrite : Prop :=
  ∀ (tb ix n : Byte) (es : List Byte) (x : TableId) (s : State), s.serves → s.engine = .standby →
    (∀ i, s.storeTx ≠ .saving i) → 1 ≤ n.toNat → n.toNat ≤ 8 → tableOf tb.toNat = some x → structural x = true →
    es.length = n.toNat * entrySize x → ix.toNat + n.toNat ≤ entryCount x →
    rangeFailure x s.tables ix.toNat (entryWords x n.toNat es) = none →
    let new := writeEntries x ix.toNat (entryWords x n.toNat es) s.tables
    ∃ u, exec (.writeTable tb ix n es) s = .next (respond 0x41 .ok (.written tb.toNat ix.toNat n.toNat) u)
      ∧ u.tables = new ∧ u.levelMap = levelMapOf new ∧ u.pumpMap = pumpMapOf new ∧ u.engine = .standby
      ∧ (∀ h, (u.house h).mode = (s.house h).mode ∧ (u.house h).lastStartTx = (s.house h).lastStartTx)
      ∧ (∀ p, (u.pump p).service = (s.pump p).service ∧ (u.pump p).runSeconds = s.runSecondsNow p)
      ∧ (x = .reservoir → ∀ r : ResId, ((s.resE r).station ≠ (new.reservoir.get r).station
          ∨ (s.resE r).channel ≠ (new.reservoir.get r).channel) →
        u.res r = ⟨0, .noData, s.now, none, 0, .ok, none, 0, false⟩
        ∧ ((s.res r).source ≠ .noData → ∀ h, (s.houseE h).used = true →
          ((s.houseE h).delivery = r ∨ (s.houseE h).suction = some r) → h ∈ u.marks))
      ∧ (x = .reservoir → ∀ r : ResId, ix.toNat ≤ r.val → r.val < ix.toNat + n.toNat →
        (s.resE r).station = (new.reservoir.get r).station → (s.resE r).channel = (new.reservoir.get r).channel →
        (s.resE r).estStep ≤ (new.reservoir.get r).estStep →
        let y := s.res r
        let e := new.reservoir.get r
        (u.res r).level = min y.level e.height
        ∧ (u.res r).residue = (if y.residue.natAbs < e.litresPerCm then y.residue else 0)
        ∧ (y.source ≠ .estimated → u.res r = { y with
            level := min y.level e.height
            pending := y.pending.map fun l => min l e.height
            residue := if y.residue.natAbs < e.litresPerCm then y.residue else 0
            emergLow := if y.level ≤ e.height then y.emergLow
              else decide (y.source = .live ∧ e.height ≤ e.emerg) }))
      ∧ (x = .house → ∀ h : HouseId, (s.houseE h).station ≠ (new.house.get h).station →
        u.station h = ⟨.heard, s.now⟩ ∧ u.house h = .fresh (s.house h).mode (s.house h).lastStartTx
        ∧ ∀ p, (s.pumpE p).house = some h → u.pump p = { Pump.fresh .unknown (s.runSecondsNow p) (s.pump p).service with
            history := (s.pump p).history })
      ∧ (x = .pump → ∀ p : PumpId, ((s.pumpE p).house ≠ (new.pump.get p).house
          ∨ (s.pumpE p).slot ≠ (new.pump.get p).slot) →
        (u.pump p).run = (if (new.pump.get p).house = none then .unused else .unknown)
        ∧ (u.pump p).panel = none ∧ (u.pump p).fault = none ∧ (u.pump p).confirmMark = none
        ∧ ((new.pump.get p).house = none → (u.pump p).history = []))
      ∧ (x = .pump → ∀ p : PumpId, ix.toNat ≤ p.val → p.val < ix.toNat + n.toNat →
        (s.pumpE p).house = (new.pump.get p).house → (s.pumpE p).slot = (new.pump.get p).slot →
        let q := s.pump p
        let e := new.pump.get p
        let elapsed := fun m : Second => (s.now - m).toNat
        (q.run = .stopped → ∀ m, q.stopMark = some m →
          ((u.pump p).minOffOpen = if elapsed m < e.minOff then true
            else if e.minOff < (s.pumpE p).minOff then false else q.minOffOpen)
          ∧ (q.minOffOpen = true → e.minOff < (s.pumpE p).minOff → e.minOff ≤ elapsed m →
            ∀ h, e.house = some h → h ∈ u.marks))
        ∧ (q.run = .running → q.commanded = true →
          ((u.pump p).minRunOpen = if elapsed q.runStart < e.minRun then true
            else if e.minRun < (s.pumpE p).minRun then false else q.minRunOpen)
          ∧ (q.minRunOpen = true → e.minRun < (s.pumpE p).minRun → e.minRun ≤ elapsed q.runStart →
            ∀ h, e.house = some h → h ∈ u.marks)))

/-- READ_LIVE (R45, R158, R181): BAD_VALUE for a view above 7, BAD_INDEX for a first item beyond the view, and otherwise
whole items from the first, as many as fit in 112 bytes, with the next item not carried or FFh. Run seconds of every pump
are brought up to date for the PUMP view, whichever items are carried (log 28); a reading of ALARMS from item 0 clears the
notice-overrun indicator; nothing else changes. -/
def Obligations.ReadLiveAnswer : Prop :=
  ∀ (view first : Byte) (s : State), s.serves →
    (7 < view.toNat → exec (.readLive view first) s = .next (respond 0x42 .badValue .none s))
    ∧ (∀ last, lastItem view.toNat = some last →
      (last < first.toNat → exec (.readLive view first) s = .next (respond 0x42 .badIndex .none s))
      ∧ (first.toNat ≤ last →
        let t := if view = 3 then accrueAll allPumps s else s
        let u := if view = 6 ∧ first = 0 then { t with alarms := { t.alarms with overrun := false } } else t
        ∃ carried rest, (t.viewItems view.toNat).drop first.toNat = carried ++ rest
          ∧ (carried.map itemSize).sum ≤ 112
          ∧ (∀ i is, rest = i :: is → 112 < (carried.map itemSize).sum + itemSize i)
          ∧ exec (.readLive view first) s = .next (respond 0x42 .ok (.live view.toNat first.toNat
              (if rest = [] then 255 else first.toNat + carried.length) carried) u)))

/-! ### The store -/

/-- SAVE, STORE_IMAGE_WRITTEN and STORE_FAULT (R182, R183): the content is taken at the start with run seconds brought up to
date, the images are written in order, and the end gives the last save result and the response. In the store the images lie
one after another from the first address, each in the place its expected length gives it. -/
def Obligations.SaveRuns : Prop :=
  ∀ s : State,
    (s.serves → (∀ i, s.storeTx = .saving i → exec .save s = .next (respond 0x4B .busy .none s))
      ∧ ((∀ i, s.storeTx ≠ .saving i) → ∃ u, exec .save s = .next u ∧ u.storeTx = .saving 0
        ∧ (∀ p, u.pump p = { s.pump p with runSeconds := s.runSecondsNow p, accrualMark := s.now })
        ∧ u.saveContent = imagesOf s.tables u.pumps.toList
        ∧ u = { s with pumps := u.pumps, saveContent := u.saveContent, storeTx := u.storeTx }))
    ∧ (∀ i : ImageId, s.storeTx = .saving i →
      (∀ j : ImageId, j.val = i.val + 1 → exec .storeImageWritten s = .next { s with
        store := s.store.set i (.whole (s.saveContent.getD i.val [])), storeTx := .saving j })
      ∧ (i = 8 → exec .storeImageWritten s = .next (respond 0x4B .ok .none { s with
        store := s.store.set i (.whole (s.saveContent.getD i.val []))
        storeTx := .idle, lastSave := some .ok }))
      ∧ exec .storeFault s = .next (respond 0x4B .storeFault .none { s with
        store := s.store.set i .partly, storeTx := .idle, lastSave := some .storeFault }))
    ∧ ((∀ i, s.storeTx ≠ .saving i) → exec .storeImageWritten s = .next s ∧ exec .storeFault s = .next s)
    ∧ imageAddress 0 = 0
    ∧ (∀ i : ImageId, imageAddress (i.val + 1)
        = imageAddress i.val + ((imagesOf s.tables s.pumps.toList).getD i.val []).length)
    ∧ (∀ (i : ImageId) (k : Nat), s.store.get i = .whole ((imagesOf s.tables s.pumps.toList).getD i.val []) →
      k < ((imagesOf s.tables s.pumps.toList).getD i.val []).length →
      s.storeByte (imageAddress i.val + k) = ((imagesOf s.tables s.pumps.toList).getD i.val [])[k]?)

/-- RESTORE_IMAGE_READ of a table image (R178, R182, R184): the image that SAVE made of a table restores that table whole,
and an image not delivered leaves it cleared. -/
def Obligations.RestoreTableImage : Prop :=
  ∀ (x : TableId) (ts : Tables) (i j : ImageId) (s : State),
    s.storeTx = .restoring i → i.val = tableCode x → j.val = i.val + 1 →
    (ts.standing x → rangeFailure x s.tables 0 (tableWords ts x) = none →
      s.store.get i = .whole (imageBytes i.val (tableContent ts x)) →
      exec (.restoreImageRead .held) s
        = .next { s with storeTx := .restoring j, tables := withTable x ts s.tables })
    ∧ exec (.restoreImageRead .noAck) s = .next { s with storeTx := .restoring j, imagesGood := false }
    ∧ (s.store.get i = .blank ∨ s.store.get i = .partly →
      exec (.restoreImageRead .held) s = .next { s with storeTx := .restoring j, imagesGood := false })

/-- RESTORE_IMAGE_READ of image 8 (R18, R46, R73, R182, R184): the end of STARTUP, with every pump's run seconds and
service state as image 8 gives them, or 0 and IN_SERVICE. -/
def Obligations.EndOfStartup : Prop :=
  ∀ (r : StoreRead) (s : State), s.storeTx = .restoring 8 → s.engine = .startup →
    ∃ t, exec (.restoreImageRead r) s = .next t
      ∧ t.engine = .standby ∧ t.storeTx = .idle ∧ t.settleMark = s.now ∧ t.tables = s.tables
      ∧ t.autoStart = (if s.imagesGood = true ∧ s.site.autoRun = 1 then .pending else .none)
      ∧ t.levelMap = levelMapOf s.tables ∧ t.pumpMap = pumpMapOf s.tables
      ∧ t.period = ⟨.standard, s.site.fallbackBudget, none, s.now, .powerUp⟩
      ∧ t.reservoirs = s.reservoirs ∧ t.stations = s.stations ∧ t.houses = s.houses
      ∧ (∀ p, (t.pump p).run = (if (s.pumpE p).house = none then .unused else .unknown)
        ∧ (t.pump p).panel = none ∧ (t.pump p).fault = none ∧ (t.pump p).history = []
        ∧ (t.pump p).stopMark = none)
      ∧ (r = .noAck → ∀ p, (t.pump p).runSeconds = 0 ∧ (t.pump p).service = .inService)
      ∧ (∀ ps : Vector Pump 32, r = .held → s.store.get 8 = .whole (imageBytes 8 (runContent ps.toList)) →
        (∀ p, (ps.get p).runSeconds ≤ 4294967295) →
        ∀ p, (t.pump p).runSeconds = (ps.get p).runSeconds ∧ (t.pump p).service = (ps.get p).service)

/-! ### Time and periods -/

/-- R68: the active entry for a minute is the used entry with the greatest start_minute not after it, or else the greatest
of all, the lower index among equals; none where no entry is used. A lookup while the time is UNSET, or with no active
entry, gives the fallback. -/
def Obligations.ActiveEntry : Prop :=
  ∀ (m : Nat) (s : State),
    let start := fun i : CalId => (s.tables.calendar.get i).start
    (∀ i, s.activeEntry m = some i → ∃ x, start i = some x
      ∧ ((x ≤ m ∧ ∀ j y, start j = some y → y ≤ m → y < x ∨ (y = x ∧ i ≤ j))
        ∨ ((∀ j y, start j = some y → m < y) ∧ ∀ j y, start j = some y → y < x ∨ (y = x ∧ i ≤ j))))
    ∧ (s.activeEntry m = none ↔ ∀ j, start j = none)
    ∧ (s.timeSet = true → s.lookup = s.activeEntry (s.sod / 60))
    ∧ (s.timeSet = false → s.lookup = none)
    ∧ (∀ c, s.periodOf none c = ⟨.standard, s.site.fallbackBudget, none, s.now, c⟩)

/-- SET_TIME and RELATCH (R69, R71, R72): the calendar time and the period record latched from the lookup at the new time;
what the latch hands on moves orders and house records alone. BAD_VALUE above 86399. -/
def Obligations.TimeRequests : Prop :=
  ∀ (d : BitVec 16) (x : BitVec 24) (s : State), s.serves →
    let latched := fun (i : Option CalId) (cause : LatchCause) => match i with
      | some i => (⟨(s.tables.calendar.get i).cls, (s.tables.calendar.get i).budget, some i, s.now, cause⟩ : Period)
      | none => ⟨.standard, s.site.fallbackBudget, none, s.now, cause⟩
    (86399 < x.toNat → exec (.setTime d x) s = .next (respond 0x43 .badValue .none s))
    ∧ (x.toNat ≤ 86399 → ∃ u, exec (.setTime d x) s = .next (respond 0x43 .ok .none u)
      ∧ u.apartHouses = ({ s with
          sod := x.toNat, day := d.toNat, timeSet := true
          period := latched (s.activeEntry (x.toNat / 60)) .setTime } : State).apartHouses)
    ∧ ∃ u, exec .relatch s = .next (respond 0x4A .ok .none u)
      ∧ u.apartHouses = ({ s with
          period := latched (if s.timeSet = true then s.activeEntry (s.sod / 60) else none) .relatch } : State).apartHouses

/-- ENGINE_SECOND_ADVANCE (R65, R66, R70): the count advances by one modulo 2³², the calendar time with it while SET, and a
second that reaches the start of the active entry latches it. What a latch hands on moves orders and house records alone. -/
def Obligations.SecondAdvance : Prop :=
  ∀ s : State,
    let sod := if s.timeSet = true then (if s.sod = 86399 then 0 else s.sod + 1) else s.sod
    let day := if s.timeSet = true ∧ s.sod = 86399 then (s.day + 1) % 65536 else s.day
    let t0 := { s with now := s.now + 1, sod := sod, day := day }
    let reached := fun i : CalId => s.timeSet = true ∧ sod % 60 = 0 ∧ s.activeEntry (sod / 60) = some i
      ∧ (s.tables.calendar.get i).start = some (sod / 60)
    ((∀ i, ¬reached i) → exec .engineSecondAdvance s = .next t0)
    ∧ ∀ i, reached i → ∃ t, exec .engineSecondAdvance s = .next t
      ∧ t.apartHouses = ({ t0 with period := ⟨(s.tables.calendar.get i).cls, (s.tables.calendar.get i).budget, some i,
          s.now + 1, .boundary⟩ } : State).apartHouses

/-! ### The engine -/

/-- R15 and R16: what each check charges to an entry, by its table. The failure reported is the first failing entry in table
order, then in index order, and none is reported exactly where no entry fails. -/
def Obligations.ConsistencyFirst : Prop :=
  ∀ (ts : Tables) (own : Nat),
    let used := fun h : HouseId => (ts.house.get h).station ≠ 0
    let usedRes := fun r : ResId => (ts.reservoir.get r).station ≠ 0
    let fails := fun (code i : Nat) => ts.entryFails own ⟨code, i⟩ = true
    (ts.firstFailure own = none ↔ ∀ r, ts.entryFails own r = false)
    ∧ (∀ r, ts.firstFailure own = some r →
      ts.entryFails own r = true ∧ ∀ q, q.before r → ts.entryFails own q = false)
    ∧ (∀ r : ResId, fails 0 r.val ↔
      let e := ts.reservoir.get r
      usedRes r ∧ ¬(e.emerg < e.overflow ∧ e.dryCut + e.dryHyst < e.height))
    ∧ (∀ h : HouseId, fails 1 h.val ↔
      let e := ts.house.get h
      let pumps := allPumps.filter fun p => (ts.pump.get p).house == some h
      used h ∧ ((own ≠ ts.site.supervisor ∧ (e.station = own ∨ e.station = ts.site.supervisor
          ∨ ∃ g, g < h ∧ used g ∧ (ts.house.get g).station = e.station))
        ∨ ¬usedRes e.delivery ∨ (∃ r, e.suction = some r ∧ (¬usedRes r ∨ r = e.delivery))
        ∨ (∃ g, g < h ∧ used g ∧ (ts.house.get g).delivery = e.delivery)
        ∨ pumps = [] ∨ (∃ p q, p < q ∧ (ts.pump.get p).house = some h ∧ (ts.pump.get q).house = some h
          ∧ (ts.pump.get p).slot = (ts.pump.get q).slot)
        ∨ pumps.length < e.maxRun))
    ∧ (∀ p : PumpId, fails 2 p.val ↔ ∃ h, (ts.pump.get p).house = some h ∧ ¬used h)
    ∧ (fails 3 0 ↔ ts.site.siteLimit = 0 ∨ own = ts.site.supervisor ∨ ts.site.hold < 2 * ts.site.refresh
      ∨ ts.site.siteLimit < ts.site.fallbackBudget)
    ∧ (∀ (h : HouseId) (c : Tariff), fails 4 (bandIndex h c).val ↔
      let b := ts.band.get (bandIndex h c)
      let r := ts.reservoir.get (ts.house.get h).delivery
      used h ∧ ¬(b.s1 < b.stop ∧ (b.s2 = 0 ∨ (b.s2 < b.s1 ∧ b.s2 + b.hyst < b.stop))
        ∧ (b.s3 = 0 ∨ (b.s2 ≠ 0 ∧ b.s3 < b.s2 ∧ b.s3 + b.hyst < b.stop))
        ∧ (b.s4 = 0 ∨ (b.s3 ≠ 0 ∧ b.s4 < b.s3 ∧ b.s4 + b.hyst < b.stop))
        ∧ b.stop < r.overflow ∧ r.overflow ≤ r.height))
    ∧ (∀ i, ts.entryFails own ⟨5, i⟩ = false)
    ∧ (∀ i : CalId, fails 6 i.val ↔ ∃ m, (ts.calendar.get i).start = some m
      ∧ ((∃ j, j < i ∧ (ts.calendar.get j).start = some m) ∨ ts.site.siteLimit < (ts.calendar.get i).budget))
    ∧ (∀ h : HouseId, fails 7 h.val ↔ used h ∧ (ts.plan.get h).rotate ≠ 0
      ∧ ∃ p, (ts.pump.get p).house = some h ∧ (ts.plan.get h).rotate < (ts.pump.get p).minRun)

/-- ENGINE_START (R15, R20, R21): WRONG_STATE in RUN; BAD_VALUE with the first failure, which is recorded, and a PENDING
automatic start ends. Taken, it gives RUN, the last refusal none, every running uncommanded REMOTE pump of an AUTO house
adopted with run_start now and IN_SERVICE if it was FAILED, and an ORDERS entry for every AUTO house. The evaluations and
the grant move orders and house records alone, so the start histories stand. -/
def Obligations.EngineStart : Prop :=
  ∀ s : State, s.serves →
    let auto := if s.autoStart = .pending then .cancelled else s.autoStart
    let adopted := fun p : PumpId => (s.pump p).run == .running && !(s.pump p).commanded
      && (s.pump p).panel == some .remote
      && allHouses.any fun h => (s.pumpE p).house == some h && (s.houseE h).used && (s.house h).mode == .auto
    (s.engine = .run → exec .engineStart s = .next (respond 0x44 .wrongState .none s))
    ∧ (∀ f, s.engine = .standby → s.tables.firstFailure s.ownAddr.toNat = some f →
      exec .engineStart s = .next (respond 0x44 .badValue (.failedAt f.table f.index) { s with
        autoStart := auto, lastRefusal := some f }))
    ∧ (s.engine = .standby → s.tables.firstFailure s.ownAddr.toNat = none →
      ∃ u, exec .engineStart s = .next (respond 0x44 .ok .none u)
        ∧ (∀ h, (s.houseE h).used = true → (s.house h).mode = .auto →
          (∃ e ∈ u.dispatcher.queue, e.house = h ∧ e.kind = .orders)
          ∨ ∃ e, u.dispatcher.inTx = some e ∧ e.house = h ∧ e.kind = .orders)
        ∧ u.apartHouses = ({ s with
            engine := .run, lastRefusal := none, autoStart := auto
            pumps := s.pumpsAdopted adopted } : State).apartHouses)

/-- AUTOMATIC_START (R23): the expiry of settle_s while PENDING in STANDBY. The command before settle_s has elapsed, or with
no start PENDING, leaves the state alone (log 5). -/
def Obligations.AutomaticStart : Prop :=
  ∀ s : State,
    let due := s.autoStart = .pending ∧ s.engine = .standby ∧ s.site.settle ≤ (s.now - s.settleMark).toNat
    (¬due → exec .automaticStart s = .next s)
    ∧ (due → s.site.autoRun = 0 → exec .automaticStart s = .next { s with autoStart := .cancelled })
    ∧ (due → s.site.autoRun ≠ 0 → ∀ f, s.tables.firstFailure s.ownAddr.toNat = some f →
      exec .automaticStart s = .next { s with autoStart := .failed, lastRefusal := some f })
    ∧ (due → s.site.autoRun ≠ 0 → s.tables.firstFailure s.ownAddr.toNat = none →
      ∃ t, exec .automaticStart s = .next t ∧ t.engine = .run ∧ t.autoStart = .done ∧ t.lastRefusal = none
        ∧ t.tables = s.tables ∧ t.now = s.now ∧ t.period = s.period ∧ t.reservoirs = s.reservoirs)

/-- ENGINE_STOP (R22): in STANDBY a PENDING automatic start becomes CANCELLED; in RUN the requests, refreshes and orders not
yet taken are undone, the houses' records return to rest with mode and last_start_tx kept, every queued entry is a RELEASE
entry, and every AUTO house has one, queued or just taken by the idle port. -/
def Obligations.EngineStop : Prop :=
  ∀ s : State, s.serves →
    (s.engine = .standby → exec .engineStop s = .next (respond 0x45 .ok .none { s with
      autoStart := if s.autoStart = .pending then .cancelled else s.autoStart }))
    ∧ (s.engine = .run → ∃ u, exec .engineStop s = .next (respond 0x45 .ok .none u)
      ∧ u.engine = .standby ∧ u.tables = s.tables ∧ u.period = s.period ∧ u.reservoirs = s.reservoirs
      ∧ u.arbiter.requests = [] ∧ u.arbiter.shedWait = none
      ∧ u.arbiter.lastGrantMark = s.arbiter.lastGrantMark ∧ u.arbiter.lastGrant = s.arbiter.lastGrant
      ∧ (∀ e ∈ u.dispatcher.queue, e.kind = .release) ∧ (∀ h, u.dispatcher.refresh.get h = none)
      ∧ (∀ h, (s.houseE h).used = true → (s.house h).mode = .auto →
        (∃ e ∈ u.dispatcher.queue, e.house = h ∧ e.kind = .release)
        ∨ (s.field.tx = none ∧ ∃ e, u.dispatcher.inTx = some e ∧ e.house = h ∧ e.kind = .release))
      ∧ (∀ h, u.house h = .fresh (s.house h).mode (s.house h).lastStartTx)
      ∧ ∀ p, let q := s.pump p
        (q.run = .startOrdered → q.order = .queued →
          (u.pump p).run = .stopped ∧ (u.pump p).order = .none ∧ (u.pump p).stopMark = q.stopMark
          ∧ (u.pump p).history = q.history ∧ (u.pump p).admission = none)
        ∧ (q.run = .stopOrdered → (q.order = .queued ∨ q.stopExpired = true) →
          (u.pump p).run = .running ∧ (u.pump p).commanded = false ∧ (u.pump p).order = .none
          ∧ (u.pump p).runStart = q.runStart)
        ∧ (q.run = .running → u.pump p = { q with commanded := false })
        ∧ ((q.run = .startOrdered ∧ q.order ≠ .queued)
            ∨ (q.run = .stopOrdered ∧ q.order ≠ .queued ∧ q.stopExpired = false)
            ∨ q.run = .stopped ∨ q.run = .unknown ∨ q.run = .unused → u.pump p = q))

/-- HOUSE_MODE (R96, R97, R145): refusals; the mode alone outside RUN, and between MANUAL and OUT; from AUTO in RUN the
house's request leaves the list, its refresh stops, its record returns to rest with last_start_tx kept, its dispatch entry
is a RELEASE entry, queued or just taken by the idle port, and its pumps are released as at ENGINE STOP, where each request
is for a pump of its house; to AUTO in RUN its running REMOTE pumps are adopted and it is marked. -/
def Obligations.HouseModes : Prop :=
  ∀ (b c : Byte) (h : HouseId) (m : Mode) (s : State), s.serves → b.toNat = h.val →
    ((s.houseE h).used = false → exec (.houseMode b c) s = .next (respond 0x46 .badIndex .none s))
    ∧ ((s.houseE h).used = true → modeOf c.toNat = none →
      exec (.houseMode b c) s = .next (respond 0x46 .badValue .none s))
    ∧ ((s.houseE h).used = true → modeOf c.toNat = some m →
      (s.engine = .standby ∨ ((s.house h).mode ≠ .auto ∧ m ≠ .auto) ∨ (s.house h).mode = m →
        exec (.houseMode b c) s = .next (respond 0x46 .ok .none (modHouse h (fun x => { x with mode := m }) s)))
      ∧ (s.engine = .run → (s.house h).mode = .auto → m ≠ .auto →
        ∃ u, exec (.houseMode b c) s = .next (respond 0x46 .ok .none u)
          ∧ u.house h = .fresh m (s.house h).lastStartTx
          ∧ (∀ e ∈ u.arbiter.requests, e.house ≠ h) ∧ u.dispatcher.refresh.get h = none
          ∧ (∀ e ∈ u.dispatcher.queue, e.house = h → e.kind = .release)
          ∧ ((∃ e ∈ u.dispatcher.queue, e.house = h ∧ e.kind = .release)
            ∨ (s.field.tx = none ∧ ∃ e, u.dispatcher.inTx = some e ∧ e.house = h ∧ e.kind = .release))
          ∧ ((∀ e ∈ s.arbiter.requests, (s.pumpE e.pump).house = some e.house) →
            ∀ p, (s.pumpE p).house = some h →
              let q := s.pump p
              (q.run = .startOrdered → q.order = .queued → u.pump p = { q with
                run := .stopped, commanded := false, order := .none, orderTx := none, confirmMark := none
                admission := none, accrualMark := s.now })
              ∧ (q.run = .stopOrdered → (q.order = .queued ∨ q.stopExpired = true) → u.pump p = { q with
                run := .running, commanded := false, order := .none, orderTx := none, confirmMark := none
                stopExpired := false, runSeconds := s.runSecondsNow p, accrualMark := s.now })
              ∧ (q.run = .running → u.pump p = { q with commanded := false })
              ∧ ((q.run = .startOrdered ∧ q.order ≠ .queued)
                ∨ (q.run = .stopOrdered ∧ q.order ≠ .queued ∧ q.stopExpired = false)
                ∨ q.run = .stopped ∨ q.run = .unknown ∨ q.run = .unused → u.pump p = q))
          ∧ u.apartHouse h = (modHouse h (fun x => { x with mode := m }) s).apartHouse h)
      ∧ (s.engine = .run → (s.house h).mode ≠ .auto → m = .auto →
        ∃ u, exec (.houseMode b c) s = .next (respond 0x46 .ok .none u)
          ∧ h ∈ u.marks
          ∧ u.apartOrders = ({ modHouse h (fun x => { x with mode := .auto }) s with
              pumps := s.pumpsAdopted fun p => (s.pumpE p).house == some h && (s.pump p).run == .running
                && !(s.pump p).commanded && (s.pump p).panel == some .remote } : State).apartOrders))

/-- RESTART (R185 and the reset tables of the chapters): refused with BUSY during a SAVE; otherwise live state is as after
power-up in STANDBY, with the tables, run seconds, service states, calendar time, modes, address and rates kept, the period
record latched from the lookup, and the window recomputed. The dispatch queue and the entry in transmission are kept (R146):
in RUN the entries become RELEASE entries, with one for each AUTO house that had none, all with enqueue marks 0. The take
that follows at an idle field port (log 10) is that of the head entry. -/
def Obligations.Restart : Prop :=
  ∀ s : State, s.serves →
    let released := fun e : DispEntry => { e with
      kind := .release, orders := .replicate 4 .localControl, hold := 0
      startMarks := .replicate 4 false, stopMarks := .replicate 4 false, enqueue := 0 }
    let kept : List DispEntry :=
      if s.engine = .run then
        s.dispatcher.queue.map released ++ ((allHouses.filter fun h => (s.houseE h).used && (s.house h).mode == .auto
            && !s.dispatcher.queue.any fun e => e.house == h).map fun h =>
          ⟨h, (s.houseE h).station, .release, .replicate 4 .localControl, 0, .replicate 4 false, .replicate 4 false, 0⟩)
      else s.dispatcher.queue.map fun e => { e with enqueue := 0 }
    (∀ i, s.storeTx = .saving i → exec .restart s = .next (respond 0x4C .busy .none s))
    ∧ ((∀ i, s.storeTx ≠ .saving i) → ∃ u, exec .restart s = .next (respond 0x4C .ok .none u)
      ∧ u.engine = .standby ∧ u.autoStart = .none ∧ u.settleMark = 0 ∧ u.lastRefusal = none ∧ u.cursor = ⟨0, 0⟩
      ∧ u.responses = [] ∧ u.lastSave = none ∧ u.storeTx = .idle ∧ u.tables = s.tables ∧ u.store = s.store
      ∧ u.levelMap = s.levelMap ∧ u.pumpMap = s.pumpMap ∧ u.ownAddr = s.ownAddr
      ∧ u.now = 0 ∧ u.timeSet = s.timeSet ∧ u.sod = s.sod ∧ u.day = s.day
      ∧ u.period = (match if s.timeSet = true then s.activeEntry (s.sod / 60) else none with
        | some i => ⟨(s.tables.calendar.get i).cls, (s.tables.calendar.get i).budget, some i, 0, .restart⟩
        | none => ⟨.standard, s.site.fallbackBudget, none, 0, .restart⟩)
      ∧ (∀ r, u.res r = ⟨0, .noData, 0, none, 0, .ok, none, 0, false⟩) ∧ (∀ h, u.station h = ⟨.heard, 0⟩)
      ∧ (∀ h, u.house h = .fresh (s.house h).mode 0)
      ∧ (∀ p, u.pump p = .fresh (if (s.pumpE p).house = none then .unused else .unknown) (s.runSecondsNow p)
          (s.pump p).service)
      ∧ u.arbiter.requests = [] ∧ u.arbiter.lastGrantMark = 0 ∧ u.arbiter.lastGrant = none
      ∧ u.arbiter.shedWait = none ∧ u.alarms = ⟨[], false, false, []⟩
      ∧ u.arbiter.window = (if s.site.budgetMargin < min u.period.budget s.site.siteLimit then .isOpen else .closed)
      ∧ u.marks = [] ∧ (∀ h, u.dispatcher.refresh.get h = none)
      ∧ (s.engine = .run → ∀ e ∈ u.dispatcher.queue, e.kind = .release ∧ e.enqueue = 0)
      ∧ (s.field.tx ≠ none ∨ kept = [] → u.dispatcher.queue = kept ∧ u.dispatcher.inTx = s.dispatcher.inTx
        ∧ ∀ h, u.dispatcher.lastSent.get h = none)
      ∧ (∀ e rest, s.field.tx = none → kept = e :: rest →
        u.dispatcher.queue = rest ∧ ∃ g, u.dispatcher.inTx = some g ∧ u.field.tx = some (.dispatch s.ownAddr g)
          ∧ g.house = e.house ∧ (e.kind = .release → g = e)
          ∧ ∀ h, u.dispatcher.lastSent.get h = if h = e.house then some g.orders else none)
      ∧ u.field.runCount = 0 ∧ u.sup.runCount = 0
      ∧ u.field.counters = ⟨0, 0, 0, 0, 0, 0⟩ ∧ u.sup.counters = ⟨0, 0, 0, 0, 0, 0⟩
      ∧ u.field.fwd = [] ∧ u.sup.fwd = [] ∧ u.field.rx = s.field.rx ∧ u.field.buf = s.field.buf
      ∧ u.sup.rx = s.sup.rx ∧ u.sup.buf = s.sup.buf ∧ u.sup.tx = s.sup.tx
      ∧ u.field.rate = s.field.rate ∧ u.sup.rate = s.sup.rate
      ∧ (∀ f, s.field.tx = some f → u.field.tx = some f))

/-! ### Alarms -/

/-- R149, R151, R155, R156, R157: a raise by the entry it finds and by the room in the list, and the notice it queues. -/
def Obligations.RaiseRows : Prop :=
  ∀ (k : AlarmKind) (o : Nat) (v : Option Nat) (d : Side) (s : State),
    let stamp : Stamp := if s.timeSet = true then .calendar s.day s.sod else .unset s.now
    let new : AlarmEntry := ⟨k, o, .activeUnacked, stamp, d, v, 0⟩
    let set := fun (es : List AlarmEntry) (f : Bool) => { s with alarms := { s.alarms with entries := es, overflow := f } }
    let isIt := fun e : AlarmEntry => e.kind = k ∧ e.object = o
    ((∀ e ∈ s.alarms.entries, ¬isIt e) →
      (s.alarms.entries.length < 24 → raise k o v d s
        = pushNotice (.alarm .raised k o .activeUnacked stamp d v 0 s.alarms.overflow)
            (set (s.alarms.entries ++ [new]) s.alarms.overflow))
      ∧ (∀ l c l', 24 ≤ s.alarms.entries.length → s.alarms.entries = l ++ c :: l' → c.state = .clearedUnacked →
        (∀ e ∈ l, e.state ≠ .clearedUnacked) → raise k o v d s
          = pushNotice (.alarm .raised k o .activeUnacked stamp d v 0 false) (set (l ++ l' ++ [new]) false))
      ∧ (24 ≤ s.alarms.entries.length → (∀ e ∈ s.alarms.entries, e.state ≠ .clearedUnacked) →
        raise k o v d s = set s.alarms.entries true))
    ∧ (∀ l e l', s.alarms.entries = l ++ e :: l' → isIt e → (∀ x ∈ l ++ l', ¬isIt x) →
      (e.state = .clearedUnacked →
        let e' := { e with
          state := .activeUnacked, raised := stamp, value := v, repeats := min (e.repeats + 1) 255 }
        raise k o v d s
          = pushNotice (.alarm .reRaised k o .activeUnacked stamp e.side v e'.repeats s.alarms.overflow)
              (set (l ++ e' :: l') s.alarms.overflow))
      ∧ (e.state ≠ .clearedUnacked → raise k o v d s = s))
    ∧ ∀ b : NoticeBody,
      (6 ≤ s.alarms.notices.length → pushNotice b s = { s with alarms := { s.alarms with overrun := true } })
      ∧ (s.alarms.notices.length < 6 → s.sup.tx ≠ none → pushNotice b s = { s with alarms := { s.alarms with
          notices := s.alarms.notices ++ [⟨s.site.supervisor, s.ownAddr, b⟩] } })

/-- R152: a clear by the entry it finds, and the notice it queues. -/
def Obligations.ClearRows : Prop :=
  ∀ (k : AlarmKind) (o : Nat) (s : State),
    let set := fun (es : List AlarmEntry) (f : Bool) => { s with alarms := { s.alarms with entries := es, overflow := f } }
    let isIt := fun e : AlarmEntry => e.kind = k ∧ e.object = o
    ((∀ e ∈ s.alarms.entries, ¬isIt e) → clear k o s = s)
    ∧ (∀ l e l', s.alarms.entries = l ++ e :: l' → isIt e → (∀ x ∈ l ++ l', ¬isIt x) →
      (e.state = .activeUnacked → clear k o s
        = pushNotice (.alarm .cleared k o .clearedUnacked e.raised e.side e.value e.repeats s.alarms.overflow)
            (set (l ++ { e with state := .clearedUnacked } :: l') s.alarms.overflow))
      ∧ (e.state = .activeAcked → clear k o s
        = pushNotice (.alarm .cleared k o .removed e.raised e.side e.value e.repeats false) (set (l ++ l') false))
      ∧ (e.state = .clearedUnacked → clear k o s = s))

/-- ALARM_ACK of one kind and object (R153, R154): its refusals, and its effect by the entry's state; the acknowledgement of
an event alarm removes it with a CLEARED notice of state REMOVED. -/
def Obligations.AckOne : Prop :=
  ∀ (b c : Byte) (s : State), s.serves → b ≠ 0xFF →
    let set := fun (es : List AlarmEntry) (f : Bool) => { s with alarms := { s.alarms with entries := es, overflow := f } }
    (alarmOf b.toNat = none → exec (.alarmAck b c) s = .next (respond 0x49 .badValue .none s))
    ∧ ∀ k, alarmOf b.toNat = some k →
      let isIt := fun e : AlarmEntry => e.kind = k ∧ e.object = c.toNat
      (alarmObjects k ≤ c.toNat → exec (.alarmAck b c) s = .next (respond 0x49 .badValue .none s))
      ∧ (c.toNat < alarmObjects k →
        ((∀ e ∈ s.alarms.entries, ¬isIt e) → exec (.alarmAck b c) s = .next (respond 0x49 .notFound .none s))
        ∧ ∀ l e l', s.alarms.entries = l ++ e :: l' → isIt e → (∀ x ∈ l ++ l', ¬isIt x) →
          (e.state = .activeUnacked → k ≠ .uncommandedRun → k ≠ .unexpectedStop → exec (.alarmAck b c) s
            = .next (respond 0x49 .ok .none (set (l ++ { e with state := .activeAcked } :: l') s.alarms.overflow)))
          ∧ (e.state = .activeUnacked → k = .uncommandedRun ∨ k = .unexpectedStop → exec (.alarmAck b c) s
            = .next (respond 0x49 .ok .none (pushNotice
                (.alarm .cleared k c.toNat .removed e.raised e.side e.value e.repeats false) (set (l ++ l') false))))
          ∧ (e.state = .activeAcked → exec (.alarmAck b c) s = .next (respond 0x49 .ok .none s))
          ∧ (e.state = .clearedUnacked → exec (.alarmAck b c) s
            = .next (respond 0x49 .ok .none (set (l ++ l') false))))

/-- ALARM_ACK_ALL (R153, R154): every entry is acted on in list order. Cleared entries and unacknowledged event alarms
leave, and every entry that stays is ACTIVE_ACKED in its place. That the notices precede the response is log 33's. -/
def Obligations.AckAll : Prop :=
  ∀ (c : Byte) (s : State), s.serves → s.alarms.Bounded →
    let leaves := fun e : AlarmEntry => e.state == .clearedUnacked
      || (e.state == .activeUnacked && (e.kind == .uncommandedRun || e.kind == .unexpectedStop))
    ∃ u, exec (.alarmAckAll c) s = .next (respond 0x49 .ok .none u)
      ∧ u.alarms.entries = (s.alarms.entries.filter fun e => !leaves e).map (fun e => { e with state := .activeAcked })
      ∧ u.alarms.overflow = (s.alarms.overflow && !s.alarms.entries.any leaves)
      ∧ u.apartAlarms = s.apartAlarms

/-! ### The start arbiter -/

/-- R123 and R132: a recompute sets the window by the table of R123 and holds BUDGET_OVER while site load exceeds the
effective budget, raised and cleared as it changes. -/
def Obligations.WindowAndOver : Prop :=
  ∀ s : State,
    let load := s.siteLoad
    let budget := min s.period.budget s.site.siteLimit
    let u := { s with arbiter := { s.arbiter with
      window :=
        if budget ≤ load then .closed
        else if (load : Int) < (budget : Int) - (s.site.budgetMargin : Int) then .isOpen
        else s.arbiter.window
      overBudget := decide (budget < load) } }
    (budget < load → s.arbiter.overBudget = false →
      recompute s = raise .budgetOver 0 (some load) .none u)
    ∧ (load ≤ budget → s.arbiter.overBudget = true → recompute s = clear .budgetOver 0 u)
    ∧ ((budget < load ↔ s.arbiter.overBudget = true) → recompute s = u)

/-- R125 and R126: of the entries that fit, the winner is one of the highest effective urgency and the first such in the
list, and a consideration in RUN after the grant gap grants it; there is none exactly where none fits, and a consideration
then changes nothing. R119 and R120: a request of a house without an entry joins the end of the list, that of a house with
one updates it in its place with its enqueue mark, its age mark and its aged urgency kept, and a grant is considered. -/
def Obligations.WinnerBest : Prop :=
  ∀ s : State,
    let budget := min s.period.budget s.site.siteLimit
    let fit := fun e : Request => s.eligible e.pump = true
      ∧ (s.commandedCount e.house + 1 ≤ (s.houseE e.house).maxRun
        ∨ (s.commandedCount e.house + 1 ≤ (s.houseE e.house).maxRun + 1
          ∧ ∃ old, (s.house e.house).change = .startingNew old e.pump))
      ∧ ((e.effective = .emergency ∧ s.siteLoad + e.power ≤ s.site.siteLimit)
        ∨ (s.arbiter.window = .isOpen ∧ s.siteLoad + e.power ≤ budget))
    (s.winner = none ↔ ∀ e ∈ s.arbiter.requests, ¬fit e)
    ∧ (s.winner = none → consider .live s = s)
    ∧ (∀ e, s.winner = some e →
      (∃ l l', s.arbiter.requests = l ++ e :: l' ∧ fit e
        ∧ (∀ x ∈ l, fit x → x.effective.rank < e.effective.rank)
        ∧ ∀ x ∈ l', fit x → x.effective.rank ≤ e.effective.rank)
      ∧ (s.engine = .run → s.site.grantGap ≤ (s.now - s.arbiter.lastGrantMark).toNat →
        consider .live s = grant .live e s))
    ∧ (∀ (h : HouseId) (p : PumpId) (need : Urgency),
      ((∀ e ∈ s.arbiter.requests, e.house ≠ h) → placeRequest .live h p need s = consider .live { s with arbiter :=
        { s.arbiter with requests :=
            s.arbiter.requests ++ [⟨h, p, (s.pumpE p).power, need, .rotate, s.now, s.now⟩] } })
      ∧ ∀ l e l', s.arbiter.requests = l ++ e :: l' → e.house = h → (∀ x ∈ l ++ l', x.house ≠ h) →
        placeRequest .live h p need s = consider .live { s with arbiter := { s.arbiter with requests :=
          l ++ { e with pump := p, power := (s.pumpE p).power, need := need } :: l' } })

/-- GRANT_GAP_EXPIRY (R92, R124, R127, R128): in RUN the winner leaves the list, its pump becomes START_ORDERED and QUEUED
with the effective urgency as its admission urgency, and the grant is recorded, its house marked; at a busy field port they
stand so in the state that follows. Without a winner nothing changes. -/
def Obligations.GrantGapExpiry : Prop :=
  ∀ s : State,
    let due := (s.now - s.arbiter.lastGrantMark).toNat = s.site.grantGap ∧ 1 ≤ s.site.grantGap
    (¬due ∨ s.engine ≠ .run ∨ s.winner = none → exec .grantGapExpiry s = .next s)
    ∧ ∀ e, due → s.engine = .run → s.winner = some e →
      (∃ t, exec .grantGapExpiry s = .next t ∧ t.arbiter.lastGrantMark = s.now
        ∧ t.arbiter.lastGrant = some (e.house, e.pump)
        ∧ t.arbiter.requests = s.arbiter.requests.filter (fun x => x.house ≠ e.house)
        ∧ t.apartOrders = s.apartOrders
        ∧ e.house ∈ t.marks
        ∧ (s.field.tx ≠ none → (t.pump e.pump).run = .startOrdered ∧ (t.pump e.pump).commanded = false
          ∧ (t.pump e.pump).order = .queued ∧ (t.pump e.pump).orderTx = none ∧ (t.pump e.pump).confirmMark = none
          ∧ (t.pump e.pump).admission = some e.effective ∧ (t.house e.house).start = .granted e.pump
          ∧ t.field.tx = s.field.tx))
      ∧ ((grant .quiet e s).pump e.pump).run = .startOrdered
      ∧ ((grant .quiet e s).pump e.pump).order = .queued
      ∧ ((grant .quiet e s).pump e.pump).admission = some e.effective
      ∧ ((grant .quiet e s).house e.house).start = .granted e.pump

/-- REQUEST_AGEING_EXPIRY (R122): the aged urgency by the table of R122, which is followed where the rule's prose differs
(log 35), the age mark now, and a consideration. The command before age_s, or without an entry of the house, leaves the
state alone (log 5). -/
def Obligations.AgeingTable : Prop :=
  ∀ (h : HouseId) (s : State),
    let urgency := fun e : Request => if e.need.rank < e.aged.rank then e.aged else e.need
    (∀ l e l', s.arbiter.requests = l ++ e :: l' → e.house = h → (∀ x ∈ l ++ l', x.house ≠ h) →
      (s.site.age ≤ (s.now - e.ageMark).toNat →
        exec (.requestAgeingExpiry h) s = .next (consider .live { s with arbiter := { s.arbiter with
          requests := l ++ { e with
            ageMark := s.now
            aged := match urgency e with
              | .rotate => .fill
              | .fill => .demand
              | .demand | .emergency => e.aged } :: l' } }))
      ∧ ((s.now - e.ageMark).toNat < s.site.age → exec (.requestAgeingExpiry h) s = .next s))
    ∧ ((∀ e ∈ s.arbiter.requests, e.house ≠ h) → exec (.requestAgeingExpiry h) s = .next s)

/-- The orders in which pumps are chosen. R129, R130: the pump shed next is the first of the candidates by need, then by the
distance of the delivery level from its stop level, then by pump id; and the check ends with projected load within the
budget or with no candidate left. R99: the start candidate is the eligible pump (R58) of the house with the fewest run
seconds; R100: the stop candidate is the commanded RUNNING pump past its min-run with the most; R103: the old pump of a
rotation is the commanded RUNNING pump that has run longest; each with its order of ties. -/
def Obligations.SheddingOrder : Prop :=
  ∀ s : State,
    let candidate := fun (p : PumpId) (h : HouseId) => (s.pumpE p).house = some h ∧ (s.pump p).run = .running
      ∧ (s.pump p).commanded = true ∧ (s.houseE h).used = true ∧ (s.house h).mode = .auto
      ∧ (s.house h).need ≠ .emergency ∧ (s.pumpE p).minRun ≤ (s.now - (s.pump p).runStart).toNat
    let usable := fun h => (s.res (s.houseE h).delivery).source = .live ∨ (s.res (s.houseE h).delivery).source = .estimated
    let margin := fun h =>
      ((s.bandE h s.period.cls).stop : Int) - ((s.res (s.houseE h).delivery).level : Int)
    let slot := fun p => (s.pumpE p).slot
    (s.shedNext = none ↔ ∀ p h, ¬candidate p h)
    ∧ (∀ p, s.shedNext = some p → ∃ h, candidate p h ∧ ∀ q g, candidate q g →
      (s.house h).need.rank < (s.house g).need.rank
      ∨ ((s.house h).need = (s.house g).need
        ∧ ((usable h ∧ usable g ∧ margin h < margin g) ∨ (usable h ∧ ¬usable g)
          ∨ (((usable h ∧ usable g ∧ margin h = margin g) ∨ (¬usable h ∧ ¬usable g)) ∧ p ≤ q))))
    ∧ (s.engine = .run → (shed .quiet s).projectedLoad ≤ (shed .quiet s).budget ∨ (shed .quiet s).shedNext = none)
    ∧ ∀ h : HouseId,
      let ready := fun p => (s.pumpE p).house = some h ∧ (s.pump p).run = .stopped ∧ (s.pump p).panel = some .remote
        ∧ (s.pump p).fault = some 0 ∧ (s.pump p).service = .inService
        ∧ (∀ m, (s.pump p).stopMark = some m → (s.pumpE p).minOff ≤ (s.now - m).toNat)
        ∧ (s.pump p).history.length < (s.pumpE p).maxStarts ∧ (s.station h).state = .heard
      let runner := fun p => (s.pumpE p).house = some h ∧ (s.pump p).run = .running ∧ (s.pump p).commanded = true
      let leaves := fun (out : List PumpId) p => runner p ∧ p ∉ out
        ∧ (s.pumpE p).minRun ≤ (s.now - (s.pump p).runStart).toNat
      let age := fun p => (s.now - (s.pump p).runStart).toNat
      (s.startCandidate h = none ↔ ∀ p, ¬ready p)
      ∧ (∀ p, s.startCandidate h = some p → ready p ∧ ∀ q, ready q →
        s.runSecondsNow p < s.runSecondsNow q
        ∨ (s.runSecondsNow p = s.runSecondsNow q ∧ (slot p < slot q ∨ (slot p = slot q ∧ p ≤ q))))
      ∧ (∀ out : List PumpId, s.stopCandidate h out = none ↔ ∀ p, ¬leaves out p)
      ∧ (∀ (out : List PumpId) (p : PumpId), s.stopCandidate h out = some p → leaves out p ∧ ∀ q, leaves out q →
        s.runSecondsNow q < s.runSecondsNow p
        ∨ (s.runSecondsNow q = s.runSecondsNow p ∧ (slot q < slot p ∨ (slot q = slot p ∧ q ≤ p))))
      ∧ (s.oldest h = none ↔ ∀ p, ¬runner p)
      ∧ (∀ p, s.oldest h = some p → runner p ∧ ∀ q, runner q →
        age q < age p ∨ (age q = age p ∧ (slot p < slot q ∨ (slot p = slot q ∧ p ≤ q))))

/-! ### Houses -/

/-- R87: below stop_cm the stage count leaves no stage to engage and none to disengage, and at stop_cm or above it is 0. And
the decisions of step 6 that bring the house's pumps to it, outside changeover or with the count and the pumps left out that
one gives: the withdrawal of an unwanted start (R93), the stop decision (R94, R100) with its stop request (R50), the start
decision (R90) and the waits (R91). Which of two waits stands is log 34's, going on to the stop decision after a withdrawn
REQUESTED start log 13's, the pumps that a MIN_RUN wait is taken over log 14's, the absent order_tx and confirm mark of a
stop ordered log 15's, and the shedding check before the STOP order is placed log 33's. -/
def Obligations.StageCount : Prop :=
  (∀ (b : BandEntry) (level d : Nat),
    (b.stop ≤ level → stagesFor b level d = 0)
    ∧ (level < b.stop → 1 ≤ b.hyst →
      let D := stagesFor b level d
      D ≤ 4 ∧ (2 ≤ D → level < b.stage D + b.hyst) ∧ (D < 4 → b.inUse (D + 1) = true → b.stage (D + 1) < level)))
  ∧ ∀ (h : HouseId) (s : State),
    let x := s.house h
    let elapsed := fun m : Second => (s.now - m).toNat
    let running := fun p => (s.pump p).run = .running ∧ (s.pump p).commanded = true
    let unlisted := fun u : State => modHouse h (fun y => { y with start := .none })
      { u with arbiter := { u.arbiter with requests := u.arbiter.requests.filter fun e => e.house ≠ h } }
    (∀ (count : Nat) (out : List PumpId),
      let runners := s.runners h out
      let leaving := runners.filter fun p => (s.pump p).service == .withdrawn
      let due := fun p => p ∈ leaving ∧ (s.pumpE p).minRun ≤ elapsed (s.pump p).runStart
      let stops := fun (t : State) (d : Stopped) => decideStop .live h count out s = (t, d)
      let waits := fun ps : List PumpId =>
        stops (modHouse h (fun y => { y with wait := ⟨.minRun, s.minRunEnd ps⟩ }) s) .no
      (∀ p, p ∈ runners ↔ (s.pumpE p).house = some h ∧ running p ∧ p ∉ out)
      ∧ (∀ p, due p → (∀ q, q < p → ¬due q) → stops (stopRequest .live p s) .ended)
      ∧ ((∀ p, ¬due p) →
        (x.target < count →
          (∀ p, s.stopCandidate h out = some p → stops (stopRequest .live p (accrueAll (s.runners h []) s)) .one)
          ∧ (s.stopCandidate h out = none → waits runners))
        ∧ (count ≤ x.target → (leaving ≠ [] → waits leaving) ∧ (leaving = [] → stops s .no)))
      ∧ (∀ q, x.start = .requested q → x.target ≤ x.commanded →
        let d := decideStop .live h count out (unlisted s)
        stepApart .live h count out s = (d.1, d.2.after))
      ∧ (∀ p, x.start = .granted p → (x.target < x.commanded ∨ (s.pump p).service = .withdrawn) →
        (s.pump p).run = .startOrdered → (s.pump p).order = .queued →
        stepApart .live h count out s = (derivePump .live p (markPump p (loadFell .live (undoCore p s))), .nothing))
      ∧ ((∀ q, x.start = .requested q → x.commanded < x.target) →
        (∀ p, x.start = .granted p → ¬((x.target < x.commanded ∨ (s.pump p).service = .withdrawn)
          ∧ (s.pump p).run = .startOrdered ∧ (s.pump p).order = .queued)) →
        let d := decideStop .live h count out s
        stepApart .live h count out s
          = (if d.2 = .no then decideStart .live h d.1 else d.1, d.2.after)))
    ∧ (Stopped.after .ended = .nothing ∧ Stopped.after .one = .rotation ∧ Stopped.after .no = .rotation)
    ∧ (∀ p, (running p → stopRequest .live p s = derivePump .live p (markPump p (shed .live
          { s with pumps := s.pumps.set p { s.pump p with
            run := .stopOrdered, commanded := false, order := .queued, orderTx := none, confirmMark := none
            stopExpired := false, runSeconds := s.runSecondsNow p, accrualMark := s.now } })))
      ∧ (¬running p → stopRequest .live p s = s))
    ∧ (∀ ps : List PumpId, (s.minRunEnd ps = none ↔ ps = [])
      ∧ ∀ e, s.minRunEnd ps = some e → ∃ p ∈ ps, e = (s.pump p).runStart + BitVec.ofNat 32 (s.pumpE p).minRun
        ∧ ∀ q ∈ ps, (s.pumpE p).minRun - elapsed (s.pump p).runStart ≤ (s.pumpE q).minRun - elapsed (s.pump q).runStart)
    ∧ (x.target ≤ x.commanded → decideStart .live h s = s)
    ∧ (∀ p, x.start = .granted p ∨ x.start = .transmitted p → decideStart .live h s = s)
    ∧ (x.commanded < x.target → x.start = .none → elapsed x.lastStartTx < (s.houseE h).stagger →
      decideStart .live h s = modHouse h (fun y => { y with
        wait := ⟨.stagger, some (x.lastStartTx + BitVec.ofNat 32 (s.houseE h).stagger)⟩ }) s)
    ∧ (x.commanded < x.target →
      (x.start = .none ∧ (s.houseE h).stagger ≤ elapsed x.lastStartTx) ∨ (∃ q, x.start = .requested q) →
      let read := accrueAll (allPumps.filter fun p => (s.pumpE p).house == some h && s.eligible p) s
      (∀ p, s.startCandidate h = some p → decideStart .live h s = placeRequest .live h p
        (match x.need with | .none => .rotate | .fill => .fill | .demand => .demand | .emergency => .emergency)
        (modHouse h (fun y => { y with start := .requested p, wait := ⟨.none, none⟩ }) read))
      ∧ (s.startCandidate h = none → decideStart .live h s = modHouse h (fun y => { y with
        wait := if (s.waitFor h).kind = .none then x.wait else s.waitFor h }) (unlisted read)))
    ∧ (let ready := fun p => (s.pumpE p).house = some h ∧ (s.pump p).run = .stopped ∧ (s.pump p).panel = some .remote
        ∧ (s.pump p).fault = some 0 ∧ (s.pump p).service = .inService ∧ (s.station h).state = .heard
      let offEnd := fun p m => ready p ∧ (s.pump p).stopMark = some m ∧ elapsed m < (s.pumpE p).minOff
      let ageEnd := fun p m => ready p ∧ (s.pump p).history.head? = some m
        ∧ (s.pumpE p).maxStarts ≤ (s.pump p).history.length
      ((∀ p m, ¬offEnd p m ∧ ¬ageEnd p m) →
        s.waitFor h = if (s.station h).state = .silent then ⟨.station, none⟩ else ⟨.none, none⟩)
      ∧ (∀ p m, offEnd p m ∨ ageEnd p m → ∃ q n,
        ((offEnd q n ∧ s.waitFor h = ⟨.minOff, some (n + BitVec.ofNat 32 (s.pumpE q).minOff)⟩
            ∧ (∀ r j, offEnd r j → (s.pumpE q).minOff - elapsed n ≤ (s.pumpE r).minOff - elapsed j)
            ∧ ∀ r j, ageEnd r j → (s.pumpE q).minOff - elapsed n ≤ 3600 - elapsed j)
          ∨ (ageEnd q n ∧ s.waitFor h = ⟨.history, some (n + 3600)⟩
            ∧ (∀ r j, offEnd r j → 3600 - elapsed n < (s.pumpE r).minOff - elapsed j)
            ∧ ∀ r j, ageEnd r j → 3600 - elapsed n ≤ 3600 - elapsed j))))

/-- The protections (R80-R83). The dry latch is judged on a usable suction level with its hysteresis and kept without one,
and OVERFLOW on a usable delivery level, each with its alarm at a change. While one of SUCTION_LOST, DRY_TRIP and OVERFLOW
holds, an evaluation sets the first of them, T 0 and need NONE; the changeover, the wait, the rotation mark and HOUSE_SHORT
end, D stands as the level gives it, no pump of the house is left RUNNING and commanded, a REQUESTED start leaves the list
(each request of the list being for a pump of its house), and a GRANTED start still QUEUED at a busy field port is undone. -/
def Obligations.SuctionLostStops : Prop :=
  ∀ (h : HouseId) (s : State),
    let x := s.house h
    let d := (s.houseE h).delivery
    let known := fun r => (s.res r).source = .live ∨ (s.res r).source = .estimated
    let latch := fun r => if x.dryLatch = true then (s.res r).level < (s.resE r).dryCut + (s.resE r).dryHyst
      else (s.res r).level ≤ (s.resE r).dryCut
    let spills := known d ∧ (s.resE d).overflow ≤ (s.res d).level
    ((s.houseE h).suction = none → judgeSuction h s = s)
    ∧ (∀ r, (s.houseE h).suction = some r →
      (¬known r → judgeSuction h s = s)
      ∧ (known r →
        let t := modHouse h (fun y => { y with dryLatch := decide (latch r) }) s
        (x.dryLatch = false ∧ latch r → judgeSuction h s = raise .dryRunTrip h.val (some (s.res r).level) .none t)
        ∧ (x.dryLatch = true ∧ ¬latch r → judgeSuction h s = clear .dryRunTrip h.val t)
        ∧ ((x.dryLatch = true ↔ latch r) → judgeSuction h s = s)))
    ∧ (let t := modHouse h (fun y => { y with overflow := decide spills }) s
      (x.overflow = false ∧ spills → judgeOverflow h s = raise .overflowHigh d.val (some (s.res d).level) .none t)
      ∧ (x.overflow = true ∧ ¬spills → judgeOverflow h s = clear .overflowHigh d.val t)
      ∧ ((x.overflow = true ↔ spills) → judgeOverflow h s = s))
    ∧ ∀ P : Protection,
      ((P = .suctionLost ∧ ∃ r, (s.houseE h).suction = some r ∧ ¬known r)
        ∨ (P = .dryTrip ∧ ∃ r, (s.houseE h).suction = some r ∧ known r ∧ latch r)
        ∨ (P = .overflow ∧ spills ∧ ∀ r, (s.houseE h).suction = some r → known r ∧ ¬latch r)) →
      h ∈ s.marks → s.engine = .run → (s.houseE h).used = true → x.mode = .auto →
      ∃ t, exec (.houseEvaluation h) s = .next t
        ∧ (t.house h).protection = P ∧ (t.house h).target = 0 ∧ (t.house h).need = .none
        ∧ (t.house h).change = .none ∧ (t.house h).wait = ⟨.none, none⟩ ∧ (t.house h).rotMark = none
        ∧ (t.house h).rotAt = (if x.rotAt = some s.now then some s.now else none)
        ∧ (t.house h).staggerAt = (if x.staggerAt = some s.now then some s.now else none)
        ∧ (t.house h).short = false ∧ ((t.house h).overflow = true ↔ spills)
        ∧ (((s.houseE h).suction = none ∨ P = .suctionLost) → (t.house h).dryLatch = x.dryLatch)
        ∧ (P = .dryTrip → (t.house h).dryLatch = true)
        ∧ (P = .overflow → (s.houseE h).suction ≠ none → (t.house h).dryLatch = false)
        ∧ (t.house h).stages
          = (if known d then stagesFor (s.bandE h s.period.cls) (s.res d).level x.stages else 0)
        ∧ (known d → (t.house h).phase = .none ∧ (t.house h).phaseMark = none)
        ∧ (∀ p, (s.pumpE p).house = some h → (t.pump p).run = .running → (t.pump p).commanded = false)
        ∧ (∀ q, x.start = .requested q → (∀ e ∈ s.arbiter.requests, (s.pumpE e.pump).house = some e.house) →
          (t.house h).start = .none ∧ ∀ e ∈ t.arbiter.requests, e.house ≠ h)
        ∧ (∀ p, x.start = .granted p → (s.pumpE p).house = some h → (s.pump p).run = .startOrdered →
          (s.pump p).order = .queued → s.field.tx ≠ none →
          (∀ e ∈ s.arbiter.requests, (s.pumpE e.pump).house = some e.house ∧ e.house ≠ h) →
          (t.house h).start = .none ∧ (t.pump p).run = .stopped ∧ (t.pump p).stopMark = (s.pump p).stopMark)
        ∧ t.apartHouse h = s.apartHouse h

/-- HOUSE_EVALUATION. A mark is taken, and acts on a used AUTO house in RUN (R79; log 7); without one the command leaves the
state alone (log 5). With no protection: D from the band of the class in force, T the lesser of D and max_run, need by the
cases of R89; on a delivery level not usable the fallback phase and its T and need (R85, R86, R89). Then step 6, the rotation
test and HOUSE_SHORT (R80), the last two left out where step 6 ends the evaluation (log 12) and the rotation test where a fall
has ended the changeover (R113): the rows of a changeover (R104 to R113) with its count K, of the rotation test (R101, R103),
of the shortage test (R95) and of the rotation and stagger timers, whose expiries of this second still come (R91, R98, R102,
R115). What no row of R107 and no runner in R101 leaves, R113 before R101 after a fall, and the count of an UNKNOWN pump
that is FAILED or WITHDRAWN are log 34's. -/
def Obligations.EvaluationSets : Prop :=
  ∀ (h : HouseId) (s : State),
    let e := s.houseE h
    let x := s.res e.delivery
    let C := s.commandedCount h
    let D := stagesFor (s.bandE h s.period.cls) x.level (s.house h).stages
    let T := min D e.maxRun
    let std := s.bandE h .standard
    let known := fun r => (s.res r).source = .live ∨ (s.res r).source = .estimated
    let latch := fun r => if (s.house h).dryLatch = true then (s.res r).level < (s.resE r).dryCut + (s.resE r).dryHyst
      else (s.res r).level ≤ (s.resE r).dryCut
    let taken := { s with marks := s.marks.erase h }
    let runs := s.engine = .run ∧ e.used = true ∧ (s.house h).mode = .auto
    let enters : Phase × Option Second := if 1 ≤ (s.planE h).fallbackOn then (.on, some s.now) else (.off, none)
    let phase : Phase × Option Second := match (s.house h).phase, (s.house h).phaseMark with
      | .on, some m =>
        if (s.now - m).toNat < (s.planE h).fallbackOn then (.on, some m)
        else if 1 ≤ (s.planE h).fallbackOff then (.off, some s.now) else enters
      | .off, some m => if (s.now - m).toNat < (s.planE h).fallbackOff then (.off, some m) else enters
      | _, _ => enters
    (h ∉ s.marks → exec (.houseEvaluation h) s = .next s)
    ∧ (h ∈ s.marks → ¬runs → exec (.houseEvaluation h) s = .next taken)
    ∧ (h ∈ s.marks → runs → (∀ r, e.suction = some r → known r ∧ ¬latch r) →
      (known e.delivery → x.level < (s.resE e.delivery).overflow →
        ∃ t, exec (.houseEvaluation h) s = .next t
          ∧ (t.house h).stages = D ∧ (t.house h).target = T ∧ (t.house h).protection = .none
          ∧ (t.house h).phase = .none ∧ (t.house h).phaseMark = none
          ∧ (t.house h).need =
            (if x.level ≤ (s.resE e.delivery).emerg ∧ 1 ≤ T then .emergency
            else if T ≤ C then .none
            else if s.period.cls ≠ .cheap then .demand
            else if std.inUse (C + 1) = true ∧ x.level ≤ std.stage (C + 1) then .demand
            else .fill)
          ∧ t.apartHouse h = s.apartHouse h)
      ∧ (¬known e.delivery →
        ∃ t, exec (.houseEvaluation h) s = .next t
          ∧ (t.house h).stages = 0 ∧ (t.house h).protection = .none
          ∧ (t.house h).phase = phase.1 ∧ (t.house h).phaseMark = phase.2
          ∧ (t.house h).target = (if phase.1 = .on then 1 else 0)
          ∧ (t.house h).need = (if phase.1 = .on ∧ C = 0 then .demand else .none)
          ∧ t.apartHouse h = s.apartHouse h)
      ∧ ((known e.delivery ∧ x.level < (s.resE e.delivery).overflow) ∨ ¬known e.delivery →
        let v := modHouse h (fun y => { y with wait := ⟨.none, none⟩ }) (setDemand h (judge h taken))
        exec (.houseEvaluation h) s = .next (timeStagger h (timeRotation h (match stepSix .live h v with
          | (w, .nothing) => w
          | (w, .shortage) => testShort h w
          | (w, .rotation) => testShort h (rotation .live h w))))))
    ∧ (let y := s.house h
      let elapsed := fun m : Second => (s.now - m).toNat
      let read := fun (old : PumpId) (u : State) => accrue old
        (accrueAll (allPumps.filter fun p => (s.pumpE p).house == some h && s.eligible p) u)
      let lesser := fun old p => s.startCandidate h = some p ∧ s.runSecondsNow p < s.runSecondsNow old
      let requested := fun (old p : PumpId) (mark : Option Second) (u : State) => placeRequest .live h p .rotate
        (modHouse h (fun z => { z with
          change := .startingNew old p, start := .requested p, rotMark := mark, wait := ⟨.none, none⟩ }) u)
      let unlisted := fun u : State => modHouse h (fun z => { z with start := .none })
        { u with arbiter := { u.arbiter with requests := u.arbiter.requests.filter fun r => r.house ≠ h } }
      let ended := fun (mark : Option Second) (u : State) =>
        modHouse h (fun z => { z with change := .none, rotMark := mark }) u
      let undone := fun (p : PumpId) (u : State) =>
        derivePump .live p (markPump p (loadFell .live (undoCore p u)))
      let queuedStart := fun p => (s.pump p).run = .startOrdered ∧ (s.pump p).order = .queued
      (y.change = .none → stepSix .live h s = stepOutside .live h s)
      ∧ stepOutside .live h s = stepApart .live h y.commanded [] s
      ∧ (∀ old new,
        let runner := (s.pump old).run = .running ∧ (s.pump old).commanded = true
        let q := s.pump new
        let K := (allPumps.filter fun p => (s.pumpE p).house == some h && p != old && p != new
          && ((s.pump p).run == .startOrdered || ((s.pump p).run == .running && (s.pump p).commanded))).length + 1
        let others := decideStop .live h K [old, new] s
        (y.change = .startingNew old new →
          (¬runner → stepSix .live h s = stepOutside .live h (ended none s))
          ∧ (runner →
            (queuedStart new → q.service = .withdrawn →
              stepSix .live h s = (undone new (ended (some s.now) s), .nothing))
            ∧ (q.run = .running → q.commanded = true → q.service = .withdrawn →
              stepSix .live h s = stepApart .live h K [old] (ended none s))
            ∧ (q.run = .running → q.commanded = true → q.service ≠ .withdrawn → stepSix .live h s
              = (modHouse h (fun z => { z with change := .stoppingOld old new }) (stopRequest .live old s), .nothing))
            ∧ ((q.run = .running ∧ q.commanded = false) ∨ (q.run = .stopped ∧ y.start = .none) →
              stepSix .live h s = stepOutside .live h (ended (some s.now) s))
            ∧ ((q.run = .startOrdered ∧ ¬(q.order = .queued ∧ q.service = .withdrawn))
                ∨ (q.run = .stopped ∧ y.start ≠ .none) ∨ q.run = .unused ∨ q.run = .unknown ∨ q.run = .stopOrdered →
              (K < y.target → stepSix .live h s = stepOutside .live h (ended none s))
              ∧ (y.target < K →
                (∀ p, y.start = .requested p →
                  let d := stepOutside .live h (ended none (unlisted s))
                  stepSix .live h s = (d.1, if d.2 = .nothing then .nothing else .shortage))
                ∧ (∀ p, y.start = .granted p → queuedStart p →
                  stepSix .live h s = (undone p (ended none s), .nothing))
                ∧ ((∀ p, y.start ≠ .requested p) → (∀ p, y.start = .granted p → ¬queuedStart p) →
                  stepSix .live h s = (others.1, others.2.after)))
              ∧ (y.target = K →
                (∀ p, y.start = .requested p →
                  (∀ w, lesser old w → stepSix .live h s = (requested old w y.rotMark (read old s), .rotation))
                  ∧ ((∀ w, ¬lesser old w) →
                    stepSix .live h s = stepOutside .live h (ended (some s.now) (unlisted (read old s)))))
                ∧ ((∀ p, y.start ≠ .requested p) → stepSix .live h s = (s, .rotation))))))
        ∧ (y.change = .stoppingOld old new →
          ((s.pump old).run = .stopOrdered → (s.pump old).stopExpired = false → stepSix .live h s
            = (modHouse h (fun z => { z with wait := ⟨.none, none⟩ }) others.1, others.2.after))
          ∧ ((s.pump old).run ≠ .stopOrdered ∨ (s.pump old).stopExpired = true →
            stepSix .live h s = stepOutside .live h (ended none s))))
      ∧ (let steady := 1 ≤ (s.planE h).rotate ∧ y.protection = .none ∧ y.change = .none ∧ y.start = .none
          ∧ y.target = C ∧ 1 ≤ C
        (¬steady → rotation .live h s = modHouse h (fun z => { z with rotMark := none }) s)
        ∧ (steady → s.oldest h = none → rotation .live h s = s)
        ∧ (steady → ∀ old, s.oldest h = some old →
          let m := y.rotMark.getD (s.pump old).runStart
          let t := modHouse h (fun z => { z with rotMark := some m }) s
          (elapsed m < (s.planE h).rotate → rotation .live h s = t)
          ∧ ((s.planE h).rotate ≤ elapsed m →
            (∀ w, lesser old w →
              (e.stagger ≤ elapsed y.lastStartTx → rotation .live h s = requested old w none (read old t))
              ∧ (elapsed y.lastStartTx < e.stagger → rotation .live h s = modHouse h (fun z => { z with
                  wait := ⟨.stagger, some (y.lastStartTx + BitVec.ofNat 32 e.stagger)⟩ }) (read old t)))
            ∧ ((∀ w, ¬lesser old w) →
              rotation .live h s = modHouse h (fun z => { z with rotMark := some s.now }) (read old t)))))
      ∧ (let sets := fun at_ : Option Second => timeRotation h s = modHouse h (fun z => { z with rotAt := at_ }) s
        (y.rotAt = some s.now → timeRotation h s = s)
        ∧ (y.rotAt ≠ some s.now →
          (∀ m, y.rotMark = some m → elapsed m < (s.planE h).rotate →
            sets (some (m + BitVec.ofNat 32 (s.planE h).rotate)))
          ∧ ((∀ m, y.rotMark = some m → (s.planE h).rotate ≤ elapsed m) → sets none)))
      ∧ (let sets := fun at_ : Option Second => timeStagger h s = modHouse h (fun z => { z with staggerAt := at_ }) s
        (y.staggerAt = some s.now → timeStagger h s = s)
        ∧ (y.staggerAt ≠ some s.now →
          (y.wait.kind = .stagger → sets y.wait.ends) ∧ (y.wait.kind ≠ .stagger → sets none)))
      ∧ (let ready := (allPumps.filter fun p => (s.pumpE p).house == some h
            && (((s.pump p).service == .inService && (s.pump p).panel == some .remote && (s.pump p).fault == some 0)
              || (s.pump p).run == .unknown)).length
        let t := modHouse h (fun z => { z with short := decide (ready < y.target) }) s
        (y.short = false ∧ ready < y.target → testShort h s
          = raise .houseShort h.val (some (if known e.delivery then x.level else 0)) .none t)
        ∧ (y.short = true ∧ y.target ≤ ready → testShort h s = clear .houseShort h.val t)
        ∧ ((y.short = true ↔ ready < y.target) → testShort h s = s)))
end

