-- ==== Sys2Proof/Laws/State.lean ====
section
/-! SUPPORT. One lemma for each field of State and each update of one record, and the reading of a record after an update
of the same kind. No later proof unfolds a record update. -/

namespace Sys2Proof.Machine

variable (s : State)

/-! ### modRes -/

section

variable (r : ResId) (f : Reservoir → Reservoir)

@[simp] theorem modRes_engine : (modRes r f s).engine = s.engine := rfl
@[simp] theorem modRes_autoStart : (modRes r f s).autoStart = s.autoStart := rfl
@[simp] theorem modRes_settleMark : (modRes r f s).settleMark = s.settleMark := rfl
@[simp] theorem modRes_lastRefusal : (modRes r f s).lastRefusal = s.lastRefusal := rfl
@[simp] theorem modRes_cursor : (modRes r f s).cursor = s.cursor := rfl
@[simp] theorem modRes_responses : (modRes r f s).responses = s.responses := rfl
@[simp] theorem modRes_lastSave : (modRes r f s).lastSave = s.lastSave := rfl
@[simp] theorem modRes_tables : (modRes r f s).tables = s.tables := rfl
@[simp] theorem modRes_levelMap : (modRes r f s).levelMap = s.levelMap := rfl
@[simp] theorem modRes_pumpMap : (modRes r f s).pumpMap = s.pumpMap := rfl
@[simp] theorem modRes_storeTx : (modRes r f s).storeTx = s.storeTx := rfl
@[simp] theorem modRes_imagesGood : (modRes r f s).imagesGood = s.imagesGood := rfl
@[simp] theorem modRes_saveContent : (modRes r f s).saveContent = s.saveContent := rfl
@[simp] theorem modRes_store : (modRes r f s).store = s.store := rfl
@[simp] theorem modRes_now : (modRes r f s).now = s.now := rfl
@[simp] theorem modRes_timeSet : (modRes r f s).timeSet = s.timeSet := rfl
@[simp] theorem modRes_sod : (modRes r f s).sod = s.sod := rfl
@[simp] theorem modRes_day : (modRes r f s).day = s.day := rfl
@[simp] theorem modRes_period : (modRes r f s).period = s.period := rfl
@[simp] theorem modRes_reservoirs : (modRes r f s).reservoirs = s.reservoirs.set r (f (s.res r)) := rfl
@[simp] theorem modRes_pumps : (modRes r f s).pumps = s.pumps := rfl
@[simp] theorem modRes_stations : (modRes r f s).stations = s.stations := rfl
@[simp] theorem modRes_houses : (modRes r f s).houses = s.houses := rfl
@[simp] theorem modRes_marks : (modRes r f s).marks = s.marks := rfl
@[simp] theorem modRes_arbiter : (modRes r f s).arbiter = s.arbiter := rfl
@[simp] theorem modRes_dispatcher : (modRes r f s).dispatcher = s.dispatcher := rfl
@[simp] theorem modRes_alarms : (modRes r f s).alarms = s.alarms := rfl
@[simp] theorem modRes_field : (modRes r f s).field = s.field := rfl
@[simp] theorem modRes_sup : (modRes r f s).sup = s.sup := rfl
@[simp] theorem modRes_ownAddr : (modRes r f s).ownAddr = s.ownAddr := rfl
@[simp] theorem modRes_pending : (modRes r f s).pending = s.pending := rfl

end

/-! ### modPump -/

section

variable (p : PumpId) (f : Pump → Pump)

@[simp] theorem modPump_engine : (modPump p f s).engine = s.engine := rfl
@[simp] theorem modPump_autoStart : (modPump p f s).autoStart = s.autoStart := rfl
@[simp] theorem modPump_settleMark : (modPump p f s).settleMark = s.settleMark := rfl
@[simp] theorem modPump_lastRefusal : (modPump p f s).lastRefusal = s.lastRefusal := rfl
@[simp] theorem modPump_cursor : (modPump p f s).cursor = s.cursor := rfl
@[simp] theorem modPump_responses : (modPump p f s).responses = s.responses := rfl
@[simp] theorem modPump_lastSave : (modPump p f s).lastSave = s.lastSave := rfl
@[simp] theorem modPump_tables : (modPump p f s).tables = s.tables := rfl
@[simp] theorem modPump_levelMap : (modPump p f s).levelMap = s.levelMap := rfl
@[simp] theorem modPump_pumpMap : (modPump p f s).pumpMap = s.pumpMap := rfl
@[simp] theorem modPump_storeTx : (modPump p f s).storeTx = s.storeTx := rfl
@[simp] theorem modPump_imagesGood : (modPump p f s).imagesGood = s.imagesGood := rfl
@[simp] theorem modPump_saveContent : (modPump p f s).saveContent = s.saveContent := rfl
@[simp] theorem modPump_store : (modPump p f s).store = s.store := rfl
@[simp] theorem modPump_now : (modPump p f s).now = s.now := rfl
@[simp] theorem modPump_timeSet : (modPump p f s).timeSet = s.timeSet := rfl
@[simp] theorem modPump_sod : (modPump p f s).sod = s.sod := rfl
@[simp] theorem modPump_day : (modPump p f s).day = s.day := rfl
@[simp] theorem modPump_period : (modPump p f s).period = s.period := rfl
@[simp] theorem modPump_reservoirs : (modPump p f s).reservoirs = s.reservoirs := rfl
@[simp] theorem modPump_pumps : (modPump p f s).pumps = s.pumps.set p (f (s.pump p)) := rfl
@[simp] theorem modPump_stations : (modPump p f s).stations = s.stations := rfl
@[simp] theorem modPump_houses : (modPump p f s).houses = s.houses := rfl
@[simp] theorem modPump_marks : (modPump p f s).marks = s.marks := rfl
@[simp] theorem modPump_arbiter : (modPump p f s).arbiter = s.arbiter := rfl
@[simp] theorem modPump_dispatcher : (modPump p f s).dispatcher = s.dispatcher := rfl
@[simp] theorem modPump_alarms : (modPump p f s).alarms = s.alarms := rfl
@[simp] theorem modPump_field : (modPump p f s).field = s.field := rfl
@[simp] theorem modPump_sup : (modPump p f s).sup = s.sup := rfl
@[simp] theorem modPump_ownAddr : (modPump p f s).ownAddr = s.ownAddr := rfl
@[simp] theorem modPump_pending : (modPump p f s).pending = s.pending := rfl

end

/-! ### modHouse -/

section

variable (h : HouseId) (f : House → House)

@[simp] theorem modHouse_engine : (modHouse h f s).engine = s.engine := rfl
@[simp] theorem modHouse_autoStart : (modHouse h f s).autoStart = s.autoStart := rfl
@[simp] theorem modHouse_settleMark : (modHouse h f s).settleMark = s.settleMark := rfl
@[simp] theorem modHouse_lastRefusal : (modHouse h f s).lastRefusal = s.lastRefusal := rfl
@[simp] theorem modHouse_cursor : (modHouse h f s).cursor = s.cursor := rfl
@[simp] theorem modHouse_responses : (modHouse h f s).responses = s.responses := rfl
@[simp] theorem modHouse_lastSave : (modHouse h f s).lastSave = s.lastSave := rfl
@[simp] theorem modHouse_tables : (modHouse h f s).tables = s.tables := rfl
@[simp] theorem modHouse_levelMap : (modHouse h f s).levelMap = s.levelMap := rfl
@[simp] theorem modHouse_pumpMap : (modHouse h f s).pumpMap = s.pumpMap := rfl
@[simp] theorem modHouse_storeTx : (modHouse h f s).storeTx = s.storeTx := rfl
@[simp] theorem modHouse_imagesGood : (modHouse h f s).imagesGood = s.imagesGood := rfl
@[simp] theorem modHouse_saveContent : (modHouse h f s).saveContent = s.saveContent := rfl
@[simp] theorem modHouse_store : (modHouse h f s).store = s.store := rfl
@[simp] theorem modHouse_now : (modHouse h f s).now = s.now := rfl
@[simp] theorem modHouse_timeSet : (modHouse h f s).timeSet = s.timeSet := rfl
@[simp] theorem modHouse_sod : (modHouse h f s).sod = s.sod := rfl
@[simp] theorem modHouse_day : (modHouse h f s).day = s.day := rfl
@[simp] theorem modHouse_period : (modHouse h f s).period = s.period := rfl
@[simp] theorem modHouse_reservoirs : (modHouse h f s).reservoirs = s.reservoirs := rfl
@[simp] theorem modHouse_pumps : (modHouse h f s).pumps = s.pumps := rfl
@[simp] theorem modHouse_stations : (modHouse h f s).stations = s.stations := rfl
@[simp] theorem modHouse_houses : (modHouse h f s).houses = s.houses.set h (f (s.house h)) := rfl
@[simp] theorem modHouse_marks : (modHouse h f s).marks = s.marks := rfl
@[simp] theorem modHouse_arbiter : (modHouse h f s).arbiter = s.arbiter := rfl
@[simp] theorem modHouse_dispatcher : (modHouse h f s).dispatcher = s.dispatcher := rfl
@[simp] theorem modHouse_alarms : (modHouse h f s).alarms = s.alarms := rfl
@[simp] theorem modHouse_field : (modHouse h f s).field = s.field := rfl
@[simp] theorem modHouse_sup : (modHouse h f s).sup = s.sup := rfl
@[simp] theorem modHouse_ownAddr : (modHouse h f s).ownAddr = s.ownAddr := rfl
@[simp] theorem modHouse_pending : (modHouse h f s).pending = s.pending := rfl

end

/-! ### modStation -/

section

variable (h : HouseId) (f : Station → Station)

@[simp] theorem modStation_engine : (modStation h f s).engine = s.engine := rfl
@[simp] theorem modStation_autoStart : (modStation h f s).autoStart = s.autoStart := rfl
@[simp] theorem modStation_settleMark : (modStation h f s).settleMark = s.settleMark := rfl
@[simp] theorem modStation_lastRefusal : (modStation h f s).lastRefusal = s.lastRefusal := rfl
@[simp] theorem modStation_cursor : (modStation h f s).cursor = s.cursor := rfl
@[simp] theorem modStation_responses : (modStation h f s).responses = s.responses := rfl
@[simp] theorem modStation_lastSave : (modStation h f s).lastSave = s.lastSave := rfl
@[simp] theorem modStation_tables : (modStation h f s).tables = s.tables := rfl
@[simp] theorem modStation_levelMap : (modStation h f s).levelMap = s.levelMap := rfl
@[simp] theorem modStation_pumpMap : (modStation h f s).pumpMap = s.pumpMap := rfl
@[simp] theorem modStation_storeTx : (modStation h f s).storeTx = s.storeTx := rfl
@[simp] theorem modStation_imagesGood : (modStation h f s).imagesGood = s.imagesGood := rfl
@[simp] theorem modStation_saveContent : (modStation h f s).saveContent = s.saveContent := rfl
@[simp] theorem modStation_store : (modStation h f s).store = s.store := rfl
@[simp] theorem modStation_now : (modStation h f s).now = s.now := rfl
@[simp] theorem modStation_timeSet : (modStation h f s).timeSet = s.timeSet := rfl
@[simp] theorem modStation_sod : (modStation h f s).sod = s.sod := rfl
@[simp] theorem modStation_day : (modStation h f s).day = s.day := rfl
@[simp] theorem modStation_period : (modStation h f s).period = s.period := rfl
@[simp] theorem modStation_reservoirs : (modStation h f s).reservoirs = s.reservoirs := rfl
@[simp] theorem modStation_pumps : (modStation h f s).pumps = s.pumps := rfl
@[simp] theorem modStation_stations : (modStation h f s).stations = s.stations.set h (f (s.station h)) := rfl
@[simp] theorem modStation_houses : (modStation h f s).houses = s.houses := rfl
@[simp] theorem modStation_marks : (modStation h f s).marks = s.marks := rfl
@[simp] theorem modStation_arbiter : (modStation h f s).arbiter = s.arbiter := rfl
@[simp] theorem modStation_dispatcher : (modStation h f s).dispatcher = s.dispatcher := rfl
@[simp] theorem modStation_alarms : (modStation h f s).alarms = s.alarms := rfl
@[simp] theorem modStation_field : (modStation h f s).field = s.field := rfl
@[simp] theorem modStation_sup : (modStation h f s).sup = s.sup := rfl
@[simp] theorem modStation_ownAddr : (modStation h f s).ownAddr = s.ownAddr := rfl
@[simp] theorem modStation_pending : (modStation h f s).pending = s.pending := rfl

end

/-! ### modArbiter -/

section

variable (f : Arbiter → Arbiter)

@[simp] theorem modArbiter_engine : (modArbiter f s).engine = s.engine := rfl
@[simp] theorem modArbiter_autoStart : (modArbiter f s).autoStart = s.autoStart := rfl
@[simp] theorem modArbiter_settleMark : (modArbiter f s).settleMark = s.settleMark := rfl
@[simp] theorem modArbiter_lastRefusal : (modArbiter f s).lastRefusal = s.lastRefusal := rfl
@[simp] theorem modArbiter_cursor : (modArbiter f s).cursor = s.cursor := rfl
@[simp] theorem modArbiter_responses : (modArbiter f s).responses = s.responses := rfl
@[simp] theorem modArbiter_lastSave : (modArbiter f s).lastSave = s.lastSave := rfl
@[simp] theorem modArbiter_tables : (modArbiter f s).tables = s.tables := rfl
@[simp] theorem modArbiter_levelMap : (modArbiter f s).levelMap = s.levelMap := rfl
@[simp] theorem modArbiter_pumpMap : (modArbiter f s).pumpMap = s.pumpMap := rfl
@[simp] theorem modArbiter_storeTx : (modArbiter f s).storeTx = s.storeTx := rfl
@[simp] theorem modArbiter_imagesGood : (modArbiter f s).imagesGood = s.imagesGood := rfl
@[simp] theorem modArbiter_saveContent : (modArbiter f s).saveContent = s.saveContent := rfl
@[simp] theorem modArbiter_store : (modArbiter f s).store = s.store := rfl
@[simp] theorem modArbiter_now : (modArbiter f s).now = s.now := rfl
@[simp] theorem modArbiter_timeSet : (modArbiter f s).timeSet = s.timeSet := rfl
@[simp] theorem modArbiter_sod : (modArbiter f s).sod = s.sod := rfl
@[simp] theorem modArbiter_day : (modArbiter f s).day = s.day := rfl
@[simp] theorem modArbiter_period : (modArbiter f s).period = s.period := rfl
@[simp] theorem modArbiter_reservoirs : (modArbiter f s).reservoirs = s.reservoirs := rfl
@[simp] theorem modArbiter_pumps : (modArbiter f s).pumps = s.pumps := rfl
@[simp] theorem modArbiter_stations : (modArbiter f s).stations = s.stations := rfl
@[simp] theorem modArbiter_houses : (modArbiter f s).houses = s.houses := rfl
@[simp] theorem modArbiter_marks : (modArbiter f s).marks = s.marks := rfl
@[simp] theorem modArbiter_arbiter : (modArbiter f s).arbiter = f s.arbiter := rfl
@[simp] theorem modArbiter_dispatcher : (modArbiter f s).dispatcher = s.dispatcher := rfl
@[simp] theorem modArbiter_alarms : (modArbiter f s).alarms = s.alarms := rfl
@[simp] theorem modArbiter_field : (modArbiter f s).field = s.field := rfl
@[simp] theorem modArbiter_sup : (modArbiter f s).sup = s.sup := rfl
@[simp] theorem modArbiter_ownAddr : (modArbiter f s).ownAddr = s.ownAddr := rfl
@[simp] theorem modArbiter_pending : (modArbiter f s).pending = s.pending := rfl

end

/-! ### modDispatcher -/

section

variable (f : Dispatcher → Dispatcher)

@[simp] theorem modDispatcher_engine : (modDispatcher f s).engine = s.engine := rfl
@[simp] theorem modDispatcher_autoStart : (modDispatcher f s).autoStart = s.autoStart := rfl
@[simp] theorem modDispatcher_settleMark : (modDispatcher f s).settleMark = s.settleMark := rfl
@[simp] theorem modDispatcher_lastRefusal : (modDispatcher f s).lastRefusal = s.lastRefusal := rfl
@[simp] theorem modDispatcher_cursor : (modDispatcher f s).cursor = s.cursor := rfl
@[simp] theorem modDispatcher_responses : (modDispatcher f s).responses = s.responses := rfl
@[simp] theorem modDispatcher_lastSave : (modDispatcher f s).lastSave = s.lastSave := rfl
@[simp] theorem modDispatcher_tables : (modDispatcher f s).tables = s.tables := rfl
@[simp] theorem modDispatcher_levelMap : (modDispatcher f s).levelMap = s.levelMap := rfl
@[simp] theorem modDispatcher_pumpMap : (modDispatcher f s).pumpMap = s.pumpMap := rfl
@[simp] theorem modDispatcher_storeTx : (modDispatcher f s).storeTx = s.storeTx := rfl
@[simp] theorem modDispatcher_imagesGood : (modDispatcher f s).imagesGood = s.imagesGood := rfl
@[simp] theorem modDispatcher_saveContent : (modDispatcher f s).saveContent = s.saveContent := rfl
@[simp] theorem modDispatcher_store : (modDispatcher f s).store = s.store := rfl
@[simp] theorem modDispatcher_now : (modDispatcher f s).now = s.now := rfl
@[simp] theorem modDispatcher_timeSet : (modDispatcher f s).timeSet = s.timeSet := rfl
@[simp] theorem modDispatcher_sod : (modDispatcher f s).sod = s.sod := rfl
@[simp] theorem modDispatcher_day : (modDispatcher f s).day = s.day := rfl
@[simp] theorem modDispatcher_period : (modDispatcher f s).period = s.period := rfl
@[simp] theorem modDispatcher_reservoirs : (modDispatcher f s).reservoirs = s.reservoirs := rfl
@[simp] theorem modDispatcher_pumps : (modDispatcher f s).pumps = s.pumps := rfl
@[simp] theorem modDispatcher_stations : (modDispatcher f s).stations = s.stations := rfl
@[simp] theorem modDispatcher_houses : (modDispatcher f s).houses = s.houses := rfl
@[simp] theorem modDispatcher_marks : (modDispatcher f s).marks = s.marks := rfl
@[simp] theorem modDispatcher_arbiter : (modDispatcher f s).arbiter = s.arbiter := rfl
@[simp] theorem modDispatcher_dispatcher : (modDispatcher f s).dispatcher = f s.dispatcher := rfl
@[simp] theorem modDispatcher_alarms : (modDispatcher f s).alarms = s.alarms := rfl
@[simp] theorem modDispatcher_field : (modDispatcher f s).field = s.field := rfl
@[simp] theorem modDispatcher_sup : (modDispatcher f s).sup = s.sup := rfl
@[simp] theorem modDispatcher_ownAddr : (modDispatcher f s).ownAddr = s.ownAddr := rfl
@[simp] theorem modDispatcher_pending : (modDispatcher f s).pending = s.pending := rfl

end

/-! ### modAlarms -/

section

variable (f : Alarms → Alarms)

@[simp] theorem modAlarms_engine : (modAlarms f s).engine = s.engine := rfl
@[simp] theorem modAlarms_autoStart : (modAlarms f s).autoStart = s.autoStart := rfl
@[simp] theorem modAlarms_settleMark : (modAlarms f s).settleMark = s.settleMark := rfl
@[simp] theorem modAlarms_lastRefusal : (modAlarms f s).lastRefusal = s.lastRefusal := rfl
@[simp] theorem modAlarms_cursor : (modAlarms f s).cursor = s.cursor := rfl
@[simp] theorem modAlarms_responses : (modAlarms f s).responses = s.responses := rfl
@[simp] theorem modAlarms_lastSave : (modAlarms f s).lastSave = s.lastSave := rfl
@[simp] theorem modAlarms_tables : (modAlarms f s).tables = s.tables := rfl
@[simp] theorem modAlarms_levelMap : (modAlarms f s).levelMap = s.levelMap := rfl
@[simp] theorem modAlarms_pumpMap : (modAlarms f s).pumpMap = s.pumpMap := rfl
@[simp] theorem modAlarms_storeTx : (modAlarms f s).storeTx = s.storeTx := rfl
@[simp] theorem modAlarms_imagesGood : (modAlarms f s).imagesGood = s.imagesGood := rfl
@[simp] theorem modAlarms_saveContent : (modAlarms f s).saveContent = s.saveContent := rfl
@[simp] theorem modAlarms_store : (modAlarms f s).store = s.store := rfl
@[simp] theorem modAlarms_now : (modAlarms f s).now = s.now := rfl
@[simp] theorem modAlarms_timeSet : (modAlarms f s).timeSet = s.timeSet := rfl
@[simp] theorem modAlarms_sod : (modAlarms f s).sod = s.sod := rfl
@[simp] theorem modAlarms_day : (modAlarms f s).day = s.day := rfl
@[simp] theorem modAlarms_period : (modAlarms f s).period = s.period := rfl
@[simp] theorem modAlarms_reservoirs : (modAlarms f s).reservoirs = s.reservoirs := rfl
@[simp] theorem modAlarms_pumps : (modAlarms f s).pumps = s.pumps := rfl
@[simp] theorem modAlarms_stations : (modAlarms f s).stations = s.stations := rfl
@[simp] theorem modAlarms_houses : (modAlarms f s).houses = s.houses := rfl
@[simp] theorem modAlarms_marks : (modAlarms f s).marks = s.marks := rfl
@[simp] theorem modAlarms_arbiter : (modAlarms f s).arbiter = s.arbiter := rfl
@[simp] theorem modAlarms_dispatcher : (modAlarms f s).dispatcher = s.dispatcher := rfl
@[simp] theorem modAlarms_alarms : (modAlarms f s).alarms = f s.alarms := rfl
@[simp] theorem modAlarms_field : (modAlarms f s).field = s.field := rfl
@[simp] theorem modAlarms_sup : (modAlarms f s).sup = s.sup := rfl
@[simp] theorem modAlarms_ownAddr : (modAlarms f s).ownAddr = s.ownAddr := rfl
@[simp] theorem modAlarms_pending : (modAlarms f s).pending = s.pending := rfl

end

/-! ### modPort -/

section

variable (p : Port) (f : PortState → PortState)

@[simp] theorem modPort_engine : (modPort p f s).engine = s.engine := by cases p <;> rfl
@[simp] theorem modPort_autoStart : (modPort p f s).autoStart = s.autoStart := by cases p <;> rfl
@[simp] theorem modPort_settleMark : (modPort p f s).settleMark = s.settleMark := by cases p <;> rfl
@[simp] theorem modPort_lastRefusal : (modPort p f s).lastRefusal = s.lastRefusal := by cases p <;> rfl
@[simp] theorem modPort_cursor : (modPort p f s).cursor = s.cursor := by cases p <;> rfl
@[simp] theorem modPort_responses : (modPort p f s).responses = s.responses := by cases p <;> rfl
@[simp] theorem modPort_lastSave : (modPort p f s).lastSave = s.lastSave := by cases p <;> rfl
@[simp] theorem modPort_tables : (modPort p f s).tables = s.tables := by cases p <;> rfl
@[simp] theorem modPort_levelMap : (modPort p f s).levelMap = s.levelMap := by cases p <;> rfl
@[simp] theorem modPort_pumpMap : (modPort p f s).pumpMap = s.pumpMap := by cases p <;> rfl
@[simp] theorem modPort_storeTx : (modPort p f s).storeTx = s.storeTx := by cases p <;> rfl
@[simp] theorem modPort_imagesGood : (modPort p f s).imagesGood = s.imagesGood := by cases p <;> rfl
@[simp] theorem modPort_saveContent : (modPort p f s).saveContent = s.saveContent := by cases p <;> rfl
@[simp] theorem modPort_store : (modPort p f s).store = s.store := by cases p <;> rfl
@[simp] theorem modPort_now : (modPort p f s).now = s.now := by cases p <;> rfl
@[simp] theorem modPort_timeSet : (modPort p f s).timeSet = s.timeSet := by cases p <;> rfl
@[simp] theorem modPort_sod : (modPort p f s).sod = s.sod := by cases p <;> rfl
@[simp] theorem modPort_day : (modPort p f s).day = s.day := by cases p <;> rfl
@[simp] theorem modPort_period : (modPort p f s).period = s.period := by cases p <;> rfl
@[simp] theorem modPort_reservoirs : (modPort p f s).reservoirs = s.reservoirs := by cases p <;> rfl
@[simp] theorem modPort_pumps : (modPort p f s).pumps = s.pumps := by cases p <;> rfl
@[simp] theorem modPort_stations : (modPort p f s).stations = s.stations := by cases p <;> rfl
@[simp] theorem modPort_houses : (modPort p f s).houses = s.houses := by cases p <;> rfl
@[simp] theorem modPort_marks : (modPort p f s).marks = s.marks := by cases p <;> rfl
@[simp] theorem modPort_arbiter : (modPort p f s).arbiter = s.arbiter := by cases p <;> rfl
@[simp] theorem modPort_dispatcher : (modPort p f s).dispatcher = s.dispatcher := by cases p <;> rfl
@[simp] theorem modPort_alarms : (modPort p f s).alarms = s.alarms := by cases p <;> rfl
@[simp] theorem modPort_ownAddr : (modPort p f s).ownAddr = s.ownAddr := by cases p <;> rfl
@[simp] theorem modPort_pending : (modPort p f s).pending = s.pending := by cases p <;> rfl
@[simp] theorem modPort_field_field : (modPort .field f s).field = f s.field := rfl
@[simp] theorem modPort_field_sup : (modPort .field f s).sup = s.sup := rfl
@[simp] theorem modPort_supervisory_field : (modPort .supervisory f s).field = s.field := rfl
@[simp] theorem modPort_supervisory_sup : (modPort .supervisory f s).sup = f s.sup := rfl

end

/-! ### A record read after an update of its kind -/

theorem getSet {α : Type} {n : Nat} (v : Vector α n) (i j : Fin n) (a : α) :
    (v.set i a).get j = if j = i then a else v.get j := by
  by_cases h : j = i
  · subst h; simp [Vector.get_eq_getElem]
  · have hv : i.val ≠ j.val := fun e => h (Fin.ext e.symm)
    simp [Vector.get_eq_getElem, h, hv]

@[simp] theorem getSet_same {α : Type} {n : Nat} (v : Vector α n) (i : Fin n) (a : α) : (v.set i a).get i = a := by
  simp [getSet]

theorem res_modRes (r q : ResId) (f : Reservoir → Reservoir) :
    (modRes r f s).res q = if q = r then f (s.res r) else s.res q := getSet _ _ _ _

theorem pump_modPump (p q : PumpId) (f : Pump → Pump) :
    (modPump p f s).pump q = if q = p then f (s.pump p) else s.pump q := getSet _ _ _ _

theorem house_modHouse (h g : HouseId) (f : House → House) :
    (modHouse h f s).house g = if g = h then f (s.house h) else s.house g := getSet _ _ _ _

theorem station_modStation (h g : HouseId) (f : Station → Station) :
    (modStation h f s).station g = if g = h then f (s.station h) else s.station g := getSet _ _ _ _

@[simp] theorem res_modRes_same (r : ResId) (f : Reservoir → Reservoir) : (modRes r f s).res r = f (s.res r) := by
  simp [res_modRes]

@[simp] theorem pump_modPump_same (p : PumpId) (f : Pump → Pump) : (modPump p f s).pump p = f (s.pump p) := by
  simp [pump_modPump]

@[simp] theorem house_modHouse_same (h : HouseId) (f : House → House) : (modHouse h f s).house h = f (s.house h) := by
  simp [house_modHouse]

@[simp] theorem station_modStation_same (h : HouseId) (f : Station → Station) :
    (modStation h f s).station h = f (s.station h) := by simp [station_modStation]

/-! ### A record read after an update of another kind -/

@[simp] theorem pump_modRes (r : ResId) (f : Reservoir → Reservoir) (q : PumpId) :
    (modRes r f s).pump q = s.pump q := rfl
@[simp] theorem house_modRes (r : ResId) (f : Reservoir → Reservoir) (g : HouseId) :
    (modRes r f s).house g = s.house g := rfl
@[simp] theorem station_modRes (r : ResId) (f : Reservoir → Reservoir) (g : HouseId) :
    (modRes r f s).station g = s.station g := rfl
@[simp] theorem res_modPump (p : PumpId) (f : Pump → Pump) (q : ResId) :
    (modPump p f s).res q = s.res q := rfl
@[simp] theorem house_modPump (p : PumpId) (f : Pump → Pump) (g : HouseId) :
    (modPump p f s).house g = s.house g := rfl
@[simp] theorem station_modPump (p : PumpId) (f : Pump → Pump) (g : HouseId) :
    (modPump p f s).station g = s.station g := rfl
@[simp] theorem res_modHouse (h : HouseId) (f : House → House) (q : ResId) :
    (modHouse h f s).res q = s.res q := rfl
@[simp] theorem pump_modHouse (h : HouseId) (f : House → House) (q : PumpId) :
    (modHouse h f s).pump q = s.pump q := rfl
@[simp] theorem station_modHouse (h : HouseId) (f : House → House) (g : HouseId) :
    (modHouse h f s).station g = s.station g := rfl
@[simp] theorem res_modStation (h : HouseId) (f : Station → Station) (q : ResId) :
    (modStation h f s).res q = s.res q := rfl
@[simp] theorem pump_modStation (h : HouseId) (f : Station → Station) (q : PumpId) :
    (modStation h f s).pump q = s.pump q := rfl
@[simp] theorem house_modStation (h : HouseId) (f : Station → Station) (g : HouseId) :
    (modStation h f s).house g = s.house g := rfl
@[simp] theorem res_modArbiter (f : Arbiter → Arbiter) (q : ResId) :
    (modArbiter f s).res q = s.res q := rfl
@[simp] theorem pump_modArbiter (f : Arbiter → Arbiter) (q : PumpId) :
    (modArbiter f s).pump q = s.pump q := rfl
@[simp] theorem house_modArbiter (f : Arbiter → Arbiter) (g : HouseId) :
    (modArbiter f s).house g = s.house g := rfl
@[simp] theorem station_modArbiter (f : Arbiter → Arbiter) (g : HouseId) :
    (modArbiter f s).station g = s.station g := rfl
@[simp] theorem res_modDispatcher (f : Dispatcher → Dispatcher) (q : ResId) :
    (modDispatcher f s).res q = s.res q := rfl
@[simp] theorem pump_modDispatcher (f : Dispatcher → Dispatcher) (q : PumpId) :
    (modDispatcher f s).pump q = s.pump q := rfl
@[simp] theorem house_modDispatcher (f : Dispatcher → Dispatcher) (g : HouseId) :
    (modDispatcher f s).house g = s.house g := rfl
@[simp] theorem station_modDispatcher (f : Dispatcher → Dispatcher) (g : HouseId) :
    (modDispatcher f s).station g = s.station g := rfl
@[simp] theorem res_modAlarms (f : Alarms → Alarms) (q : ResId) :
    (modAlarms f s).res q = s.res q := rfl
@[simp] theorem pump_modAlarms (f : Alarms → Alarms) (q : PumpId) :
    (modAlarms f s).pump q = s.pump q := rfl
@[simp] theorem house_modAlarms (f : Alarms → Alarms) (g : HouseId) :
    (modAlarms f s).house g = s.house g := rfl
@[simp] theorem station_modAlarms (f : Alarms → Alarms) (g : HouseId) :
    (modAlarms f s).station g = s.station g := rfl
@[simp] theorem res_modPort (p : Port) (f : PortState → PortState) (q : ResId) :
    (modPort p f s).res q = s.res q := by cases p <;> rfl
@[simp] theorem pump_modPort (p : Port) (f : PortState → PortState) (q : PumpId) :
    (modPort p f s).pump q = s.pump q := by cases p <;> rfl
@[simp] theorem house_modPort (p : Port) (f : PortState → PortState) (g : HouseId) :
    (modPort p f s).house g = s.house g := by cases p <;> rfl
@[simp] theorem station_modPort (p : Port) (f : PortState → PortState) (g : HouseId) :
    (modPort p f s).station g = s.station g := by cases p <;> rfl

/-! ### Table entries, period and time are read from tables, period and now alone -/

@[simp] theorem resE_modRes (r : ResId) (f : Reservoir → Reservoir) (q : ResId) :
    (modRes r f s).resE q = s.resE q := rfl
@[simp] theorem houseE_modRes (r : ResId) (f : Reservoir → Reservoir) (g : HouseId) :
    (modRes r f s).houseE g = s.houseE g := rfl
@[simp] theorem pumpE_modRes (r : ResId) (f : Reservoir → Reservoir) (q : PumpId) :
    (modRes r f s).pumpE q = s.pumpE q := rfl
@[simp] theorem planE_modRes (r : ResId) (f : Reservoir → Reservoir) (g : HouseId) :
    (modRes r f s).planE g = s.planE g := rfl
@[simp] theorem drawE_modRes (r : ResId) (f : Reservoir → Reservoir) (q : ResId) :
    (modRes r f s).drawE q = s.drawE q := rfl
@[simp] theorem site_modRes (r : ResId) (f : Reservoir → Reservoir) : (modRes r f s).site = s.site := rfl
@[simp] theorem since_modRes (r : ResId) (f : Reservoir → Reservoir) (m : Second) : (modRes r f s).since m = s.since m := rfl
@[simp] theorem reached_modRes (r : ResId) (f : Reservoir → Reservoir) (m : Second) (l : Nat) :
    (modRes r f s).reached m l = s.reached m l := rfl
@[simp] theorem budget_modRes (r : ResId) (f : Reservoir → Reservoir) : (modRes r f s).budget = s.budget := rfl
@[simp] theorem pumpsOf_modRes (r : ResId) (f : Reservoir → Reservoir) (g : HouseId) :
    (modRes r f s).pumpsOf g = s.pumpsOf g := rfl
@[simp] theorem addressValid_modRes (r : ResId) (f : Reservoir → Reservoir) : (modRes r f s).addressValid = s.addressValid := rfl
@[simp] theorem resE_modPump (p : PumpId) (f : Pump → Pump) (q : ResId) :
    (modPump p f s).resE q = s.resE q := rfl
@[simp] theorem houseE_modPump (p : PumpId) (f : Pump → Pump) (g : HouseId) :
    (modPump p f s).houseE g = s.houseE g := rfl
@[simp] theorem pumpE_modPump (p : PumpId) (f : Pump → Pump) (q : PumpId) :
    (modPump p f s).pumpE q = s.pumpE q := rfl
@[simp] theorem planE_modPump (p : PumpId) (f : Pump → Pump) (g : HouseId) :
    (modPump p f s).planE g = s.planE g := rfl
@[simp] theorem drawE_modPump (p : PumpId) (f : Pump → Pump) (q : ResId) :
    (modPump p f s).drawE q = s.drawE q := rfl
@[simp] theorem site_modPump (p : PumpId) (f : Pump → Pump) : (modPump p f s).site = s.site := rfl
@[simp] theorem since_modPump (p : PumpId) (f : Pump → Pump) (m : Second) : (modPump p f s).since m = s.since m := rfl
@[simp] theorem reached_modPump (p : PumpId) (f : Pump → Pump) (m : Second) (l : Nat) :
    (modPump p f s).reached m l = s.reached m l := rfl
@[simp] theorem budget_modPump (p : PumpId) (f : Pump → Pump) : (modPump p f s).budget = s.budget := rfl
@[simp] theorem pumpsOf_modPump (p : PumpId) (f : Pump → Pump) (g : HouseId) :
    (modPump p f s).pumpsOf g = s.pumpsOf g := rfl
@[simp] theorem addressValid_modPump (p : PumpId) (f : Pump → Pump) : (modPump p f s).addressValid = s.addressValid := rfl
@[simp] theorem resE_modHouse (h : HouseId) (f : House → House) (q : ResId) :
    (modHouse h f s).resE q = s.resE q := rfl
@[simp] theorem houseE_modHouse (h : HouseId) (f : House → House) (g : HouseId) :
    (modHouse h f s).houseE g = s.houseE g := rfl
@[simp] theorem pumpE_modHouse (h : HouseId) (f : House → House) (q : PumpId) :
    (modHouse h f s).pumpE q = s.pumpE q := rfl
@[simp] theorem planE_modHouse (h : HouseId) (f : House → House) (g : HouseId) :
    (modHouse h f s).planE g = s.planE g := rfl
@[simp] theorem drawE_modHouse (h : HouseId) (f : House → House) (q : ResId) :
    (modHouse h f s).drawE q = s.drawE q := rfl
@[simp] theorem site_modHouse (h : HouseId) (f : House → House) : (modHouse h f s).site = s.site := rfl
@[simp] theorem since_modHouse (h : HouseId) (f : House → House) (m : Second) : (modHouse h f s).since m = s.since m := rfl
@[simp] theorem reached_modHouse (h : HouseId) (f : House → House) (m : Second) (l : Nat) :
    (modHouse h f s).reached m l = s.reached m l := rfl
@[simp] theorem budget_modHouse (h : HouseId) (f : House → House) : (modHouse h f s).budget = s.budget := rfl
@[simp] theorem pumpsOf_modHouse (h : HouseId) (f : House → House) (g : HouseId) :
    (modHouse h f s).pumpsOf g = s.pumpsOf g := rfl
@[simp] theorem addressValid_modHouse (h : HouseId) (f : House → House) : (modHouse h f s).addressValid = s.addressValid := rfl
@[simp] theorem resE_modStation (h : HouseId) (f : Station → Station) (q : ResId) :
    (modStation h f s).resE q = s.resE q := rfl
@[simp] theorem houseE_modStation (h : HouseId) (f : Station → Station) (g : HouseId) :
    (modStation h f s).houseE g = s.houseE g := rfl
@[simp] theorem pumpE_modStation (h : HouseId) (f : Station → Station) (q : PumpId) :
    (modStation h f s).pumpE q = s.pumpE q := rfl
@[simp] theorem planE_modStation (h : HouseId) (f : Station → Station) (g : HouseId) :
    (modStation h f s).planE g = s.planE g := rfl
@[simp] theorem drawE_modStation (h : HouseId) (f : Station → Station) (q : ResId) :
    (modStation h f s).drawE q = s.drawE q := rfl
@[simp] theorem site_modStation (h : HouseId) (f : Station → Station) : (modStation h f s).site = s.site := rfl
@[simp] theorem since_modStation (h : HouseId) (f : Station → Station) (m : Second) : (modStation h f s).since m = s.since m := rfl
@[simp] theorem reached_modStation (h : HouseId) (f : Station → Station) (m : Second) (l : Nat) :
    (modStation h f s).reached m l = s.reached m l := rfl
@[simp] theorem budget_modStation (h : HouseId) (f : Station → Station) : (modStation h f s).budget = s.budget := rfl
@[simp] theorem pumpsOf_modStation (h : HouseId) (f : Station → Station) (g : HouseId) :
    (modStation h f s).pumpsOf g = s.pumpsOf g := rfl
@[simp] theorem addressValid_modStation (h : HouseId) (f : Station → Station) : (modStation h f s).addressValid = s.addressValid := rfl
@[simp] theorem resE_modArbiter (f : Arbiter → Arbiter) (q : ResId) :
    (modArbiter f s).resE q = s.resE q := rfl
@[simp] theorem houseE_modArbiter (f : Arbiter → Arbiter) (g : HouseId) :
    (modArbiter f s).houseE g = s.houseE g := rfl
@[simp] theorem pumpE_modArbiter (f : Arbiter → Arbiter) (q : PumpId) :
    (modArbiter f s).pumpE q = s.pumpE q := rfl
@[simp] theorem planE_modArbiter (f : Arbiter → Arbiter) (g : HouseId) :
    (modArbiter f s).planE g = s.planE g := rfl
@[simp] theorem drawE_modArbiter (f : Arbiter → Arbiter) (q : ResId) :
    (modArbiter f s).drawE q = s.drawE q := rfl
@[simp] theorem site_modArbiter (f : Arbiter → Arbiter) : (modArbiter f s).site = s.site := rfl
@[simp] theorem since_modArbiter (f : Arbiter → Arbiter) (m : Second) : (modArbiter f s).since m = s.since m := rfl
@[simp] theorem reached_modArbiter (f : Arbiter → Arbiter) (m : Second) (l : Nat) :
    (modArbiter f s).reached m l = s.reached m l := rfl
@[simp] theorem budget_modArbiter (f : Arbiter → Arbiter) : (modArbiter f s).budget = s.budget := rfl
@[simp] theorem pumpsOf_modArbiter (f : Arbiter → Arbiter) (g : HouseId) :
    (modArbiter f s).pumpsOf g = s.pumpsOf g := rfl
@[simp] theorem addressValid_modArbiter (f : Arbiter → Arbiter) : (modArbiter f s).addressValid = s.addressValid := rfl
@[simp] theorem resE_modDispatcher (f : Dispatcher → Dispatcher) (q : ResId) :
    (modDispatcher f s).resE q = s.resE q := rfl
@[simp] theorem houseE_modDispatcher (f : Dispatcher → Dispatcher) (g : HouseId) :
    (modDispatcher f s).houseE g = s.houseE g := rfl
@[simp] theorem pumpE_modDispatcher (f : Dispatcher → Dispatcher) (q : PumpId) :
    (modDispatcher f s).pumpE q = s.pumpE q := rfl
@[simp] theorem planE_modDispatcher (f : Dispatcher → Dispatcher) (g : HouseId) :
    (modDispatcher f s).planE g = s.planE g := rfl
@[simp] theorem drawE_modDispatcher (f : Dispatcher → Dispatcher) (q : ResId) :
    (modDispatcher f s).drawE q = s.drawE q := rfl
@[simp] theorem site_modDispatcher (f : Dispatcher → Dispatcher) : (modDispatcher f s).site = s.site := rfl
@[simp] theorem since_modDispatcher (f : Dispatcher → Dispatcher) (m : Second) : (modDispatcher f s).since m = s.since m := rfl
@[simp] theorem reached_modDispatcher (f : Dispatcher → Dispatcher) (m : Second) (l : Nat) :
    (modDispatcher f s).reached m l = s.reached m l := rfl
@[simp] theorem budget_modDispatcher (f : Dispatcher → Dispatcher) : (modDispatcher f s).budget = s.budget := rfl
@[simp] theorem pumpsOf_modDispatcher (f : Dispatcher → Dispatcher) (g : HouseId) :
    (modDispatcher f s).pumpsOf g = s.pumpsOf g := rfl
@[simp] theorem addressValid_modDispatcher (f : Dispatcher → Dispatcher) : (modDispatcher f s).addressValid = s.addressValid := rfl
@[simp] theorem resE_modAlarms (f : Alarms → Alarms) (q : ResId) :
    (modAlarms f s).resE q = s.resE q := rfl
@[simp] theorem houseE_modAlarms (f : Alarms → Alarms) (g : HouseId) :
    (modAlarms f s).houseE g = s.houseE g := rfl
@[simp] theorem pumpE_modAlarms (f : Alarms → Alarms) (q : PumpId) :
    (modAlarms f s).pumpE q = s.pumpE q := rfl
@[simp] theorem planE_modAlarms (f : Alarms → Alarms) (g : HouseId) :
    (modAlarms f s).planE g = s.planE g := rfl
@[simp] theorem drawE_modAlarms (f : Alarms → Alarms) (q : ResId) :
    (modAlarms f s).drawE q = s.drawE q := rfl
@[simp] theorem site_modAlarms (f : Alarms → Alarms) : (modAlarms f s).site = s.site := rfl
@[simp] theorem since_modAlarms (f : Alarms → Alarms) (m : Second) : (modAlarms f s).since m = s.since m := rfl
@[simp] theorem reached_modAlarms (f : Alarms → Alarms) (m : Second) (l : Nat) :
    (modAlarms f s).reached m l = s.reached m l := rfl
@[simp] theorem budget_modAlarms (f : Alarms → Alarms) : (modAlarms f s).budget = s.budget := rfl
@[simp] theorem pumpsOf_modAlarms (f : Alarms → Alarms) (g : HouseId) :
    (modAlarms f s).pumpsOf g = s.pumpsOf g := rfl
@[simp] theorem addressValid_modAlarms (f : Alarms → Alarms) : (modAlarms f s).addressValid = s.addressValid := rfl
@[simp] theorem resE_modPort (p : Port) (f : PortState → PortState) (q : ResId) :
    (modPort p f s).resE q = s.resE q := by cases p <;> rfl
@[simp] theorem houseE_modPort (p : Port) (f : PortState → PortState) (g : HouseId) :
    (modPort p f s).houseE g = s.houseE g := by cases p <;> rfl
@[simp] theorem pumpE_modPort (p : Port) (f : PortState → PortState) (q : PumpId) :
    (modPort p f s).pumpE q = s.pumpE q := by cases p <;> rfl
@[simp] theorem planE_modPort (p : Port) (f : PortState → PortState) (g : HouseId) :
    (modPort p f s).planE g = s.planE g := by cases p <;> rfl
@[simp] theorem drawE_modPort (p : Port) (f : PortState → PortState) (q : ResId) :
    (modPort p f s).drawE q = s.drawE q := by cases p <;> rfl

end Sys2Proof.Machine
end

