-- ==== Sys2Proof/Laws/Frame.lean ====
section
/-! SUPPORT. What the shared operations leave alone, said once: a state apart from its alarms and supervisory output
(`apartAlarms`), and apart from its orders too (`apartOrders`). An operation that keeps one of them keeps every field that
stands in it. -/

namespace Sys2Proof.Machine

/-- What keeps a state apart from its alarms keeps it apart from its orders. -/
theorem apartOrders_of_apartAlarms {s t : State} (h : t.apartAlarms = s.apartAlarms) :
    t.apartOrders = s.apartOrders :=
  congrArg
    (fun u : State =>
      { u with
        marks := []
        arbiter := .fresh
        dispatcher := .fresh
        field := u.field.apartOut
        houses := u.houses.map House.apartStart
        pumps := u.pumps.map Pump.apartOrder })
    h

/-! ### Fields kept -/

section

variable {s t : State}

theorem engine_of_apartOrders (h : t.apartOrders = s.apartOrders) : t.engine = s.engine := by
  have e := congrArg State.engine h; exact e
theorem autoStart_of_apartOrders (h : t.apartOrders = s.apartOrders) : t.autoStart = s.autoStart := by
  have e := congrArg State.autoStart h; exact e
theorem settleMark_of_apartOrders (h : t.apartOrders = s.apartOrders) : t.settleMark = s.settleMark := by
  have e := congrArg State.settleMark h; exact e
theorem lastRefusal_of_apartOrders (h : t.apartOrders = s.apartOrders) : t.lastRefusal = s.lastRefusal := by
  have e := congrArg State.lastRefusal h; exact e
theorem cursor_of_apartOrders (h : t.apartOrders = s.apartOrders) : t.cursor = s.cursor := by
  have e := congrArg State.cursor h; exact e
theorem lastSave_of_apartOrders (h : t.apartOrders = s.apartOrders) : t.lastSave = s.lastSave := by
  have e := congrArg State.lastSave h; exact e
theorem tables_of_apartOrders (h : t.apartOrders = s.apartOrders) : t.tables = s.tables := by
  have e := congrArg State.tables h; exact e
theorem levelMap_of_apartOrders (h : t.apartOrders = s.apartOrders) : t.levelMap = s.levelMap := by
  have e := congrArg State.levelMap h; exact e
theorem pumpMap_of_apartOrders (h : t.apartOrders = s.apartOrders) : t.pumpMap = s.pumpMap := by
  have e := congrArg State.pumpMap h; exact e
theorem storeTx_of_apartOrders (h : t.apartOrders = s.apartOrders) : t.storeTx = s.storeTx := by
  have e := congrArg State.storeTx h; exact e
theorem imagesGood_of_apartOrders (h : t.apartOrders = s.apartOrders) : t.imagesGood = s.imagesGood := by
  have e := congrArg State.imagesGood h; exact e
theorem saveContent_of_apartOrders (h : t.apartOrders = s.apartOrders) : t.saveContent = s.saveContent := by
  have e := congrArg State.saveContent h; exact e
theorem store_of_apartOrders (h : t.apartOrders = s.apartOrders) : t.store = s.store := by
  have e := congrArg State.store h; exact e
theorem now_of_apartOrders (h : t.apartOrders = s.apartOrders) : t.now = s.now := by
  have e := congrArg State.now h; exact e
theorem timeSet_of_apartOrders (h : t.apartOrders = s.apartOrders) : t.timeSet = s.timeSet := by
  have e := congrArg State.timeSet h; exact e
theorem sod_of_apartOrders (h : t.apartOrders = s.apartOrders) : t.sod = s.sod := by
  have e := congrArg State.sod h; exact e
theorem day_of_apartOrders (h : t.apartOrders = s.apartOrders) : t.day = s.day := by
  have e := congrArg State.day h; exact e
theorem period_of_apartOrders (h : t.apartOrders = s.apartOrders) : t.period = s.period := by
  have e := congrArg State.period h; exact e
theorem reservoirs_of_apartOrders (h : t.apartOrders = s.apartOrders) : t.reservoirs = s.reservoirs := by
  have e := congrArg State.reservoirs h; exact e
theorem stations_of_apartOrders (h : t.apartOrders = s.apartOrders) : t.stations = s.stations := by
  have e := congrArg State.stations h; exact e
theorem ownAddr_of_apartOrders (h : t.apartOrders = s.apartOrders) : t.ownAddr = s.ownAddr := by
  have e := congrArg State.ownAddr h; exact e
theorem pending_of_apartOrders (h : t.apartOrders = s.apartOrders) : t.pending = s.pending := by
  have e := congrArg State.pending h; exact e
theorem marks_of_apartAlarms (h : t.apartAlarms = s.apartAlarms) : t.marks = s.marks := by
  have e := congrArg State.marks h; exact e
theorem arbiter_of_apartAlarms (h : t.apartAlarms = s.apartAlarms) : t.arbiter = s.arbiter := by
  have e := congrArg State.arbiter h; exact e
theorem dispatcher_of_apartAlarms (h : t.apartAlarms = s.apartAlarms) : t.dispatcher = s.dispatcher := by
  have e := congrArg State.dispatcher h; exact e
theorem field_of_apartAlarms (h : t.apartAlarms = s.apartAlarms) : t.field = s.field := by
  have e := congrArg State.field h; exact e
theorem houses_of_apartAlarms (h : t.apartAlarms = s.apartAlarms) : t.houses = s.houses := by
  have e := congrArg State.houses h; exact e
theorem pumps_of_apartAlarms (h : t.apartAlarms = s.apartAlarms) : t.pumps = s.pumps := by
  have e := congrArg State.pumps h; exact e
theorem field_rx_of_apartOrders (h : t.apartOrders = s.apartOrders) : t.field.rx = s.field.rx := by
  have e := congrArg (fun u : State => u.field.rx) h; exact e
theorem field_buf_of_apartOrders (h : t.apartOrders = s.apartOrders) : t.field.buf = s.field.buf := by
  have e := congrArg (fun u : State => u.field.buf) h; exact e
theorem field_counters_of_apartOrders (h : t.apartOrders = s.apartOrders) : t.field.counters = s.field.counters := by
  have e := congrArg (fun u : State => u.field.counters) h; exact e
theorem field_rate_of_apartOrders (h : t.apartOrders = s.apartOrders) : t.field.rate = s.field.rate := by
  have e := congrArg (fun u : State => u.field.rate) h; exact e
theorem sup_rx_of_apartOrders (h : t.apartOrders = s.apartOrders) : t.sup.rx = s.sup.rx := by
  have e := congrArg (fun u : State => u.sup.rx) h; exact e
theorem sup_buf_of_apartOrders (h : t.apartOrders = s.apartOrders) : t.sup.buf = s.sup.buf := by
  have e := congrArg (fun u : State => u.sup.buf) h; exact e
theorem sup_counters_of_apartOrders (h : t.apartOrders = s.apartOrders) : t.sup.counters = s.sup.counters := by
  have e := congrArg (fun u : State => u.sup.counters) h; exact e
theorem sup_rate_of_apartOrders (h : t.apartOrders = s.apartOrders) : t.sup.rate = s.sup.rate := by
  have e := congrArg (fun u : State => u.sup.rate) h; exact e

theorem getMap {α β : Type} {n : Nat} (v : Vector α n) (f : α → β) (i : Fin n) : (v.map f).get i = f (v.get i) := by
  simp [Vector.get_eq_getElem]

theorem house_of_apartOrders (h : t.apartOrders = s.apartOrders) (g : HouseId) :
    (t.house g).apartStart = (s.house g).apartStart := by
  have := congrArg (fun u : State => u.houses.get g) h
  simp only [State.apartOrders, getMap] at this
  exact this

theorem pump_of_apartOrders (h : t.apartOrders = s.apartOrders) (p : PumpId) :
    (t.pump p).apartOrder = (s.pump p).apartOrder := by
  have := congrArg (fun u : State => u.pumps.get p) h
  simp only [State.apartOrders, getMap] at this
  exact this

theorem house_mode_of_apartOrders (h : t.apartOrders = s.apartOrders) (g : HouseId) :
    (t.house g).mode = (s.house g).mode := by
  have e := congrArg House.mode (house_of_apartOrders h g); exact e
theorem house_stages_of_apartOrders (h : t.apartOrders = s.apartOrders) (g : HouseId) :
    (t.house g).stages = (s.house g).stages := by
  have e := congrArg House.stages (house_of_apartOrders h g); exact e
theorem house_target_of_apartOrders (h : t.apartOrders = s.apartOrders) (g : HouseId) :
    (t.house g).target = (s.house g).target := by
  have e := congrArg House.target (house_of_apartOrders h g); exact e
theorem house_commanded_of_apartOrders (h : t.apartOrders = s.apartOrders) (g : HouseId) :
    (t.house g).commanded = (s.house g).commanded := by
  have e := congrArg House.commanded (house_of_apartOrders h g); exact e
theorem house_usable_of_apartOrders (h : t.apartOrders = s.apartOrders) (g : HouseId) :
    (t.house g).usable = (s.house g).usable := by
  have e := congrArg House.usable (house_of_apartOrders h g); exact e
theorem house_need_of_apartOrders (h : t.apartOrders = s.apartOrders) (g : HouseId) :
    (t.house g).need = (s.house g).need := by
  have e := congrArg House.need (house_of_apartOrders h g); exact e
theorem house_protection_of_apartOrders (h : t.apartOrders = s.apartOrders) (g : HouseId) :
    (t.house g).protection = (s.house g).protection := by
  have e := congrArg House.protection (house_of_apartOrders h g); exact e
theorem house_dryLatch_of_apartOrders (h : t.apartOrders = s.apartOrders) (g : HouseId) :
    (t.house g).dryLatch = (s.house g).dryLatch := by
  have e := congrArg House.dryLatch (house_of_apartOrders h g); exact e
theorem house_phase_of_apartOrders (h : t.apartOrders = s.apartOrders) (g : HouseId) :
    (t.house g).phase = (s.house g).phase := by
  have e := congrArg House.phase (house_of_apartOrders h g); exact e
theorem house_phaseMark_of_apartOrders (h : t.apartOrders = s.apartOrders) (g : HouseId) :
    (t.house g).phaseMark = (s.house g).phaseMark := by
  have e := congrArg House.phaseMark (house_of_apartOrders h g); exact e
theorem house_phaseLen_of_apartOrders (h : t.apartOrders = s.apartOrders) (g : HouseId) :
    (t.house g).phaseLen = (s.house g).phaseLen := by
  have e := congrArg House.phaseLen (house_of_apartOrders h g); exact e
theorem house_change_of_apartOrders (h : t.apartOrders = s.apartOrders) (g : HouseId) :
    (t.house g).change = (s.house g).change := by
  have e := congrArg House.change (house_of_apartOrders h g); exact e
theorem house_lastStartTx_of_apartOrders (h : t.apartOrders = s.apartOrders) (g : HouseId) :
    (t.house g).lastStartTx = (s.house g).lastStartTx := by
  have e := congrArg House.lastStartTx (house_of_apartOrders h g); exact e
theorem house_wait_of_apartOrders (h : t.apartOrders = s.apartOrders) (g : HouseId) :
    (t.house g).wait = (s.house g).wait := by
  have e := congrArg House.wait (house_of_apartOrders h g); exact e
theorem house_rotMark_of_apartOrders (h : t.apartOrders = s.apartOrders) (g : HouseId) :
    (t.house g).rotMark = (s.house g).rotMark := by
  have e := congrArg House.rotMark (house_of_apartOrders h g); exact e
theorem house_rotAt_of_apartOrders (h : t.apartOrders = s.apartOrders) (g : HouseId) :
    (t.house g).rotAt = (s.house g).rotAt := by
  have e := congrArg House.rotAt (house_of_apartOrders h g); exact e
theorem house_staggerAt_of_apartOrders (h : t.apartOrders = s.apartOrders) (g : HouseId) :
    (t.house g).staggerAt = (s.house g).staggerAt := by
  have e := congrArg House.staggerAt (house_of_apartOrders h g); exact e
theorem house_overflow_of_apartOrders (h : t.apartOrders = s.apartOrders) (g : HouseId) :
    (t.house g).overflow = (s.house g).overflow := by
  have e := congrArg House.overflow (house_of_apartOrders h g); exact e
theorem house_short_of_apartOrders (h : t.apartOrders = s.apartOrders) (g : HouseId) :
    (t.house g).short = (s.house g).short := by
  have e := congrArg House.short (house_of_apartOrders h g); exact e
theorem pump_held_of_apartOrders (h : t.apartOrders = s.apartOrders) (p : PumpId) :
    (t.pump p).held = (s.pump p).held := by
  have e := congrArg Pump.held (pump_of_apartOrders h p); exact e
theorem pump_panel_of_apartOrders (h : t.apartOrders = s.apartOrders) (p : PumpId) :
    (t.pump p).panel = (s.pump p).panel := by
  have e := congrArg Pump.panel (pump_of_apartOrders h p); exact e
theorem pump_fault_of_apartOrders (h : t.apartOrders = s.apartOrders) (p : PumpId) :
    (t.pump p).fault = (s.pump p).fault := by
  have e := congrArg Pump.fault (pump_of_apartOrders h p); exact e
theorem pump_service_of_apartOrders (h : t.apartOrders = s.apartOrders) (p : PumpId) :
    (t.pump p).service = (s.pump p).service := by
  have e := congrArg Pump.service (pump_of_apartOrders h p); exact e
theorem pump_runStart_of_apartOrders (h : t.apartOrders = s.apartOrders) (p : PumpId) :
    (t.pump p).runStart = (s.pump p).runStart := by
  have e := congrArg Pump.runStart (pump_of_apartOrders h p); exact e
theorem pump_minRunOpen_of_apartOrders (h : t.apartOrders = s.apartOrders) (p : PumpId) :
    (t.pump p).minRunOpen = (s.pump p).minRunOpen := by
  have e := congrArg Pump.minRunOpen (pump_of_apartOrders h p); exact e
theorem pump_lastRun_of_apartOrders (h : t.apartOrders = s.apartOrders) (p : PumpId) :
    (t.pump p).lastRun = (s.pump p).lastRun := by
  have e := congrArg Pump.lastRun (pump_of_apartOrders h p); exact e
theorem pump_history_of_apartOrders (h : t.apartOrders = s.apartOrders) (p : PumpId) :
    (t.pump p).history = (s.pump p).history := by
  have e := congrArg Pump.history (pump_of_apartOrders h p); exact e
theorem house_of_apartAlarms (h : t.apartAlarms = s.apartAlarms) (i : HouseId) : t.house i = s.house i := by
  have e := congrArg (fun u : State => u.house i) h; exact e
theorem pump_of_apartAlarms (h : t.apartAlarms = s.apartAlarms) (i : PumpId) : t.pump i = s.pump i := by
  have e := congrArg (fun u : State => u.pump i) h; exact e

end

/-! ### Operations over the alarm list and the supervisory output keep the rest -/

section

variable (s : State)

@[simp] theorem apartAlarms_modAlarms (f : Alarms → Alarms) : (modAlarms f s).apartAlarms = s.apartAlarms := rfl

@[simp] theorem apartAlarms_supTake : (supTake s).apartAlarms = s.apartAlarms := by
  unfold supTake
  repeat' split
  all_goals rfl

@[simp] theorem apartAlarms_pushNotice (b : NoticeBody) : (pushNotice b s).apartAlarms = s.apartAlarms := by
  unfold pushNotice
  split <;> simp

@[simp] theorem apartAlarms_respond (c : Byte) (r : Result) (d : RespData) :
    (respond c r d s).apartAlarms = s.apartAlarms := by
  unfold respond
  split
  · rfl
  · rw [apartAlarms_supTake]; rfl

@[simp] theorem apartAlarms_raise (k : AlarmKind) (o : Nat) (v : Option Nat) (d : Side) :
    (raise k o v d s).apartAlarms = s.apartAlarms := by
  unfold raise
  repeat' split
  all_goals simp [joinAlarm, noticeOf, makeRoom, putAlarm]

@[simp] theorem apartAlarms_clear (k : AlarmKind) (o : Nat) : (clear k o s).apartAlarms = s.apartAlarms := by
  unfold clear
  repeat' split
  all_goals simp [noticeOf, dropAlarm, putAlarm]

@[simp] theorem apartAlarms_acknowledge (k : AlarmKind) (o : Nat) :
    (acknowledge k o s).apartAlarms = s.apartAlarms := by
  unfold acknowledge onlyIf
  repeat' split
  all_goals simp [dropAlarm, putAlarm]

@[simp] theorem apartAlarms_acknowledgeAll : (acknowledgeAll s).apartAlarms = s.apartAlarms := by
  unfold acknowledgeAll
  generalize s.alarms.entries = l
  induction l generalizing s with
  | nil => rfl
  | cons e rest ih => rw [List.foldl_cons, ih, apartAlarms_acknowledge]

@[simp] theorem apartAlarms_raisePump (k : AlarmKind) (p : PumpId) : (raisePump k p s).apartAlarms = s.apartAlarms := by
  simp [raisePump]

theorem apartAlarms_onlyIf (b : Bool) (f : State → State) (h : ∀ t, (f t).apartAlarms = t.apartAlarms) :
    (onlyIf b f s).apartAlarms = s.apartAlarms := by
  unfold onlyIf; split
  · exact h s
  · rfl

end

/-! ### Operations over orders keep the rest -/

section

variable (s : State)

@[simp] theorem apartOrders_modAlarms (f : Alarms → Alarms) : (modAlarms f s).apartOrders = s.apartOrders := rfl

@[simp] theorem apartOrders_modArbiter (f : Arbiter → Arbiter) : (modArbiter f s).apartOrders = s.apartOrders := rfl

@[simp] theorem apartOrders_modDispatcher (f : Dispatcher → Dispatcher) :
    (modDispatcher f s).apartOrders = s.apartOrders := rfl

@[simp] theorem apartOrders_supTake : (supTake s).apartOrders = s.apartOrders := apartOrders_of_apartAlarms (by simp)

@[simp] theorem apartOrders_pushNotice (b : NoticeBody) : (pushNotice b s).apartOrders = s.apartOrders :=
  apartOrders_of_apartAlarms (by simp)

@[simp] theorem apartOrders_respond (c : Byte) (r : Result) (d : RespData) :
    (respond c r d s).apartOrders = s.apartOrders := apartOrders_of_apartAlarms (by simp)

@[simp] theorem apartOrders_raise (k : AlarmKind) (o : Nat) (v : Option Nat) (d : Side) :
    (raise k o v d s).apartOrders = s.apartOrders := apartOrders_of_apartAlarms (by simp)

@[simp] theorem apartOrders_clear (k : AlarmKind) (o : Nat) : (clear k o s).apartOrders = s.apartOrders :=
  apartOrders_of_apartAlarms (by simp)

@[simp] theorem apartOrders_acknowledge (k : AlarmKind) (o : Nat) : (acknowledge k o s).apartOrders = s.apartOrders :=
  apartOrders_of_apartAlarms (by simp)

@[simp] theorem apartOrders_acknowledgeAll : (acknowledgeAll s).apartOrders = s.apartOrders :=
  apartOrders_of_apartAlarms (by simp)

@[simp] theorem apartOrders_raisePump (k : AlarmKind) (p : PumpId) : (raisePump k p s).apartOrders = s.apartOrders :=
  apartOrders_of_apartAlarms (by simp)

theorem map_set_same {α β : Type} {n : Nat} (v : Vector α n) (g : α → β) (i : Fin n) (a : α)
    (h : g a = g (v.get i)) : (v.set i a).map g = v.map g := by
  apply Vector.ext
  intro j hj
  by_cases e : i.val = j
  · subst e; simpa [Vector.get_eq_getElem] using h
  · simp [e]

/-- An update of a pump's orders. -/
theorem apartOrders_modPump (p : PumpId) (f : Pump → Pump) (h : (f (s.pump p)).apartOrder = (s.pump p).apartOrder) :
    (modPump p f s).apartOrders = s.apartOrders := by
  have e := map_set_same s.pumps Pump.apartOrder p (f (s.pump p)) h
  unfold State.apartOrders State.apartAlarms
  simp only [modPump_pumps, e]
  rfl

/-- An update of a house's start in flight. -/
theorem apartOrders_modHouse (g : HouseId) (f : House → House)
    (h : (f (s.house g)).apartStart = (s.house g).apartStart) : (modHouse g f s).apartOrders = s.apartOrders := by
  have e := map_set_same s.houses House.apartStart g (f (s.house g)) h
  unfold State.apartOrders State.apartAlarms
  simp only [modHouse_houses, e]
  rfl

theorem apartOrders_onlyIf (b : Bool) (f : State → State) (h : ∀ t, (f t).apartOrders = t.apartOrders) :
    (onlyIf b f s).apartOrders = s.apartOrders := by
  unfold onlyIf; split
  · exact h s
  · rfl

theorem apartOrders_atHouseOf (p : PumpId) (f : HouseId → State → State)
    (h : ∀ g t, (f g t).apartOrders = t.apartOrders) : (atHouseOf p f s).apartOrders = s.apartOrders := by
  unfold atHouseOf; split
  · rfl
  · exact h _ s

theorem apartOrders_foldl {α : Type} (f : State → α → State) (h : ∀ t a, (f t a).apartOrders = t.apartOrders)
    (l : List α) : (l.foldl f s).apartOrders = s.apartOrders := by
  induction l generalizing s with
  | nil => rfl
  | cons a rest ih => rw [List.foldl_cons, ih, h]

@[simp] theorem apartOrders_mark (h : HouseId) : (mark h s).apartOrders = s.apartOrders := rfl

@[simp] theorem apartOrders_markPump (p : PumpId) : (markPump p s).apartOrders = s.apartOrders :=
  apartOrders_atHouseOf s p mark (fun g t => apartOrders_mark t g)

@[simp] theorem apartOrders_markAll (hs : List HouseId) : (markAll hs s).apartOrders = s.apartOrders :=
  apartOrders_foldl s _ (fun t g => apartOrders_mark t g) hs

@[simp] theorem apartOrders_accrue (p : PumpId) : (accrue p s).apartOrders = s.apartOrders :=
  apartOrders_modPump s p _ rfl

@[simp] theorem apartOrders_accrueAll (ps : List PumpId) : (accrueAll ps s).apartOrders = s.apartOrders :=
  apartOrders_foldl s _ (fun t p => apartOrders_accrue t p) ps

/-! #### Dispatcher -/

/-- A context whose take keeps a state apart from its orders. -/
def Ctx.Keeps (k : Ctx) : Prop := ∀ t, (k.take t).apartOrders = t.apartOrders

theorem keeps_quiet : Ctx.quiet.Keeps := fun _ => rfl

theorem keeps_starting : Ctx.starting.Keeps := fun _ => rfl

@[simp] theorem apartOrders_placeOrders (b : Bool) (h : HouseId) : (placeOrders b h s).apartOrders = s.apartOrders := by
  unfold placeOrders; split
  · rfl
  · dsimp only; split <;> rfl

theorem apartOrders_derive {k : Ctx} (hk : k.Keeps) (b : Bool) (h : HouseId) :
    (derive k b h s).apartOrders = s.apartOrders := by
  unfold derive; split
  · rw [hk, apartOrders_placeOrders]
  · rfl

theorem apartOrders_derivePump {k : Ctx} (hk : k.Keeps) (p : PumpId) :
    (derivePump k p s).apartOrders = s.apartOrders :=
  apartOrders_atHouseOf s p _ (fun g t => apartOrders_derive t hk false g)

@[simp] theorem apartOrders_setRefresh (h : HouseId) (m : Option Second) :
    (setRefresh h m s).apartOrders = s.apartOrders := rfl

@[simp] theorem apartOrders_refreshIdle : (refreshIdle s).apartOrders = s.apartOrders := rfl

@[simp] theorem apartOrders_releaseQueue : (releaseQueue s).apartOrders = s.apartOrders := rfl

@[simp] theorem apartOrders_releaseHouse (h : HouseId) : (releaseHouse h s).apartOrders = s.apartOrders := by
  unfold releaseHouse; split <;> rfl

@[simp] theorem apartOrders_releaseAll : (releaseAll s).apartOrders = s.apartOrders := by
  unfold releaseAll
  rw [apartOrders_foldl, apartOrders_releaseQueue]
  intro t h
  split
  · rfl
  · simp

/-! #### Arbiter -/

@[simp] theorem apartOrders_recompute : (recompute s).apartOrders = s.apartOrders := by
  unfold recompute testOver onlyIf
  repeat' split
  all_goals simp

@[simp] theorem apartOrders_stopCore (p : PumpId) : (stopCore p s).apartOrders = s.apartOrders := by
  unfold stopCore
  rw [apartOrders_modPump, apartOrders_accrue]
  rfl

theorem apartOrders_shedLoop {k : Ctx} (hk : k.Keeps) (n : Nat) : (shedLoop k n s).apartOrders = s.apartOrders := by
  induction n generalizing s with
  | zero => rfl
  | succ n ih =>
    unfold shedLoop
    repeat' split
    · rfl
    · rfl
    · rw [ih, apartOrders_derivePump _ hk, apartOrders_markPump, apartOrders_stopCore]

theorem apartOrders_shed {k : Ctx} (hk : k.Keeps) : (shed k s).apartOrders = s.apartOrders := by
  unfold shed; split
  · exact apartOrders_shedLoop s hk _
  · rfl

@[simp] theorem apartOrders_dropRequest (h : HouseId) : (dropRequest h s).apartOrders = s.apartOrders := rfl

@[simp] theorem apartOrders_startCore (p : PumpId) (u : Urgency) : (startCore p u s).apartOrders = s.apartOrders := by
  unfold startCore
  rw [apartOrders_modPump, apartOrders_accrue]
  rfl

@[simp] theorem apartOrders_recordGrant (e : Request) : (recordGrant e s).apartOrders = s.apartOrders := by
  unfold recordGrant
  rw [apartOrders_modHouse, apartOrders_modArbiter]
  rfl

theorem apartOrders_grant {k : Ctx} (hk : k.Keeps) (e : Request) : (grant k e s).apartOrders = s.apartOrders := by
  unfold grant
  rw [apartOrders_derive _ hk, apartOrders_mark, apartOrders_shed _ hk, apartOrders_recompute, apartOrders_recordGrant,
    apartOrders_startCore, apartOrders_dropRequest]

theorem apartOrders_consider {k : Ctx} (hk : k.Keeps) : (consider k s).apartOrders = s.apartOrders := by
  unfold consider
  repeat' split
  · rfl
  · exact apartOrders_grant s hk _
  · rfl

theorem apartOrders_loadFell {k : Ctx} (hk : k.Keeps) : (loadFell k s).apartOrders = s.apartOrders := by
  unfold loadFell
  rw [apartOrders_consider _ hk, apartOrders_recompute]

theorem apartOrders_loadRose {k : Ctx} (hk : k.Keeps) : (loadRose k s).apartOrders = s.apartOrders := by
  unfold loadRose
  rw [apartOrders_shed _ hk, apartOrders_onlyIf _ _ _ (fun t => apartOrders_consider t hk), apartOrders_recompute]

theorem apartOrders_loadChanged {k : Ctx} (hk : k.Keeps) (n : Nat) : (loadChanged k n s).apartOrders = s.apartOrders := by
  unfold loadChanged
  repeat' split
  · exact apartOrders_loadRose s hk
  · exact apartOrders_loadFell s hk
  · rfl

theorem apartOrders_arbiterLatch {k : Ctx} (hk : k.Keeps) : (arbiterLatch k s).apartOrders = s.apartOrders := by
  unfold arbiterLatch
  rw [apartOrders_shed _ hk, apartOrders_consider _ hk, apartOrders_recompute]

theorem apartOrders_placeRequest {k : Ctx} (hk : k.Keeps) (h : HouseId) (p : PumpId) (u : Urgency) :
    (placeRequest k h p u s).apartOrders = s.apartOrders := by
  unfold placeRequest
  rw [apartOrders_onlyIf _ _ _ (fun t => apartOrders_consider t hk)]
  split <;> rfl

/-! #### Pump supervision -/

@[simp] theorem apartOrders_endFlight (p : PumpId) : (endFlight p s).apartOrders = s.apartOrders := by
  refine apartOrders_atHouseOf s p _ fun g t => apartOrders_modHouse t g _ ?_
  split <;> rfl

@[simp] theorem apartOrders_undoCore (p : PumpId) : (undoCore p s).apartOrders = s.apartOrders := by
  unfold undoCore
  rw [apartOrders_endFlight, apartOrders_modPump, apartOrders_accrue]
  rfl

@[simp] theorem apartOrders_failCore (p : PumpId) : (failCore p s).apartOrders = s.apartOrders := by
  unfold failCore
  rw [apartOrders_endFlight, apartOrders_modPump, apartOrders_accrue]
  rfl

@[simp] theorem apartOrders_runOnCore (p : PumpId) : (runOnCore p s).apartOrders = s.apartOrders := by
  unfold runOnCore
  rw [apartOrders_modPump, apartOrders_accrue]
  rfl

theorem apartOrders_stopRequest {k : Ctx} (hk : k.Keeps) (p : PumpId) :
    (stopRequest k p s).apartOrders = s.apartOrders := by
  unfold stopRequest; split
  · rw [apartOrders_derivePump _ hk, apartOrders_markPump, apartOrders_shed _ hk, apartOrders_stopCore]
  · rfl

theorem apartOrders_undoStart {k : Ctx} (hk : k.Keeps) (p : PumpId) : (undoStart k p s).apartOrders = s.apartOrders := by
  unfold undoStart
  rw [apartOrders_derivePump _ hk, apartOrders_markPump, apartOrders_loadFell _ hk, apartOrders_undoCore]

theorem apartOrders_withdrawStart {k : Ctx} (hk : k.Keeps) (p : PumpId) :
    (withdrawStart k p s).apartOrders = s.apartOrders := by
  unfold withdrawStart; split
  · exact apartOrders_undoStart s hk p
  · rfl

@[simp] theorem apartOrders_releasePump (p : PumpId) : (releasePump p s).apartOrders = s.apartOrders := by
  unfold releasePump clearStopFail onlyIf
  dsimp only
  repeat' split
  all_goals first
    | rfl
    | simp
    | exact apartOrders_modPump s p _ rfl

/-! #### The field port -/

@[simp] theorem apartOrders_guardPump (p : PumpId) : (guardPump p s).apartOrders = s.apartOrders := by
  unfold guardPump
  repeat' split
  · rw [apartOrders_markPump, apartOrders_loadFell _ keeps_quiet, apartOrders_undoCore]
  · rw [apartOrders_markPump, apartOrders_loadFell _ keeps_quiet, apartOrders_failCore]
  · rw [apartOrders_markPump, apartOrders_shed _ keeps_quiet, apartOrders_stopCore]
  · rfl
  · rfl

@[simp] theorem apartOrders_guardPass (h : HouseId) (o : Vector Order 4) :
    (guardPass h o s).apartOrders = s.apartOrders := by
  refine apartOrders_foldl s _ (fun t k => ?_) _
  unfold guardSlot
  repeat' split
  · rfl
  · simp
  · rfl

@[simp] theorem apartOrders_guardEntry (e : DispEntry) : (guardEntry e s).1.apartOrders = s.apartOrders := by
  unfold guardEntry; split
  · simp [guardAgain]
  · rfl

@[simp] theorem apartOrders_takeMarked (e : DispEntry) : (takeMarked e s).apartOrders = s.apartOrders := by
  refine apartOrders_foldl s _ (fun t k => ?_) _
  unfold takeSlot
  repeat' split
  · exact apartOrders_modPump t _ _ rfl
  · exact apartOrders_modPump t _ _ rfl
  · rfl

@[simp] theorem apartOrders_setInTx (e : Option DispEntry) : (setInTx e s).apartOrders = s.apartOrders := rfl

@[simp] theorem apartOrders_setLastSent (h : HouseId) (o : Option (Vector Order 4)) :
    (setLastSent h o s).apartOrders = s.apartOrders := rfl

@[simp] theorem apartOrders_beginSend (f : TxFrame) : (beginSend .field f s).apartOrders = s.apartOrders := rfl

@[simp] theorem apartOrders_takeDispatch (e : DispEntry) (rest : List DispEntry) :
    (takeDispatch e rest s).apartOrders = s.apartOrders := by
  unfold takeDispatch
  rw [apartOrders_beginSend, apartOrders_setInTx, apartOrders_derive _ keeps_quiet, apartOrders_takeMarked,
    apartOrders_setLastSent, apartOrders_guardEntry, apartOrders_modDispatcher]

@[simp] theorem apartOrders_fieldTake : (fieldTake s).apartOrders = s.apartOrders := by
  unfold fieldTake
  repeat' split
  · rfl
  · rfl
  · rw [apartOrders_takeDispatch]; rfl
  · rfl
  · rw [apartOrders_takeDispatch]; rfl
  · rfl

theorem keeps_live : Ctx.live.Keeps := apartOrders_fieldTake

@[simp] theorem apartOrders_portTake (p : Port) : (portTake p s).apartOrders = s.apartOrders := by
  cases p <;> simp [portTake]

end

end Sys2Proof.Machine
end

