-- ==== Sys2Proof/Laws/Bounds.lean ====
section
/-! SUPPORT. The shared operations keep the bounds of every queue, list and counter (`State.Bounded`): one lemma for each
operation over the alarm list, the output of the ports, the dispatch queue and the request list. -/

namespace Sys2Proof.Machine

/-- An operation that keeps the bounds. -/
def KeepsBounds (f : State → State) : Prop := ∀ s : State, s.Bounded → (f s).Bounded

/-- What a state must share with a bounded one to be bounded. -/
theorem bounded_of_same {s t : State} (h : s.Bounded) (hr : t.responses = s.responses) (ha : t.alarms = s.alarms)
    (hq : t.arbiter.requests = s.arbiter.requests) (hd : t.dispatcher = s.dispatcher)
    (hf : t.field.fwd = s.field.fwd ∧ t.field.runCount = s.field.runCount ∧ t.field.counters = s.field.counters)
    (hs : t.sup.fwd = s.sup.fwd ∧ t.sup.runCount = s.sup.runCount ∧ t.sup.counters = s.sup.counters) : t.Bounded where
  responses := hr ▸ h.responses
  alarms := ha ▸ h.alarms
  requests := hq ▸ h.requests
  dispatcher := hd ▸ h.dispatcher
  field := ⟨hf.1 ▸ h.field.fwd, hf.2.1 ▸ h.field.runCount, hf.2.2 ▸ h.field.counters⟩
  sup := ⟨hs.1 ▸ h.sup.fwd, hs.2.1 ▸ h.sup.runCount, hs.2.2 ▸ h.sup.counters⟩

theorem keepsBounds_foldl {α : Type} (f : State → α → State) (hf : ∀ a, KeepsBounds fun s => f s a) (l : List α) :
    KeepsBounds fun s => l.foldl f s := by
  induction l with
  | nil => exact fun s h => h
  | cons a l ih => exact fun s h => ih _ (hf a s h)

theorem keepsBounds_onlyIf (b : Bool) {f : State → State} (hf : KeepsBounds f) : KeepsBounds (onlyIf b f) := by
  intro s h
  unfold onlyIf; split
  · exact hf s h
  · exact h

/-! ### Updates of one record -/

section

variable {s : State}

theorem bounded_modRes (r : ResId) (f : Reservoir → Reservoir) (h : s.Bounded) : (modRes r f s).Bounded :=
  bounded_of_same h rfl rfl rfl rfl ⟨rfl, rfl, rfl⟩ ⟨rfl, rfl, rfl⟩

theorem bounded_modPump (p : PumpId) (f : Pump → Pump) (h : s.Bounded) : (modPump p f s).Bounded :=
  bounded_of_same h rfl rfl rfl rfl ⟨rfl, rfl, rfl⟩ ⟨rfl, rfl, rfl⟩

theorem bounded_modHouse (g : HouseId) (f : House → House) (h : s.Bounded) : (modHouse g f s).Bounded :=
  bounded_of_same h rfl rfl rfl rfl ⟨rfl, rfl, rfl⟩ ⟨rfl, rfl, rfl⟩

theorem bounded_modStation (g : HouseId) (f : Station → Station) (h : s.Bounded) : (modStation g f s).Bounded :=
  bounded_of_same h rfl rfl rfl rfl ⟨rfl, rfl, rfl⟩ ⟨rfl, rfl, rfl⟩

/-- A change of the arbiter's record that leaves its request list. -/
theorem bounded_modArbiter (f : Arbiter → Arbiter) (hf : (f s.arbiter).requests = s.arbiter.requests) (h : s.Bounded) :
    (modArbiter f s).Bounded :=
  bounded_of_same h rfl rfl hf rfl ⟨rfl, rfl, rfl⟩ ⟨rfl, rfl, rfl⟩

/-- A change of the alarms that keeps their bounds. -/
theorem bounded_modAlarms (f : Alarms → Alarms) (hf : (f s.alarms).Bounded) (h : s.Bounded) : (modAlarms f s).Bounded :=
  ⟨h.responses, hf, h.requests, h.dispatcher, h.field, h.sup⟩

/-- A change of the dispatcher's record that keeps its bounds. -/
theorem bounded_modDispatcher (f : Dispatcher → Dispatcher) (hf : (f s.dispatcher).Bounded) (h : s.Bounded) :
    (modDispatcher f s).Bounded :=
  ⟨h.responses, h.alarms, h.requests, hf, h.field, h.sup⟩

theorem bounded_mark (g : HouseId) (h : s.Bounded) : (mark g s).Bounded :=
  bounded_of_same h rfl rfl rfl rfl ⟨rfl, rfl, rfl⟩ ⟨rfl, rfl, rfl⟩

theorem bounded_markAll (hs : List HouseId) (h : s.Bounded) : (markAll hs s).Bounded :=
  keepsBounds_foldl _ (fun g _ h => bounded_mark g h) hs s h

theorem bounded_accrue (p : PumpId) (h : s.Bounded) : (accrue p s).Bounded := bounded_modPump _ _ h

theorem bounded_accrueAll (ps : List PumpId) (h : s.Bounded) : (accrueAll ps s).Bounded :=
  keepsBounds_foldl _ (fun p _ h => bounded_accrue p h) ps s h

theorem bounded_atHouseOf (p : PumpId) {f : HouseId → State → State} (hf : ∀ g, KeepsBounds (f g)) (h : s.Bounded) :
    (atHouseOf p f s).Bounded := by
  unfold atHouseOf; split
  · exact h
  · exact hf _ s h

theorem bounded_markPump (p : PumpId) (h : s.Bounded) : (markPump p s).Bounded :=
  bounded_atHouseOf p (fun g _ h => bounded_mark g h) h

/-! ### The output of the supervisory port -/

theorem bounded_supTake (h : s.Bounded) : (supTake s).Bounded := by
  have hr := h.responses
  have hn := h.alarms.notices
  have hf := h.sup.fwd
  unfold supTake
  split
  · exact h
  split
  · rename_i e
    exact ⟨by rw [e] at hr; exact Nat.le_of_succ_le hr, h.alarms, h.requests, h.dispatcher, h.field, ⟨hf, h.sup.runCount, h.sup.counters⟩⟩
  · exact h
  · rename_i e _
    exact ⟨h.responses, h.alarms, h.requests, h.dispatcher, h.field,
      ⟨by rw [e] at hf; exact Nat.le_of_succ_le hf, Nat.zero_le 4, h.sup.counters⟩⟩
  · rename_i e
    exact ⟨h.responses, ⟨h.alarms.entries, h.alarms.keys, h.alarms.repeats, by rw [e] at hn; exact Nat.le_of_succ_le hn⟩,
      h.requests, h.dispatcher, h.field, ⟨hf, Nat.zero_le 4, h.sup.counters⟩⟩
  · split
    · rename_i e en lt
      exact ⟨h.responses, h.alarms, h.requests, h.dispatcher, h.field,
        ⟨by rw [e] at hf; exact Nat.le_of_succ_le hf, lt, h.sup.counters⟩⟩
    · rename_i e en lt
      exact ⟨h.responses, ⟨h.alarms.entries, h.alarms.keys, h.alarms.repeats, by rw [en] at hn; exact Nat.le_of_succ_le hn⟩,
        h.requests, h.dispatcher, h.field, ⟨h.sup.fwd, Nat.zero_le 4, h.sup.counters⟩⟩

theorem bounded_pushNotice (b : NoticeBody) (h : s.Bounded) : (pushNotice b s).Bounded := by
  unfold pushNotice
  split
  · exact bounded_modAlarms _ ⟨h.alarms.entries, h.alarms.keys, h.alarms.repeats, h.alarms.notices⟩ h
  · refine bounded_supTake (bounded_modAlarms _ ⟨h.alarms.entries, h.alarms.keys, h.alarms.repeats, ?_⟩ h)
    simp only [List.length_append, List.length_singleton]
    omega

theorem bounded_respond (c : Byte) (r : Result) (d : RespData) (h : s.Bounded) : (respond c r d s).Bounded := by
  unfold respond
  split
  · exact h
  · refine bounded_supTake ⟨?_, h.alarms, h.requests, h.dispatcher, h.field, h.sup⟩
    simp only [List.length_append, List.length_singleton]
    omega

/-! ### The alarm list -/

/-- The keys of the entries put in place of one of them are the same. -/
theorem keys_putAlarm (e : AlarmEntry) (l : List AlarmEntry) :
    ((l.map fun x => if x.isAt e.kind e.object then e else x).map fun x => (x.kind, x.object))
      = l.map fun x => (x.kind, x.object) := by
  rw [List.map_map]
  refine List.map_congr_left fun x _ => ?_
  by_cases hx : x.isAt e.kind e.object = true
  · have same := hx
    simp only [AlarmEntry.isAt, Bool.and_eq_true, beq_iff_eq] at same
    simp [hx, same.1, same.2]
  · simp [hx]

theorem bounded_putAlarm (e : AlarmEntry) (he : e.repeats ≤ 255) (h : s.Bounded) : (putAlarm e s).Bounded := by
  refine bounded_modAlarms _ ⟨?_, ?_, ?_, h.alarms.notices⟩ h
  · simpa using h.alarms.entries
  · rw [keys_putAlarm]; exact h.alarms.keys
  · intro x hx
    obtain ⟨y, hy, rfl⟩ := List.mem_map.1 hx
    split
    · exact he
    · exact h.alarms.repeats y hy

/-- An alarm list with one entry out of it keeps its bounds. -/
theorem Alarms.Bounded.erase {a : Alarms} (h : a.Bounded) (q : AlarmEntry → Bool) :
    ({ a with entries := a.entries.eraseP q, overflow := false } : Alarms).Bounded where
  entries := Nat.le_trans List.length_eraseP_le h.entries
  keys := h.keys.sublist (List.eraseP_sublist.map _)
  repeats e he := h.repeats e (List.mem_of_mem_eraseP he)
  notices := h.notices

theorem bounded_dropAlarm (k : AlarmKind) (o : Nat) (h : s.Bounded) : (dropAlarm k o s).Bounded :=
  bounded_modAlarms _ (h.alarms.erase _) h

theorem bounded_makeRoom (h : s.Bounded) : (makeRoom s).Bounded := bounded_modAlarms _ (h.alarms.erase _) h

theorem bounded_joinAlarm (k : AlarmKind) (o : Nat) (v : Option Nat) (d : Side) (room : s.alarms.entries.length < 24)
    (new : s.alarmAt k o = none) (h : s.Bounded) : (joinAlarm k o v d s).Bounded := by
  refine bounded_pushNotice _ (bounded_modAlarms _ ⟨?_, ?_, ?_, h.alarms.notices⟩ h)
  · simp only [List.length_append, List.length_singleton]
    omega
  · rw [List.map_append]
    refine List.nodup_append.2 ⟨h.alarms.keys, List.nodup_singleton _, ?_⟩
    intro a ha b hb
    obtain ⟨e, he, rfl⟩ := List.mem_map.1 ha
    obtain rfl := List.mem_singleton.1 hb
    have ne := List.find?_eq_none.1 new e he
    intro eq
    rw [Prod.mk.injEq] at eq
    exact ne (by simp [AlarmEntry.isAt, eq.1, eq.2])
  · intro e he
    rcases List.mem_append.1 he with he | he
    · exact h.alarms.repeats e he
    · rw [List.mem_singleton.1 he]; exact Nat.zero_le 255

theorem bounded_raise (k : AlarmKind) (o : Nat) (v : Option Nat) (d : Side) (h : s.Bounded) : (raise k o v d s).Bounded := by
  unfold raise
  split
  · rename_i none_
    split
    · rename_i room
      exact bounded_joinAlarm k o v d room none_ h
    · split
      · rename_i some_
        refine bounded_joinAlarm k o v d ?_ ?_ (bounded_makeRoom h)
        · obtain ⟨e, he, hc⟩ := List.any_eq_true.1 some_
          have len : (makeRoom s).alarms.entries.length = s.alarms.entries.length - 1 :=
            List.length_eraseP_of_mem he hc
          have pos := List.length_pos_of_mem he
          have most := h.alarms.entries
          omega
        · refine List.find?_eq_none.2 fun e he => ?_
          exact List.find?_eq_none.1 none_ e (List.mem_of_mem_eraseP he)
      · exact bounded_modAlarms _ ⟨h.alarms.entries, h.alarms.keys, h.alarms.repeats, h.alarms.notices⟩ h
  · split
    · exact bounded_pushNotice _ (bounded_putAlarm _ (Nat.min_le_right _ _) h)
    · exact h

/-- The entry of a kind and object is one of the list. -/
theorem mem_of_alarmAt {k : AlarmKind} {o : Nat} {e : AlarmEntry} (h : s.alarmAt k o = some e) : e ∈ s.alarms.entries :=
  List.mem_of_find?_eq_some h

theorem bounded_clear (k : AlarmKind) (o : Nat) (h : s.Bounded) : (clear k o s).Bounded := by
  unfold clear
  split
  · exact h
  · rename_i e at_
    split
    · exact bounded_pushNotice _ (bounded_putAlarm _ (h.alarms.repeats e (mem_of_alarmAt at_)) h)
    · exact bounded_pushNotice _ (bounded_dropAlarm k o h)
    · exact h

theorem bounded_acknowledge (k : AlarmKind) (o : Nat) (h : s.Bounded) : (acknowledge k o s).Bounded := by
  unfold acknowledge
  split
  · exact h
  · rename_i e at_
    split
    · exact keepsBounds_onlyIf _ (fun _ h => bounded_clear k o h) _
        (bounded_putAlarm _ (h.alarms.repeats e (mem_of_alarmAt at_)) h)
    · exact h
    · exact bounded_dropAlarm k o h

theorem bounded_acknowledgeAll (h : s.Bounded) : (acknowledgeAll s).Bounded :=
  keepsBounds_foldl _ (fun (e : AlarmEntry) _ h => bounded_acknowledge e.kind e.object h) _ s h

theorem bounded_raisePump (k : AlarmKind) (p : PumpId) (h : s.Bounded) : (raisePump k p s).Bounded := bounded_raise _ _ _ _ h

/-! ### The dispatch queue -/

theorem sound_of_orders {e : DispEntry} (h : e.kind = .orders) : e.Sound := fun r => by rw [h] at r; cases r

theorem sound_released (e : DispEntry) : e.released.Sound := fun _ => ⟨rfl, rfl, rfl, rfl⟩

/-- A queue with entries changed in place, each keeping its house and sound, keeps its bounds. -/
theorem Dispatcher.Bounded.mapQueue {d : Dispatcher} (h : d.Bounded) (f : DispEntry → DispEntry)
    (house : ∀ e, (f e).house = e.house) (sound : ∀ e, e.Sound → (f e).Sound) :
    ({ d with queue := d.queue.map f } : Dispatcher).Bounded where
  houses := by
    have e : (d.queue.map f).map (fun e => e.house) = d.queue.map fun e => e.house := by
      rw [List.map_map]; exact List.map_congr_left fun x _ => house x
    show ((d.queue.map f).map fun e => e.house).Nodup
    rw [e]; exact h.houses
  queue e he := by
    obtain ⟨x, hx, rfl⟩ := List.mem_map.1 he
    exact sound x (h.queue x hx)
  inTx := h.inTx

/-- A queue that a sound entry of a new house joins keeps its bounds. -/
theorem Dispatcher.Bounded.joinQueue {d : Dispatcher} (h : d.Bounded) (e : DispEntry) (sound : e.Sound)
    (new : ∀ x ∈ d.queue, x.house ≠ e.house) : ({ d with queue := d.queue ++ [e] } : Dispatcher).Bounded where
  houses := by
    show ((d.queue ++ [e]).map fun e => e.house).Nodup
    rw [List.map_append]
    refine List.nodup_append.2 ⟨h.houses, List.nodup_singleton _, ?_⟩
    intro a ha b hb
    obtain ⟨x, hx, rfl⟩ := List.mem_map.1 ha
    obtain rfl := List.mem_singleton.1 hb
    exact new x hx
  queue x hx := by
    rcases List.mem_append.1 hx with hx | hx
    · exact h.queue x hx
    · rw [List.mem_singleton.1 hx]; exact sound
  inTx := h.inTx

/-- A house without a queued entry is the house of none. -/
theorem house_ne_of_queuedEntry {g : HouseId} (h : ¬(s.queuedEntry g).isSome) : ∀ e ∈ s.dispatcher.queue, e.house ≠ g := by
  have none_ : s.queuedEntry g = none := by simpa using h
  intro e he
  simpa using List.find?_eq_none.1 none_ e he

theorem bounded_placeOrders (b : Bool) (g : HouseId) (h : s.Bounded) : (placeOrders b g s).Bounded := by
  unfold placeOrders
  split
  · refine bounded_modDispatcher _ (h.dispatcher.mapQueue _ (fun e => ?_) (fun e he => ?_)) h
    · split
      · rfl
      · rfl
    · split
      · exact sound_of_orders rfl
      · exact he
  · rename_i none_
    dsimp only
    split
    · exact bounded_modDispatcher _
        (h.dispatcher.joinQueue _ (sound_of_orders rfl) (house_ne_of_queuedEntry none_)) h
    · exact h

theorem bounded_releaseQueue (h : s.Bounded) : (releaseQueue s).Bounded :=
  bounded_modDispatcher _ (h.dispatcher.mapQueue _ (fun _ => rfl) (fun e _ => sound_released e)) h

theorem bounded_releaseHouse (g : HouseId) (h : s.Bounded) : (releaseHouse g s).Bounded := by
  unfold releaseHouse
  split
  · refine bounded_modDispatcher _ (h.dispatcher.mapQueue _ (fun e => ?_) (fun e he => ?_)) h
    · split
      · rfl
      · rfl
    · split
      · exact sound_released e
      · exact he
  · rename_i none_
    exact bounded_modDispatcher _ (h.dispatcher.joinQueue _ (sound_released _) (house_ne_of_queuedEntry none_)) h

theorem bounded_releaseAll (h : s.Bounded) : (releaseAll s).Bounded := by
  refine keepsBounds_foldl _ (fun (g : HouseId) t (ht : t.Bounded) => ?_) _ _ (bounded_releaseQueue h)
  show (if (t.queuedEntry g).isSome then t else releaseHouse g t).Bounded
  split
  · exact ht
  · exact bounded_releaseHouse g ht

theorem bounded_setRefresh (g : HouseId) (m : Option Second) (h : s.Bounded) : (setRefresh g m s).Bounded :=
  bounded_modDispatcher _ ⟨h.dispatcher.houses, h.dispatcher.queue, h.dispatcher.inTx⟩ h

theorem bounded_refreshIdle (h : s.Bounded) : (refreshIdle s).Bounded :=
  bounded_modDispatcher _ ⟨h.dispatcher.houses, h.dispatcher.queue, h.dispatcher.inTx⟩ h

theorem bounded_setLastSent (g : HouseId) (o : Option (Vector Order 4)) (h : s.Bounded) : (setLastSent g o s).Bounded :=
  bounded_modDispatcher _ ⟨h.dispatcher.houses, h.dispatcher.queue, h.dispatcher.inTx⟩ h

theorem bounded_setInTx (e : Option DispEntry) (he : ∀ x, e = some x → x.Sound) (h : s.Bounded) : (setInTx e s).Bounded :=
  bounded_modDispatcher _ ⟨h.dispatcher.houses, h.dispatcher.queue, he⟩ h

end

/-! ### The cascades of orders -/

/-- The take of a context keeps the bounds. -/
def Ctx.KeepsBounds (k : Ctx) : Prop := Sys2Proof.Machine.KeepsBounds k.take

theorem keepsBounds_quiet : Ctx.quiet.KeepsBounds := fun _ h => h

theorem keepsBounds_starting : Ctx.starting.KeepsBounds := fun _ h => h

section

variable {s : State} {k : Ctx}

theorem bounded_derive (hk : k.KeepsBounds) (b : Bool) (g : HouseId) (h : s.Bounded) : (derive k b g s).Bounded := by
  unfold derive; split
  · exact hk _ (bounded_placeOrders b g h)
  · exact h

theorem bounded_derivePump (hk : k.KeepsBounds) (p : PumpId) (h : s.Bounded) : (derivePump k p s).Bounded :=
  bounded_atHouseOf p (fun g _ h => bounded_derive hk false g h) h

theorem bounded_recompute (h : s.Bounded) : (recompute s).Bounded := by
  have h1 := bounded_modArbiter (s := s)
    (fun a => { a with window := windowFor s.siteLoad s.budget s.site.budgetMargin a.window }) rfl h
  unfold recompute testOver
  split
  · exact keepsBounds_onlyIf _ (fun _ h => bounded_raise _ _ _ _ (bounded_modArbiter _ rfl h)) _ h1
  · exact keepsBounds_onlyIf _ (fun _ h => bounded_clear _ _ (bounded_modArbiter _ rfl h)) _ h1

theorem bounded_stopCore (p : PumpId) (h : s.Bounded) : (stopCore p s).Bounded := bounded_modPump _ _ (bounded_accrue p h)

theorem bounded_startCore (p : PumpId) (u : Urgency) (h : s.Bounded) : (startCore p u s).Bounded :=
  bounded_modPump _ _ (bounded_accrue p h)

theorem bounded_shedLoop (hk : k.KeepsBounds) (n : Nat) (h : s.Bounded) : (shedLoop k n s).Bounded := by
  induction n generalizing s with
  | zero => exact h
  | succ n ih =>
    unfold shedLoop
    split
    · exact bounded_modArbiter _ rfl h
    · split
      · exact bounded_modArbiter _ rfl h
      · exact ih (bounded_derivePump hk _ (bounded_markPump _ (bounded_stopCore _ h)))

theorem bounded_shed (hk : k.KeepsBounds) (h : s.Bounded) : (shed k s).Bounded := by
  unfold shed; split
  · exact bounded_shedLoop hk 33 h
  · exact h

theorem bounded_dropRequest (g : HouseId) (h : s.Bounded) : (dropRequest g s).Bounded where
  responses := h.responses
  alarms := h.alarms
  requests := h.requests.sublist (List.filter_sublist.map _)
  dispatcher := h.dispatcher
  field := h.field
  sup := h.sup

theorem bounded_recordGrant (e : Request) (h : s.Bounded) : (recordGrant e s).Bounded :=
  bounded_modHouse _ _ (bounded_modArbiter _ rfl h)

theorem bounded_grant (hk : k.KeepsBounds) (e : Request) (h : s.Bounded) : (grant k e s).Bounded :=
  bounded_derive hk false _ (bounded_mark _ (bounded_shed hk (bounded_recompute (bounded_recordGrant e
    (bounded_startCore _ _ (bounded_dropRequest _ h))))))

theorem bounded_consider (hk : k.KeepsBounds) (h : s.Bounded) : (consider k s).Bounded := by
  unfold consider
  split
  · split
    · exact h
    · exact bounded_grant hk _ h
  · exact h

theorem bounded_loadFell (hk : k.KeepsBounds) (h : s.Bounded) : (loadFell k s).Bounded :=
  bounded_consider hk (bounded_recompute h)

theorem bounded_loadRose (hk : k.KeepsBounds) (h : s.Bounded) : (loadRose k s).Bounded :=
  bounded_shed hk (keepsBounds_onlyIf _ (fun _ h => bounded_consider hk h) _ (bounded_recompute h))

theorem bounded_loadChanged (hk : k.KeepsBounds) (n : Nat) (h : s.Bounded) : (loadChanged k n s).Bounded := by
  unfold loadChanged
  split
  · exact bounded_loadRose hk h
  · split
    · exact bounded_loadFell hk h
    · exact h

theorem bounded_arbiterLatch (hk : k.KeepsBounds) (h : s.Bounded) : (arbiterLatch k s).Bounded :=
  bounded_shed hk (bounded_consider hk (bounded_recompute h))

theorem bounded_placeRequest (hk : k.KeepsBounds) (g : HouseId) (p : PumpId) (u : Urgency) (h : s.Bounded) :
    (placeRequest k g p u s).Bounded := by
  unfold placeRequest
  refine keepsBounds_onlyIf _ (fun _ h => bounded_consider hk h) _ ?_
  split
  · refine ⟨h.responses, h.alarms, ?_, h.dispatcher, h.field, h.sup⟩
    have same : ∀ f : Request → Request, (∀ e, (f e).house = e.house) →
        ((s.arbiter.requests.map f).map fun e => e.house).Nodup := by
      intro f hf
      rw [List.map_map]
      exact (List.map_congr_left (fun e _ => (hf e).symm)) ▸ h.requests
    refine same _ fun e => ?_
    split
    · rfl
    · rfl
  · rename_i none_
    refine ⟨h.responses, h.alarms, ?_, h.dispatcher, h.field, h.sup⟩
    have join : ∀ r : Request, (∀ x ∈ s.arbiter.requests, x.house ≠ r.house) →
        ((s.arbiter.requests ++ [r]).map fun e => e.house).Nodup := by
      intro r new
      rw [List.map_append]
      refine List.nodup_append.2 ⟨h.requests, List.nodup_singleton _, ?_⟩
      intro a ha b hb
      obtain ⟨x, hx, rfl⟩ := List.mem_map.1 ha
      obtain rfl := List.mem_singleton.1 hb
      exact new x hx
    refine join _ fun x hx => ?_
    have absent : s.requestOf g = none := by simpa using none_
    simpa using List.find?_eq_none.1 absent x hx

end

/-! ### The field port -/

section

variable {s : State}

theorem bounded_endFlight (p : PumpId) (h : s.Bounded) : (endFlight p s).Bounded := by
  unfold endFlight
  exact bounded_atHouseOf p (fun g _ h => bounded_modHouse g _ h) h

theorem bounded_undoCore (p : PumpId) (h : s.Bounded) : (undoCore p s).Bounded :=
  bounded_endFlight p (bounded_modPump _ _ (bounded_accrue p h))

theorem bounded_failCore (p : PumpId) (h : s.Bounded) : (failCore p s).Bounded :=
  bounded_endFlight p (bounded_modPump _ _ (bounded_accrue p h))

theorem bounded_guardPump (p : PumpId) (h : s.Bounded) : (guardPump p s).Bounded := by
  unfold guardPump
  repeat' split
  · exact bounded_markPump _ (bounded_loadFell keepsBounds_quiet (bounded_undoCore _ h))
  · exact bounded_markPump _ (bounded_loadFell keepsBounds_quiet (bounded_failCore _ h))
  · exact bounded_markPump _ (bounded_shed keepsBounds_quiet (bounded_stopCore _ h))
  · exact h
  · exact h

theorem bounded_guardPass (g : HouseId) (o : Vector Order 4) (h : s.Bounded) : (guardPass g o s).Bounded := by
  refine keepsBounds_foldl _ (fun (i : SlotId) t (ht : t.Bounded) => ?_) _ _ h
  show (guardSlot g o t i).Bounded
  unfold guardSlot
  repeat' split
  · exact ht
  · exact bounded_guardPump _ ht
  · exact ht

/-- The guard keeps the bounds, and the entry it gives is sound where the one it takes is. -/
theorem bounded_guardEntry (e : DispEntry) (he : e.Sound) (h : s.Bounded) :
    (guardEntry e s).1.Bounded ∧ (guardEntry e s).2.Sound := by
  unfold guardEntry
  split
  · rename_i c
    exact ⟨bounded_guardPass _ _ (bounded_guardPass _ _ (bounded_guardPass _ _ h)), sound_of_orders c.1⟩
  · exact ⟨h, he⟩

theorem bounded_takeMarked (e : DispEntry) (h : s.Bounded) : (takeMarked e s).Bounded := by
  refine keepsBounds_foldl _ (fun (i : SlotId) t (ht : t.Bounded) => ?_) _ _ h
  show (takeSlot e t i).Bounded
  unfold takeSlot
  repeat' split
  · exact bounded_modPump _ _ ht
  · exact bounded_modPump _ _ ht
  · exact ht

/-- A change of a port's record that keeps its queue, its run count and the bounds of its counters. -/
theorem bounded_modPort (p : Port) (f : PortState → PortState) (hw : ∀ q, (f q).fwd = q.fwd)
    (hr : ∀ q, (f q).runCount = q.runCount) (hc : ∀ q : PortState, q.counters.Bounded → (f q).counters.Bounded)
    (h : s.Bounded) : (modPort p f s).Bounded := by
  cases p
  · exact ⟨h.responses, h.alarms, h.requests, h.dispatcher,
      ⟨hw s.field ▸ h.field.fwd, hr s.field ▸ h.field.runCount, hc _ h.field.counters⟩, h.sup⟩
  · exact ⟨h.responses, h.alarms, h.requests, h.dispatcher, h.field,
      ⟨hw s.sup ▸ h.sup.fwd, hr s.sup ▸ h.sup.runCount, hc _ h.sup.counters⟩⟩

/-- A change of the field port that keeps its bounds. -/
theorem bounded_field (f : PortState) (hf : f.Bounded 3) (h : s.Bounded) : ({ s with field := f } : State).Bounded :=
  ⟨h.responses, h.alarms, h.requests, h.dispatcher, hf, h.sup⟩

theorem bounded_takeDispatch (e : DispEntry) (rest : List DispEntry) (q : s.dispatcher.queue = e :: rest) (h : s.Bounded) :
    (takeDispatch e rest s).Bounded := by
  have hd := h.dispatcher
  have sound := hd.queue e (by rw [q]; exact List.mem_cons_self)
  have h1 := bounded_guardEntry e sound (bounded_modDispatcher
    (fun d => { d with queue := rest, inTx := some e })
    ⟨by have n := hd.houses; rw [q] at n; exact n.of_cons,
      fun x hx => hd.queue x (by rw [q]; exact List.mem_cons_of_mem _ hx),
      fun x hx => by cases hx; exact sound⟩ h)
  unfold takeDispatch
  dsimp only
  generalize guardEntry e (modDispatcher (fun d => { d with queue := rest, inTx := some e }) s) = g at h1 ⊢
  have h2 := bounded_derive keepsBounds_quiet false e.house
    (bounded_takeMarked g.2 (bounded_setLastSent e.house (some g.2.orders) h1.1))
  exact bounded_modPort .field _ (fun _ => rfl) (fun _ => rfl) (fun _ c => c)
    (bounded_setInTx (some g.2) (fun x hx => Option.some.inj hx ▸ h1.2) h2)

theorem bounded_fieldTake (h : s.Bounded) : (fieldTake s).Bounded := by
  have hf := h.field.fwd
  unfold fieldTake
  split
  · exact h
  split
  · exact h
  · rename_i e rest q _
    exact bounded_takeDispatch e rest q (bounded_field _ ⟨hf, Nat.zero_le 3, h.field.counters⟩ h)
  · rename_i e
    exact bounded_field _ ⟨by rw [e] at hf; exact Nat.le_of_succ_le hf, Nat.zero_le 3, h.field.counters⟩ h
  · rename_i e rest q _ f
    split
    · rename_i lt
      exact bounded_takeDispatch _ _ ‹_› (bounded_field _ ⟨hf, lt, h.field.counters⟩ h)
    · exact bounded_field _ ⟨by rw [‹s.field.fwd = _›] at hf; exact Nat.le_of_succ_le hf, Nat.zero_le 3, h.field.counters⟩ h

theorem keepsBounds_live : Ctx.live.KeepsBounds := fun _ h => bounded_fieldTake h

theorem bounded_portTake (p : Port) (h : s.Bounded) : (portTake p s).Bounded := by
  cases p
  · exact bounded_fieldTake h
  · exact bounded_supTake h

theorem bump_le (n : Nat) : bump n ≤ 65535 := Nat.min_le_right _ _

theorem bounded_forward (p : Port) (bytes : List Byte) (h : s.Bounded) : (forward p bytes s).Bounded := by
  unfold forward
  split
  · exact bounded_modPort p _ (fun _ => rfl) (fun _ => rfl)
      (fun q c => ⟨c.good, c.checkFail, c.lengthDrop, c.abandon, bump_le _, c.sent⟩) h
  · rename_i room
    refine bounded_portTake _ ?_
    have len : ∀ l : List (List Byte), ¬8 ≤ l.length → (l ++ [bytes]).length ≤ 8 := by
      intro l hl
      simp only [List.length_append, List.length_singleton]
      omega
    cases p
    · exact ⟨h.responses, h.alarms, h.requests, h.dispatcher, h.field, ⟨len _ room, h.sup.runCount, h.sup.counters⟩⟩
    · exact ⟨h.responses, h.alarms, h.requests, h.dispatcher, ⟨len _ room, h.field.runCount, h.field.counters⟩, h.sup⟩

theorem bounded_freeTx (p : Port) (h : s.Bounded) : (freeTx p s).Bounded :=
  bounded_modPort p _ (fun _ => rfl) (fun _ => rfl)
    (fun _ c => ⟨c.good, c.checkFail, c.lengthDrop, c.abandon, c.forwardDrop, bump_le _⟩) h

theorem bounded_stampSlot (e : DispEntry) (i : SlotId) (h : s.Bounded) : (stampSlot e s i).Bounded := by
  unfold stampSlot
  repeat' split
  · exact bounded_atHouseOf _ (fun g _ h => bounded_modHouse g _ h) (bounded_modPump _ _ h)
  · exact bounded_modPump _ _ h
  · exact h

theorem bounded_completeDispatch (h : s.Bounded) : (completeDispatch s).Bounded := by
  unfold completeDispatch
  split
  · exact h
  · rename_i e _
    exact bounded_setInTx _ (fun _ n => by cases n) (bounded_setRefresh _ _ (bounded_derive keepsBounds_quiet false e.house
      (keepsBounds_foldl _ (fun i _ h => bounded_stampSlot e i h) _ _ h)))

theorem bounded_completeTx (p : Port) (h : s.Bounded) : (completeTx p s).Bounded := by
  unfold completeTx
  split
  · exact h
  · exact bounded_fieldTake (bounded_freeTx _ (bounded_completeDispatch h))
  · exact bounded_fieldTake (bounded_freeTx _ h)
  · exact bounded_supTake (bounded_freeTx _ h)

end

end Sys2Proof.Machine
end

