-- ==== Sys2Proof/Laws/Houses.lean ====
section
/-! SUPPORT. What an evaluation of a house leaves alone: a state apart from its orders and from one house's record. -/

namespace Sys2Proof.Machine

section

variable {s t : State}

theorem apartHouse_of_apartOrders (h : HouseId) (e : t.apartOrders = s.apartOrders) :
    t.apartHouse h = s.apartHouse h := by
  have eh : t.houses.map House.apartStart = s.houses.map House.apartStart := by
    have := congrArg State.houses e; exact this
  unfold State.apartHouse
  rw [e, eh, house_mode_of_apartOrders e, house_lastStartTx_of_apartOrders e]

theorem apartHouses_of_apartHouse (h : HouseId) (e : t.apartHouse h = s.apartHouse h) :
    t.apartHouses = s.apartHouses := by
  have key : ∀ u : State,
      u.apartHouses = { u.apartHouse h with
        houses := (u.apartHouse h).houses.map fun x => House.fresh x.mode x.lastStartTx } := by
    intro u
    have : (u.houses.map fun x => House.fresh x.mode x.lastStartTx)
        = (u.apartHouse h).houses.map fun x => House.fresh x.mode x.lastStartTx := by
      apply Vector.ext
      intro i hi
      by_cases ei : h.val = i
      · subst ei; simp [State.apartHouse, State.house, Vector.get_eq_getElem, House.fresh]
      · simp [State.apartHouse, ei, House.apartStart]
    unfold State.apartHouses
    rw [this]
    rfl
  rw [key t, key s, e]

theorem apartHouses_of_apartOrders (e : t.apartOrders = s.apartOrders) : t.apartHouses = s.apartHouses :=
  apartHouses_of_apartHouse 0 (apartHouse_of_apartOrders 0 e)

/-- Another house's record is kept but for its start in flight. -/
theorem house_of_apartHouse {h g : HouseId} (e : t.apartHouse h = s.apartHouse h) (ne : g ≠ h) :
    (t.house g).apartStart = (s.house g).apartStart := by
  have := congrArg (fun u : State => u.houses.get g) e
  simpa only [State.apartHouse, getSet, ne, if_false, getMap, State.house] using this

theorem house_mode_of_apartHouses (e : t.apartHouses = s.apartHouses) (g : HouseId) :
    (t.house g).mode = (s.house g).mode := by
  have := congrArg (fun u : State => (u.houses.get g).mode) e
  simpa only [State.apartHouses, getMap, State.house, House.fresh] using this

theorem house_lastStartTx_of_apartHouses (e : t.apartHouses = s.apartHouses) (g : HouseId) :
    (t.house g).lastStartTx = (s.house g).lastStartTx := by
  have := congrArg (fun u : State => (u.houses.get g).lastStartTx) e
  simpa only [State.apartHouses, getMap, State.house, House.fresh] using this

theorem pump_of_apartHouses (e : t.apartHouses = s.apartHouses) (p : PumpId) :
    (t.pump p).apartOrder = (s.pump p).apartOrder := by
  have := congrArg (fun u : State => u.pumps.get p) e
  simp only [State.apartHouses, State.apartOrders, getMap] at this
  exact this

theorem engine_of_apartHouses (e : t.apartHouses = s.apartHouses) : t.engine = s.engine := by
  have := congrArg State.engine e; exact this
theorem autoStart_of_apartHouses (e : t.apartHouses = s.apartHouses) : t.autoStart = s.autoStart := by
  have := congrArg State.autoStart e; exact this
theorem settleMark_of_apartHouses (e : t.apartHouses = s.apartHouses) : t.settleMark = s.settleMark := by
  have := congrArg State.settleMark e; exact this
theorem lastRefusal_of_apartHouses (e : t.apartHouses = s.apartHouses) : t.lastRefusal = s.lastRefusal := by
  have := congrArg State.lastRefusal e; exact this
theorem cursor_of_apartHouses (e : t.apartHouses = s.apartHouses) : t.cursor = s.cursor := by
  have := congrArg State.cursor e; exact this
theorem lastSave_of_apartHouses (e : t.apartHouses = s.apartHouses) : t.lastSave = s.lastSave := by
  have := congrArg State.lastSave e; exact this
theorem tables_of_apartHouses (e : t.apartHouses = s.apartHouses) : t.tables = s.tables := by
  have := congrArg State.tables e; exact this
theorem levelMap_of_apartHouses (e : t.apartHouses = s.apartHouses) : t.levelMap = s.levelMap := by
  have := congrArg State.levelMap e; exact this
theorem pumpMap_of_apartHouses (e : t.apartHouses = s.apartHouses) : t.pumpMap = s.pumpMap := by
  have := congrArg State.pumpMap e; exact this
theorem storeTx_of_apartHouses (e : t.apartHouses = s.apartHouses) : t.storeTx = s.storeTx := by
  have := congrArg State.storeTx e; exact this
theorem imagesGood_of_apartHouses (e : t.apartHouses = s.apartHouses) : t.imagesGood = s.imagesGood := by
  have := congrArg State.imagesGood e; exact this
theorem saveContent_of_apartHouses (e : t.apartHouses = s.apartHouses) : t.saveContent = s.saveContent := by
  have := congrArg State.saveContent e; exact this
theorem store_of_apartHouses (e : t.apartHouses = s.apartHouses) : t.store = s.store := by
  have := congrArg State.store e; exact this
theorem now_of_apartHouses (e : t.apartHouses = s.apartHouses) : t.now = s.now := by
  have := congrArg State.now e; exact this
theorem timeSet_of_apartHouses (e : t.apartHouses = s.apartHouses) : t.timeSet = s.timeSet := by
  have := congrArg State.timeSet e; exact this
theorem sod_of_apartHouses (e : t.apartHouses = s.apartHouses) : t.sod = s.sod := by
  have := congrArg State.sod e; exact this
theorem day_of_apartHouses (e : t.apartHouses = s.apartHouses) : t.day = s.day := by
  have := congrArg State.day e; exact this
theorem period_of_apartHouses (e : t.apartHouses = s.apartHouses) : t.period = s.period := by
  have := congrArg State.period e; exact this
theorem reservoirs_of_apartHouses (e : t.apartHouses = s.apartHouses) : t.reservoirs = s.reservoirs := by
  have := congrArg State.reservoirs e; exact this
theorem stations_of_apartHouses (e : t.apartHouses = s.apartHouses) : t.stations = s.stations := by
  have := congrArg State.stations e; exact this
theorem ownAddr_of_apartHouses (e : t.apartHouses = s.apartHouses) : t.ownAddr = s.ownAddr := by
  have := congrArg State.ownAddr e; exact this
theorem pending_of_apartHouses (e : t.apartHouses = s.apartHouses) : t.pending = s.pending := by
  have := congrArg State.pending e; exact this
theorem field_rx_of_apartHouses (e : t.apartHouses = s.apartHouses) : t.field.rx = s.field.rx := by
  have := congrArg (fun u : State => u.field.rx) e; exact this
theorem field_buf_of_apartHouses (e : t.apartHouses = s.apartHouses) : t.field.buf = s.field.buf := by
  have := congrArg (fun u : State => u.field.buf) e; exact this
theorem field_counters_of_apartHouses (e : t.apartHouses = s.apartHouses) : t.field.counters = s.field.counters := by
  have := congrArg (fun u : State => u.field.counters) e; exact this
theorem field_rate_of_apartHouses (e : t.apartHouses = s.apartHouses) : t.field.rate = s.field.rate := by
  have := congrArg (fun u : State => u.field.rate) e; exact this
theorem sup_rx_of_apartHouses (e : t.apartHouses = s.apartHouses) : t.sup.rx = s.sup.rx := by
  have := congrArg (fun u : State => u.sup.rx) e; exact this
theorem sup_buf_of_apartHouses (e : t.apartHouses = s.apartHouses) : t.sup.buf = s.sup.buf := by
  have := congrArg (fun u : State => u.sup.buf) e; exact this
theorem sup_counters_of_apartHouses (e : t.apartHouses = s.apartHouses) : t.sup.counters = s.sup.counters := by
  have := congrArg (fun u : State => u.sup.counters) e; exact this
theorem sup_rate_of_apartHouses (e : t.apartHouses = s.apartHouses) : t.sup.rate = s.sup.rate := by
  have := congrArg (fun u : State => u.sup.rate) e; exact this
theorem pump_held_of_apartHouses (e : t.apartHouses = s.apartHouses) (p : PumpId) :
    (t.pump p).held = (s.pump p).held := by
  have := congrArg Pump.held (pump_of_apartHouses e p); exact this
theorem pump_panel_of_apartHouses (e : t.apartHouses = s.apartHouses) (p : PumpId) :
    (t.pump p).panel = (s.pump p).panel := by
  have := congrArg Pump.panel (pump_of_apartHouses e p); exact this
theorem pump_fault_of_apartHouses (e : t.apartHouses = s.apartHouses) (p : PumpId) :
    (t.pump p).fault = (s.pump p).fault := by
  have := congrArg Pump.fault (pump_of_apartHouses e p); exact this
theorem pump_service_of_apartHouses (e : t.apartHouses = s.apartHouses) (p : PumpId) :
    (t.pump p).service = (s.pump p).service := by
  have := congrArg Pump.service (pump_of_apartHouses e p); exact this
theorem pump_runStart_of_apartHouses (e : t.apartHouses = s.apartHouses) (p : PumpId) :
    (t.pump p).runStart = (s.pump p).runStart := by
  have := congrArg Pump.runStart (pump_of_apartHouses e p); exact this
theorem pump_minRunOpen_of_apartHouses (e : t.apartHouses = s.apartHouses) (p : PumpId) :
    (t.pump p).minRunOpen = (s.pump p).minRunOpen := by
  have := congrArg Pump.minRunOpen (pump_of_apartHouses e p); exact this
theorem pump_lastRun_of_apartHouses (e : t.apartHouses = s.apartHouses) (p : PumpId) :
    (t.pump p).lastRun = (s.pump p).lastRun := by
  have := congrArg Pump.lastRun (pump_of_apartHouses e p); exact this
theorem pump_history_of_apartHouses (e : t.apartHouses = s.apartHouses) (p : PumpId) :
    (t.pump p).history = (s.pump p).history := by
  have := congrArg Pump.history (pump_of_apartHouses e p); exact this

end

/-! ### The evaluator's operations -/

section

variable (s : State) (h : HouseId)

/-- An update of the house's record that keeps its mode and last_start_tx. -/
theorem apartHouse_modHouse (f : House → House)
    (hf : (f (s.house h)).mode = (s.house h).mode ∧ (f (s.house h)).lastStartTx = (s.house h).lastStartTx) :
    (modHouse h f s).apartHouse h = s.apartHouse h := by
  have e : ((modHouse h f s).houses.map House.apartStart).set h
        (.fresh ((modHouse h f s).house h).mode ((modHouse h f s).house h).lastStartTx)
      = (s.houses.map House.apartStart).set h (.fresh (s.house h).mode (s.house h).lastStartTx) := by
    apply Vector.ext
    intro i hi
    by_cases ei : h.val = i
    · subst ei; simp [hf]
    · simp [ei]
  unfold State.apartHouse
  rw [e]
  rfl

theorem apartHouse_of_keeps {f : State → State} (hf : ∀ t, (f t).apartOrders = t.apartOrders) :
    (f s).apartHouse h = s.apartHouse h := apartHouse_of_apartOrders h (hf s)

@[simp] theorem apartHouse_raise (k : AlarmKind) (o : Nat) (v : Option Nat) (d : Side) :
    (raise k o v d s).apartHouse h = s.apartHouse h := apartHouse_of_apartOrders h (by simp)

@[simp] theorem apartHouse_clear (k : AlarmKind) (o : Nat) : (clear k o s).apartHouse h = s.apartHouse h :=
  apartHouse_of_apartOrders h (by simp)

@[simp] theorem apartHouse_mark (g : HouseId) : (mark g s).apartHouse h = s.apartHouse h :=
  apartHouse_of_apartOrders h (by simp)

@[simp] theorem apartHouse_accrue (p : PumpId) : (accrue p s).apartHouse h = s.apartHouse h :=
  apartHouse_of_apartOrders h (by simp)

@[simp] theorem apartHouse_accrueAll (ps : List PumpId) : (accrueAll ps s).apartHouse h = s.apartHouse h :=
  apartHouse_of_apartOrders h (by simp)

@[simp] theorem apartHouse_dropRequest (g : HouseId) : (dropRequest g s).apartHouse h = s.apartHouse h :=
  apartHouse_of_apartOrders h (by simp)

theorem apartHouse_onlyIf (b : Bool) (f : State → State) (hf : ∀ t, (f t).apartHouse h = t.apartHouse h) :
    (onlyIf b f s).apartHouse h = s.apartHouse h := by
  unfold onlyIf; split
  · exact hf s
  · rfl

@[simp] theorem apartHouse_setWait (k : WaitKind) (m : Option Second) :
    (setWait h k m s).apartHouse h = s.apartHouse h := apartHouse_modHouse s h _ ⟨rfl, rfl⟩

@[simp] theorem apartHouse_waitStagger : (waitStagger h s).apartHouse h = s.apartHouse h := apartHouse_setWait ..

@[simp] theorem apartHouse_countPumps : (countPumps h s).apartHouse h = s.apartHouse h :=
  apartHouse_modHouse s h _ ⟨rfl, rfl⟩

@[simp] theorem apartHouse_judgeSuction : (judgeSuction h s).apartHouse h = s.apartHouse h := by
  unfold judgeSuction
  dsimp only
  repeat' split
  all_goals first
    | rfl
    | simp only [apartHouse_raise, apartHouse_clear]; exact apartHouse_modHouse s h _ ⟨rfl, rfl⟩
    | exact apartHouse_modHouse s h _ ⟨rfl, rfl⟩

@[simp] theorem apartHouse_judgeOverflow : (judgeOverflow h s).apartHouse h = s.apartHouse h := by
  unfold judgeOverflow
  dsimp only
  repeat' split
  all_goals first
    | simp only [apartHouse_raise, apartHouse_clear]; exact apartHouse_modHouse s h _ ⟨rfl, rfl⟩
    | exact apartHouse_modHouse s h _ ⟨rfl, rfl⟩

@[simp] theorem apartHouse_judge : (judge h s).apartHouse h = s.apartHouse h := by
  unfold judge judgeProtection
  rw [apartHouse_modHouse _ _ _ ⟨rfl, rfl⟩, apartHouse_judgeOverflow, apartHouse_judgeSuction, apartHouse_countPumps]

@[simp] theorem apartHouse_dropStart : (dropStart h s).apartHouse h = s.apartHouse h := by
  unfold dropStart
  rw [apartHouse_modHouse _ _ _ ⟨rfl, rfl⟩, apartHouse_dropRequest]

theorem apartHouse_withdrawFlight {k : Ctx} (hk : k.Keeps) : (withdrawFlight k h s).apartHouse h = s.apartHouse h := by
  unfold withdrawFlight
  split
  · rfl
  · rfl
  · simp
  · exact apartHouse_of_apartOrders h (apartOrders_withdrawStart s hk _)

theorem apartOrders_stopAll {k : Ctx} (hk : k.Keeps) (ps : List PumpId) :
    (ps.foldl (fun u p => stopRequest k p u) s).apartOrders = s.apartOrders :=
  apartOrders_foldl s _ (fun t p => apartOrders_stopRequest t hk p) ps

theorem apartHouse_protect {k : Ctx} (hk : k.Keeps) : (protect k h s).apartHouse h = s.apartHouse h := by
  unfold protect
  dsimp only
  rw [apartHouse_withdrawFlight _ _ hk, apartHouse_of_apartOrders h (apartOrders_stopAll _ hk _)]
  exact apartHouse_modHouse s h _ ⟨rfl, rfl⟩

theorem enterOn_keeps (e : PlanEntry) (n : Second) (x : House) :
    (enterOn e n x).mode = x.mode ∧ (enterOn e n x).lastStartTx = x.lastStartTx := by
  unfold enterOn; split <;> exact ⟨rfl, rfl⟩

theorem phaseExpired_keeps (e : PlanEntry) (n : Second) (x : House) :
    (phaseExpired e n x).mode = x.mode ∧ (phaseExpired e n x).lastStartTx = x.lastStartTx := by
  unfold phaseExpired
  split
  · exact ⟨rfl, rfl⟩
  · exact ⟨rfl, rfl⟩
  · exact enterOn_keeps e n x

@[simp] theorem apartHouse_expirePhase : (expirePhase h s).apartHouse h = s.apartHouse h := by
  unfold expirePhase
  rw [apartHouse_mark]
  exact apartHouse_modHouse s h _ (phaseExpired_keeps ..)

@[simp] theorem apartHouse_passPhase : (passPhase h s).apartHouse h = s.apartHouse h := by
  unfold passPhase
  rw [apartHouse_onlyIf _ _ _ _ (fun t => apartHouse_expirePhase t h), apartHouse_expirePhase]

@[simp] theorem apartHouse_judgePhase : (judgePhase h s).apartHouse h = s.apartHouse h := by
  unfold judgePhase judgeFallback
  dsimp only
  repeat' split
  · exact apartHouse_modHouse s h _ ⟨rfl, rfl⟩
  · exact apartHouse_modHouse s h _ (enterOn_keeps ..)
  · exact apartHouse_modHouse s h _ (enterOn_keeps ..)
  · exact apartHouse_passPhase s h
  · exact apartHouse_modHouse s h _ ⟨rfl, rfl⟩

@[simp] theorem apartHouse_setDemand : (setDemand h s).apartHouse h = s.apartHouse h := by
  unfold setDemand setNeed setTarget
  rw [apartHouse_modHouse _ _ _ ⟨rfl, rfl⟩, apartHouse_modHouse _ _ _ ⟨rfl, rfl⟩, apartHouse_judgePhase]

theorem apartHouse_requestStart {k : Ctx} (hk : k.Keeps) (p : PumpId) (u : Urgency) :
    (requestStart k h p u s).apartHouse h = s.apartHouse h := by
  unfold requestStart
  rw [apartHouse_of_apartOrders h (apartOrders_placeRequest _ hk h p u)]
  exact apartHouse_modHouse s h _ ⟨rfl, rfl⟩

@[simp] theorem apartHouse_readEligible : (readEligible h s).apartHouse h = s.apartHouse h := apartHouse_accrueAll ..

@[simp] theorem apartHouse_readRunners : (readRunners h s).apartHouse h = s.apartHouse h := apartHouse_accrueAll ..

theorem apartHouse_requestBest {k : Ctx} (hk : k.Keeps) : (requestBest k h s).apartHouse h = s.apartHouse h := by
  unfold requestBest
  dsimp only
  split
  · rw [apartHouse_requestStart _ _ hk, apartHouse_readEligible]
  · rw [apartHouse_modHouse _ _ _ ⟨rfl, rfl⟩, apartHouse_onlyIf _ _ _ _ (fun t => apartHouse_dropRequest t h h),
      apartHouse_readEligible]

theorem apartHouse_decideStart {k : Ctx} (hk : k.Keeps) : (decideStart k h s).apartHouse h = s.apartHouse h := by
  unfold decideStart
  dsimp only
  repeat' split
  · rfl
  · exact apartHouse_requestBest s h hk
  · simp
  · rw [apartHouse_requestBest _ _ hk]; exact apartHouse_modHouse s h _ ⟨rfl, rfl⟩
  · rfl
  · rfl

theorem apartHouse_stopRequest {k : Ctx} (hk : k.Keeps) (p : PumpId) :
    (stopRequest k p s).apartHouse h = s.apartHouse h := apartHouse_of_apartOrders h (apartOrders_stopRequest s hk p)

theorem apartHouse_undoStart {k : Ctx} (hk : k.Keeps) (p : PumpId) : (undoStart k p s).apartHouse h = s.apartHouse h :=
  apartHouse_of_apartOrders h (apartOrders_undoStart s hk p)

theorem apartHouse_decideStop {k : Ctx} (hk : k.Keeps) (n : Nat) (ex : List PumpId) :
    (decideStop k h n ex s).1.apartHouse h = s.apartHouse h := by
  unfold decideStop
  dsimp only
  repeat' split
  · exact apartHouse_stopRequest s h hk _
  all_goals first
    | (simp only [apartHouse_stopRequest _ _ hk, apartHouse_readRunners]; done)
    | simp

theorem apartHouse_decideWithdraw {k : Ctx} (hk : k.Keeps) :
    (decideWithdraw k h s).1.apartHouse h = s.apartHouse h := by
  cases hst : (s.house h).start with
  | none => simp only [decideWithdraw, hst]
  | transmitted p => simp only [decideWithdraw, hst]
  | requested p =>
    simp only [decideWithdraw, hst]
    by_cases hc : (s.house h).target ≤ (s.house h).commanded
    · simp only [if_pos hc, apartHouse_dropStart]
    · simp only [if_neg hc]
  | granted p =>
    simp only [decideWithdraw, hst]
    by_cases hc : ((s.house h).target < (s.house h).commanded ∨ (s.pump p).service = .withdrawn)
        ∧ (s.pump p).run = .startOrdered ∧ (s.pump p).order = .queued
    · simp only [if_pos hc, apartHouse_undoStart s h hk p]
    · simp only [if_neg hc]

theorem apartHouse_stepApart {k : Ctx} (hk : k.Keeps) (n : Nat) (ex : List PumpId) :
    (stepApart k h n ex s).1.apartHouse h = s.apartHouse h := by
  have hw := apartHouse_decideWithdraw s h hk
  unfold stepApart
  split
  · next t _ e => rw [e] at hw; exact hw
  · next t w e =>
    rw [e] at hw
    have hs := apartHouse_decideStop t h hk n ex
    split
    · next u e2 => rw [e2] at hs; exact hs.trans hw
    · next u e2 => rw [e2] at hs; exact hs.trans hw
    · next u e2 =>
      rw [e2] at hs
      dsimp only
      split
      · exact hs.trans hw
      · exact (apartHouse_decideStart u h hk).trans (hs.trans hw)

theorem apartHouse_stepOutside {k : Ctx} (hk : k.Keeps) : (stepOutside k h s).1.apartHouse h = s.apartHouse h :=
  apartHouse_stepApart s h hk _ _

@[simp] theorem apartHouse_endChange (m : Option Second) : (endChange h m s).apartHouse h = s.apartHouse h :=
  apartHouse_modHouse s h _ ⟨rfl, rfl⟩

theorem apartHouse_stopInChange {k : Ctx} (hk : k.Keeps) (old new : PumpId) :
    (stopInChange k h old new s).1.apartHouse h = s.apartHouse h :=
  apartHouse_decideStop s h hk (s.changeCount h old new) [old, new]

@[simp] theorem apartHouse_readChoice (old : PumpId) : (readChoice h old s).apartHouse h = s.apartHouse h := by
  simp [readChoice]

theorem apartHouse_rechoose {k : Ctx} (hk : k.Keeps) (old : PumpId) :
    (rechoose k h old s).1.apartHouse h = s.apartHouse h := by
  unfold rechoose
  dsimp only
  split
  · rw [apartHouse_requestStart _ _ hk, apartHouse_modHouse _ _ _ ⟨rfl, rfl⟩, apartHouse_readChoice]
  · rw [apartHouse_stepOutside _ _ hk]; simp

theorem apartHouse_changeFalls {k : Ctx} (hk : k.Keeps) (old new : PumpId) :
    (changeFalls k h old new s).1.apartHouse h = s.apartHouse h := by
  unfold changeFalls
  repeat' split
  · rw [apartHouse_stepOutside _ _ hk]; simp
  · dsimp only; rw [apartHouse_undoStart _ _ hk]; simp
  all_goals exact apartHouse_stopInChange s h hk old new

theorem apartHouse_changeDemand {k : Ctx} (hk : k.Keeps) (old new : PumpId) :
    (changeDemand k h old new s).1.apartHouse h = s.apartHouse h := by
  unfold changeDemand
  dsimp only
  repeat' split
  · rw [apartHouse_stepOutside _ _ hk]; simp
  · exact apartHouse_changeFalls s h hk old new
  · exact apartHouse_rechoose s h hk old
  all_goals rfl

theorem apartHouse_outsideAfter {k : Ctx} (hk : k.Keeps) (m : Option Second) :
    (stepOutside k h (endChange h m s)).1.apartHouse h = s.apartHouse h := by
  rw [apartHouse_stepOutside _ _ hk, apartHouse_endChange]

theorem apartHouse_stepStarting {k : Ctx} (hk : k.Keeps) (old new : PumpId) :
    (stepStarting k h old new s).1.apartHouse h = s.apartHouse h := by
  unfold stepStarting changeFailed changeConfirmed changeWithdrawn
  dsimp only
  split
  · exact apartHouse_outsideAfter s h hk _
  · split
    · split
      · dsimp only
        rw [apartHouse_undoStart _ _ hk, apartHouse_endChange]
      · exact apartHouse_changeDemand s h hk _ _
    · split
      · split
        · rw [apartHouse_stepApart _ _ hk, apartHouse_endChange]
        · dsimp only
          rw [apartHouse_modHouse _ _ _ ⟨rfl, rfl⟩, apartHouse_stopRequest _ _ hk]
      · exact apartHouse_outsideAfter s h hk _
    · split
      · exact apartHouse_outsideAfter s h hk _
      · exact apartHouse_changeDemand s h hk _ _
    all_goals exact apartHouse_changeDemand s h hk _ _

theorem apartHouse_stepStopping {k : Ctx} (hk : k.Keeps) (old new : PumpId) :
    (stepStopping k h old new s).1.apartHouse h = s.apartHouse h := by
  unfold stepStopping
  split
  · dsimp only
    rw [apartHouse_setWait, apartHouse_stopInChange _ _ hk]
  · exact apartHouse_outsideAfter s h hk _

theorem apartHouse_stepSix {k : Ctx} (hk : k.Keeps) : (stepSix k h s).1.apartHouse h = s.apartHouse h := by
  unfold stepSix
  split
  · exact apartHouse_stepOutside s h hk
  · exact apartHouse_stepStarting s h hk _ _
  · exact apartHouse_stepStopping s h hk _ _

theorem apartHouse_rotation {k : Ctx} (hk : k.Keeps) : (rotation k h s).apartHouse h = s.apartHouse h := by
  unfold rotation rotationTest
  dsimp only
  repeat' split
  all_goals first
    | rfl
    | exact apartHouse_modHouse s h _ ⟨rfl, rfl⟩
    | (rw [apartHouse_modHouse _ _ _ ⟨rfl, rfl⟩, apartHouse_readChoice]; exact apartHouse_modHouse s h _ ⟨rfl, rfl⟩)
    | (rw [apartHouse_requestStart _ _ hk, apartHouse_modHouse _ _ _ ⟨rfl, rfl⟩, apartHouse_readChoice]
       exact apartHouse_modHouse s h _ ⟨rfl, rfl⟩)
    | (rw [apartHouse_waitStagger, apartHouse_readChoice]; exact apartHouse_modHouse s h _ ⟨rfl, rfl⟩)

@[simp] theorem apartHouse_setShort (b : Bool) : (setShort h b s).apartHouse h = s.apartHouse h := by
  unfold setShort
  dsimp only
  repeat' split
  all_goals first
    | simp only [apartHouse_raise, apartHouse_clear]; exact apartHouse_modHouse s h _ ⟨rfl, rfl⟩
    | exact apartHouse_modHouse s h _ ⟨rfl, rfl⟩

@[simp] theorem apartHouse_testShort : (testShort h s).apartHouse h = s.apartHouse h := apartHouse_setShort ..

@[simp] theorem apartHouse_timeRotation : (timeRotation h s).apartHouse h = s.apartHouse h :=
  apartHouse_modHouse s h _ ⟨rfl, rfl⟩

@[simp] theorem apartHouse_timeStagger : (timeStagger h s).apartHouse h = s.apartHouse h :=
  apartHouse_modHouse s h _ ⟨rfl, rfl⟩

theorem apartHouse_steps {k : Ctx} (hk : k.Keeps) : (steps k h s).apartHouse h = s.apartHouse h := by
  have hs := apartHouse_stepSix s h hk
  unfold steps
  split
  · next t e => rw [e] at hs; exact hs
  · next t e => rw [e] at hs; rw [apartHouse_testShort]; exact hs
  · next t e => rw [e] at hs; rw [apartHouse_testShort, apartHouse_rotation _ _ hk]; exact hs

/-- An evaluation of a house keeps everything but the orders and the house's own record. -/
theorem apartHouse_evaluate {k : Ctx} (hk : k.Keeps) : (evaluate k h s).apartHouse h = s.apartHouse h := by
  unfold evaluate
  dsimp only
  rw [apartHouse_timeStagger, apartHouse_timeRotation]
  split
  · rw [apartHouse_setShort, apartHouse_setDemand, apartHouse_protect _ _ hk, apartHouse_judge]
  · rw [apartHouse_steps _ _ hk, apartHouse_setWait, apartHouse_setDemand, apartHouse_judge]

theorem apartHouse_takeMark {k : Ctx} (hk : k.Keeps) : (takeMark k h s).apartHouse h = s.apartHouse h := by
  unfold takeMark; split
  · exact apartHouse_evaluate s h hk
  · rfl

theorem apartHouses_takeMark {k : Ctx} (hk : k.Keeps) : (takeMark k h s).apartHouses = s.apartHouses :=
  apartHouses_of_apartHouse h (apartHouse_takeMark s h hk)

theorem apartHouses_evaluateEach {k : Ctx} (hk : k.Keeps) (hs : List HouseId) :
    (hs.foldl (fun t g => takeMark k g t) s).apartHouses = s.apartHouses := by
  induction hs generalizing s with
  | nil => rfl
  | cons g rest ih => rw [List.foldl_cons, ih, apartHouses_takeMark _ _ hk]

/-- The hand-over of a latch keeps everything but the orders and the house records. -/
theorem apartHouses_handLatch {k : Ctx} (hk : k.Keeps) : (handLatch k s).apartHouses = s.apartHouses := by
  unfold handLatch
  rw [apartHouses_of_apartOrders (apartOrders_arbiterLatch _ hk)]
  split
  · exact apartHouses_evaluateEach s hk _
  · rfl

theorem apartHouses_latch {k : Ctx} (hk : k.Keeps) (c : Option CalId) (e : LatchCause) :
    (latch k c e s).apartHouses = (setPeriod c e s).apartHouses := apartHouses_handLatch _ hk

end

end Sys2Proof.Machine
end

