-- ==== Sys2Proof/Tests/Slice0.lean ====
section
/-! SUPPORT. Tests: each check of well-formedness refuses an ill-formed command; commands against the worked examples and
tables of the spec; and for each statement with hypotheses a state and operands that meet them, clause by clause. -/

namespace Sys2Proof.Tests

open Sys2Proof.Machine

/-! ### A small network -/

/-- Two tanks, two houses and three pumps: house 0 fills reservoir 0, whose conversion is the example's of section 2.2, and
house 1 lifts from it to reservoir 1. -/
def net : Tables :=
  let t := Tables.cleared
  let low : BandEntry := ⟨400, 0, 0, 0, 560, 40⟩
  let high : BandEntry := ⟨300, 0, 0, 0, 360, 40⟩
  { t with
    reservoir := (t.reservoir.set 0 ⟨50, 0, 600, 20, 640, 100, 4000, 30, 1250, 50, 590, 80, 20, 900, 1800, 10⟩).set 1
      ⟨50, 1, 400, 0, 400, 100, 4000, 0, 1000, 30, 390, 80, 20, 900, 1800, 10⟩
    house := (t.house.set 0 ⟨33, none, 0, 1, 120⟩).set 1 ⟨34, some 0, 1, 1, 60⟩
    pump := ((t.pump.set 0 ⟨some 0, 0, 40, 90, 900, 300, 3⟩).set 1 ⟨some 0, 1, 30, 75, 900, 300, 3⟩).set 2
      ⟨some 1, 0, 25, 50, 600, 300, 4⟩
    site := ⟨600, 500, 40, 30, 900, 300, 900, 3600, 30, 60, 1, 1, 60⟩
    band := (((((t.band.set 0 low).set 1 low).set 2 low).set 3 high).set 4 high).set 5 high
    draw := t.draw.set 0 ⟨8, 8, 8⟩
    calendar := t.calendar.set 0 ⟨some 360, .peak, 400⟩
    plan := t.plan.set 0 ⟨600, 600, 3600⟩ }

/-- The network in STANDBY at second 5000, its three pumps STOPPED. -/
def standby : State :=
  { State.reset with
    engine := .standby
    storeTx := .idle
    tables := net
    levelMap := levelMapOf net
    pumpMap := pumpMapOf net
    now := 5000
    pumps := ((State.reset.pumps.set 0 (.fresh .stopped 0 .inService)).set 1 (.fresh .stopped 0 .inService)).set 2
      (.fresh .stopped 0 .inService) }

/-- The network in RUN. -/
def live : State :=
  { standby with engine := .run, period := ⟨.standard, 500, none, 0, .powerUp⟩, arbiter := { Arbiter.fresh with window := .isOpen } }

/-- The state after a command. -/
def after (c : Instr) (s : State) : State :=
  match exec c s with
  | .next t => t
  | .fault _ => s
  | .refused _ => s

def afterAll (cs : List Instr) (s : State) : State := cs.foldl (fun t c => after c t) s

/-- The live network with pump 0 changed. -/
def pump0 (f : Pump → Pump) : State := modPump 0 f live

/-- The live network with house 0 changed. -/
def house0 (f : House → House) : State := modHouse 0 f live

/-- The live network with reservoir 0 changed. -/
def tank0 (f : Reservoir → Reservoir) : State := modRes 0 f live

/-- The live network with one entry in the alarm list. -/
def alarmed (e : AlarmEntry) : State := { live with alarms := { Alarms.fresh with entries := [e] } }

def entryOf (k : AlarmKind) (a : AlarmState) : AlarmEntry := ⟨k, 0, a, .unset 7, .none, some 3, 0⟩

/-- Twenty-four entries of one state for the reservoirs. -/
def fullList (a : AlarmState) : List AlarmEntry :=
  (List.range 16).map (fun o => ⟨.levelLost, o, a, .unset 0, .none, none, 0⟩)
    ++ (List.range 8).map fun o => ⟨.levelSensor, o, a, .unset 0, .none, none, 0⟩

/-- The bytes of a frame from the supervisory master to the part. -/
def requestBytes (records : List Byte) : List Byte := frameBytes 100 1 0x10 records

/-! ### Well-formedness -/

theorem test_wellFormed_badLength : (Instr.badLengthByte .field 3).wellFormed = false := by decide

theorem test_wellFormed_malformed : (Instr.mgmtRequestMalformed (List.replicate 121 0)).wellFormed = false := by
  decide

theorem test_wellFormed_writeTable : (Instr.writeTable 0 0 8 (List.replicate 116 0)).wellFormed = false := by
  decide

theorem test_wellFormed_ackAll : (Instr.alarmAck 0xFF 0).wellFormed = false := by decide

theorem test_wellFormed_edges : (Instr.badLengthByte .field 2).wellFormed = true
    ∧ (Instr.badLengthByte .field 124).wellFormed = true
    ∧ (Instr.mgmtRequestMalformed (List.replicate 120 0)).wellFormed = true
    ∧ (Instr.writeTable 0 0 3 (List.replicate 96 0)).wellFormed = true := by decide +kernel

/-! ### Commands against the spec's examples and tables -/

/-- The conversion example of section 2.2: counts 2048 and 4000 give 340 and 600. -/
theorem test_frameArrival_conversion : ((levelRecord 0 2048 false live).res 0).level = 340
    ∧ ((levelRecord 0 4000 false live).res 0).level = 600 := by decide

/-- The same example: 4001 and 4200 are FAULT_ABOVE, 60 and a set flag FAULT_BELOW. -/
theorem test_frameArrival_invalid : ((levelRecord 0 4001 false live).res 0).sensor = .faultAbove
    ∧ ((levelRecord 0 60 false live).res 0).sensor = .faultBelow
    ∧ ((levelRecord 0 2048 true live).res 0).sensor = .faultBelow := by decide

/-- The step check example of section 2.3, from level 347: 460 and 500 are held, and 510 is a confirmed jump. The counts
are those that convert to these levels. -/
theorem test_frameArrival_stepCheck :
    let s0 := tank0 fun x => { x with source := .live, level := 347 }
    let s1 := levelRecord 0 2816 false s0
    let s2 := levelRecord 0 3072 false s1
    ((s1.res 0).level, (s1.res 0).pending) = (347, some 460) ∧ ((s2.res 0).level, (s2.res 0).pending) = (347, some 500)
      ∧ ((levelRecord 0 3136 false s2).res 0).level = 510 := by decide

/-- A whole request frame by its bytes: RELATCH answered OK (R161, R165, R166, R176). -/
theorem test_receivedByte_request :
    (afterAll ((requestBytes [0x4A, 0]).map (Instr.receivedByte .supervisory)) standby).sup.tx
      = some (.response ⟨1, 100, 0x4A, .ok, .none⟩) := by decide

/-- R161 by hand: C3h, LENGTH 5, DEST 64h, SRC 01h, KIND 10h, RELATCH 4Ah 00h, and the CHECK that makes the sum 100h. -/
theorem test_frame_bytes : requestBytes [0x4A, 0] = [0xC3, 0x05, 0x64, 0x01, 0x10, 0x4A, 0x00, 0x3C] := by decide

/-- The frame of section 10.6, whose CHECK is 68h. -/
theorem test_frame_check : frameBytes 1 0x34 0x01 [0x20, 4, 0, 8, 0, 0, 0x21, 4, 1, 1, 0, 0]
    = [0xC3, 0x0F, 1, 0x34, 1, 0x20, 4, 0, 8, 0, 0, 0x21, 4, 1, 1, 0, 0, 0x68] := by decide

/-- R165: a LENGTH of 3 enters BODY, and one of 124 is dropped and counted. -/
theorem test_receivedByte_length :
    (afterAll [.receivedByte .field 0xC3, .receivedByte .field 3] standby).field.rx = .body
      ∧ (afterAll [.receivedByte .field 0xC3, .receivedByte .field 124] standby).field.counters.lengthDrop = 1 := by
  decide

/-- R18, R25, R46: power-up begins the restore; the own address is the strap's. -/
theorem test_powerUp : (after (.powerUp 7 1 2) live).storeTx = .restoring 0 ∧ (after (.powerUp 7 1 2) live).ownAddr = 7
    ∧ (after (.powerUp 7 1 2) live).engine = .startup := by decide

/-- The consistency check passes the network, and the example of section 1.9: a BAND entry with s2 above s1 fails. -/
theorem test_engineStart_check : net.firstFailure 100 = none
    ∧ ({ net with band := net.band.set 5 ⟨300, 310, 0, 0, 360, 40⟩ } : Tables).firstFailure 100 = some ⟨4, 5⟩ := by
  decide

/-- ENGINE START at second 5,000 as in section 1.9: a running REMOTE pump is adopted, with run_start 5,000 and no history
entry; one in HAND is not. -/
theorem test_engineStart_adopts :
    let s := modPump 1 (fun q => { q with run := .running, panel := some .hand })
      (modPump 0 (fun q => { q with run := .running, panel := some .remote }) standby)
    let t := after .engineStart s
    t.engine = .run ∧ (t.pump 0).commanded = true ∧ (t.pump 0).runStart = 5000 ∧ (t.pump 0).history = []
      ∧ (t.pump 1).commanded = false := by decide +kernel

/-- R66: the day follows at the end of second 86399. -/
theorem test_engineSecondAdvance :
    (after .engineSecondAdvance { live with timeSet := true, sod := 86399, day := 9 }).sod = 0
      ∧ (after .engineSecondAdvance { live with timeSet := true, sod := 86399, day := 9 }).day = 10
      ∧ (after .engineSecondAdvance { live with now := 0xFFFFFFFF }).now = 0 := by decide

/-- R68, R70, R71: 06:00 reaches the entry of minute 360. -/
theorem test_setTime : ((after (.setTime 3 21600) live).period.cls, (after (.setTime 3 21600) live).period.source)
    = (.peak, some 0) := by decide

/-- Section 2.7, step 18: 40 l/s in, 25 l/s out and a draw of 8 l/s over 10 s bring 1190 litres to 1260, one centimetre of
1250 litres and a residue of 10. -/
theorem test_estimateStep :
    let s := modPump 2 (fun q => { q with run := .running }) (modPump 0 (fun q => { q with run := .running })
      (tank0 fun x => { x with source := .estimated, level := 340, stepMark := 4990, residue := 1190 }))
    ((after (.estimateStep 0) s).res 0).level = 341 ∧ ((after (.estimateStep 0) s).res 0).residue = 10 := by
  decide

/-- Section 2.7, a falling level: -1260 litres truncated toward zero give one centimetre less and a residue of -10. -/
theorem test_estimateStep_falling :
    let s := modPump 2 (fun q => { q with run := .running }) (modPump 1 (fun q => { q with run := .running })
      (tank0 fun x => { x with source := .estimated, level := 341, stepMark := 4990, residue := -1230 }))
    ((after (.estimateStep 0) s).res 0).level = 340 ∧ ((after (.estimateStep 0) s).res 0).residue = -10 := by
  decide

/-- R51, R60: the completion of the frame that carries a start enters the history at its second. -/
theorem test_transmitCompletion :
    let e : DispEntry := ⟨0, 33, .orders, #v[.run, .stop, .localControl, .localControl], 900,
      #v[true, false, false, false], .replicate 4 false, 5000⟩
    let s := { pump0 fun q => { q with run := .startOrdered, order := .taken } with
      dispatcher := { Dispatcher.fresh with inTx := some e }, field := { live.field with tx := some (.dispatch 100 e) } }
    ((after (.transmitCompletion .field) s).pump 0).history = [5000]
      ∧ ((after (.transmitCompletion .field) s).pump 0).order = .transmitted := by decide +kernel

/-- R52: a start not confirmed in REMOTE is FAILED with START_FAIL, whose value is the power of the pump. -/
theorem test_startConfirmExpiry :
    let s := pump0 fun q => { q with
      run := .startOrdered, order := .transmitted, confirmMark := some 4970, panel := some .remote }
    ((after (.startConfirmExpiry 0) s).pump 0).service = .failed
      ∧ (after (.startConfirmExpiry 0) s).alarms.entries.map (fun e => (e.kind, e.value)) = [(.startFail, some 90)] := by
  decide +kernel

/-- R164, R178: READ TABLE of HOUSE 0 answers its five words. -/
theorem test_readTable : (after (.readTable 1 0 1) standby).sup.tx
    = some (.response ⟨1, 100, 0x40, .ok, .entries 1 0 [[33, 65535, 0, 1, 120]]⟩) := by decide

/-- R183, R184: what SAVE writes is restored, byte for byte; a checksum that fails leaves the table cleared. -/
theorem test_restoreImageRead :
    let saved := afterAll (.save :: List.replicate 9 .storeImageWritten) standby
    let up := afterAll (.powerUp 100 0 0 :: List.replicate 9 (.restoreImageRead .held)) saved
    saved.lastSave = some .ok ∧ up.tables = net ∧ up.engine = .standby ∧ up.autoStart = .pending := by decide +kernel

/-! ### The hypotheses of the statements are met -/

theorem serves_live : live.serves := by
  unfold State.serves
  decide

theorem serves_standby : standby.serves := by
  unfold State.serves
  decide

/-- A state with one command that changes nothing waiting. -/
def waiting : State := { live with pending := [.gapExpiry .field] }

theorem waiting_step : step waiting = .next live := rfl

theorem waiting_bounded : waiting.Bounded where
  responses := by decide
  alarms := ⟨by decide, by decide +kernel, by decide +kernel, by decide +kernel⟩
  requests := by decide
  dispatcher := ⟨by decide, by simp [waiting, live, standby, State.reset, Dispatcher.fresh],
    by simp [waiting, live, standby, State.reset, Dispatcher.fresh]⟩
  field := ⟨by decide, by decide +kernel, ⟨by decide +kernel, by decide +kernel, by decide +kernel,
    by decide, by decide +kernel, by decide +kernel⟩⟩
  sup := ⟨by decide, by decide +kernel, ⟨by decide +kernel, by decide +kernel, by decide +kernel,
    by decide, by decide +kernel, by decide +kernel⟩⟩

theorem waiting_assembled : waiting.Assembled := ⟨rfl, rfl⟩

theorem witness_StepTakesFront : waiting.pending = [.gapExpiry .field] ∧ live.pending = [] := ⟨rfl, rfl⟩

theorem witness_OwnersAlone : ∃ c s t, exec c s = .next t ∧ (∀ a f r, c ≠ .powerUp a f r) ∧ c ≠ .storeImageWritten
    ∧ c ≠ .storeFault ∧ mayCarryRequest c = false ∧ (∀ b i n e, c ≠ .writeTable b i n e)
    ∧ (∀ r, c ≠ .restoreImageRead r) ∧ (∀ d x, c ≠ .setTime d x) ∧ c ≠ .engineSecondAdvance
    ∧ ∀ h m, c ≠ .houseMode h m :=
  ⟨.gapExpiry .field, live, live, rfl, by simp, by simp, by simp, rfl, by simp, by simp, by simp, by simp, by simp⟩

theorem waiting_pumpsBounded : waiting.PumpsBounded where
  seconds := by decide +kernel
  restoring := by simp [waiting, live, standby]
  histories := fun _ => by decide +kernel

theorem witness_BoundsKept : ∃ s t : State, s.Bounded ∧ s.PumpsBounded ∧ step s = .next t :=
  ⟨waiting, live, waiting_bounded, waiting_pumpsBounded, waiting_step⟩

theorem witness_AssemblyKept : ∃ s t : State, s.Assembled ∧ step s = .next t :=
  ⟨waiting, live, waiting_assembled, waiting_step⟩

/-- R166 and its LENGTH clause at 2 and 124. -/
theorem witness_FrameJudged :
    ({ live with field := { live.field with rx := .check } }.port .field).rx = .check
      ∧ ({ live with field := { live.field with rx := .length } }.port .field).rx = .length
      ∧ (2 : Byte).toNat < 3 ∧ 123 < (124 : Byte).toNat := by decide

/-- No record at all, and one record of 118 bytes, the most a frame carries. -/
theorem witness_FramesReceived :
    walkRecords [] = some [] ∧ (live.port .field).rx = .hunt
      ∧ (recordBytes 0x20 (List.replicate 118 0)).length ≤ 120
      ∧ walkRecords (recordBytes 0x20 (List.replicate 118 0)) = some [⟨0x20, List.replicate 118 0⟩] := by decide

/-- A live network whose supervisory port holds `n` forwarded frames. -/
def forwarding (n : Nat) (tx : Option TxFrame) : State :=
  { live with sup := { live.sup with fwd := List.replicate n [1], tx := tx } }

theorem witness_ForwardQueue :
    8 ≤ ((forwarding 8 none).port (otherPort .field)).fwd.length
      ∧ ((forwarding 7 (some (.forwarded []))).port (otherPort .field)).fwd.length < 8
      ∧ ((forwarding 7 (some (.forwarded []))).port (otherPort .field)).tx ≠ none
      ∧ ((forwarding 0 none).port (otherPort .field)).fwd = [] ∧ ((forwarding 0 none).port (otherPort .field)).tx = none
      ∧ (forwarding 0 none).dispatcher.queue = [] ∧ (forwarding 0 none).responses = []
      ∧ (forwarding 0 none).alarms.notices = [] := by decide

/-- An ORDERS entry of a house. -/
def ordersEntry (h : HouseId) (o : Order) : DispEntry :=
  ⟨h, 34, .orders, #v[o, .localControl, .localControl, .localControl], 900, .replicate 4 false, .replicate 4 false, 5000⟩

/-- The field port idle with these entries and forwarded frames waiting, at a run count. -/
def fieldWith (q : List DispEntry) (f : List (List Byte)) (n : Nat) : State :=
  { live with dispatcher := { Dispatcher.fresh with queue := q }, field := { live.field with fwd := f, runCount := n } }

theorem witness_FieldArbiter :
    (fieldWith [] [] 0).field.tx = none ∧ (fieldWith [] [] 0).dispatcher.queue = [] ∧ (fieldWith [] [] 0).field.fwd = []
      ∧ (fieldWith [ordersEntry 1 .stop] [] 0).dispatcher.queue = [ordersEntry 1 .stop]
      ∧ (fieldWith [] [[1]] 0).field.fwd = [[1]]
      ∧ (fieldWith [ordersEntry 1 .stop] [[1]] 2).field.runCount < 3
      ∧ 3 ≤ (fieldWith [ordersEntry 1 .stop] [[1]] 3).field.runCount := by decide

/-- House 0's first pump START_ORDERED and its second STOP_ORDERED, both QUEUED, and the entry that carries them. -/
def ordered : State :=
  modPump 1 (fun q => { q with run := .stopOrdered, order := .queued })
    (modPump 0 (fun q => { q with run := .startOrdered, order := .queued }) live)

def orderedEntry : DispEntry :=
  ⟨0, 33, .orders, ordered.ordersOf 0, 900, ordered.marksOf 0 .startOrdered, ordered.marksOf 0 .stopOrdered, 5000⟩

/-- The take of an entry with marks and of a RELEASE entry, and the slots and placings of R136 and R137. -/
theorem witness_FieldArbiter_take :
    (ordered.suctionGuard 0 = false ∧ orderedEntry.released.kind = .release ∧ (∀ x ∈ ([] : List DispEntry), x.house ≠ 0))
      ∧ (ordered.pumpAt 0 0 = some 0 ∧ (ordered.pump 0).order = .queued ∧ orderedEntry.startMarks.get 0 = true
        ∧ (ordered.pump 0).run = .startOrdered)
      ∧ (ordered.pumpAt 0 1 = some 1 ∧ orderedEntry.stopMarks.get 1 = true ∧ (ordered.pump 1).run = .stopOrdered)
      ∧ ordered.pumpAt 0 2 = none ∧ orderedEntry.orders = #v[.run, .stop, .localControl, .localControl]
      ∧ (live.pump 0).order ≠ .queued ∧ orderedEntry.house = 0 ∧ ordered.dispatcher.queue = []
      ∧ live.dispatcher.lastSent.get 0 ≠ some (live.ordersOf 0)
      ∧ { live with dispatcher := setLastSent 0 (some (live.ordersOf 0)) live |>.dispatcher }.dispatcher.lastSent.get 0
        = some (live.ordersOf 0) ∧ live.marksOf 0 .startOrdered = .replicate 4 false := by decide +kernel

theorem witness_SupervisoryArbiter : (forwarding 1 (some (.forwarded [1]))).sup.tx = some (.forwarded [1])
    ∧ (forwarding 1 none).sup.tx = none := ⟨rfl, rfl⟩

/-- House 1's frame with a start in transmission, its pump START_ORDERED and TAKEN, or not. -/
def completing (run : RunState) : State :=
  let e := { ordersEntry 1 .run with startMarks := #v[true, false, false, false] }
  { modPump 2 (fun q => { q with run := run, order := .taken }) live with
    dispatcher := { Dispatcher.fresh with inTx := some e }
    field := { live.field with tx := some (.dispatch 100 e) } }

theorem witness_DispatchCompleted :
    (completing .startOrdered).dispatcher.inTx
        = some { ordersEntry 1 .run with startMarks := #v[true, false, false, false] }
      ∧ (completing .startOrdered).field.tx
        = some (.dispatch 100 { ordersEntry 1 .run with startMarks := #v[true, false, false, false] })
      ∧ (completing .startOrdered).pumpAt 1 0 = some 2 ∧ ((completing .startOrdered).pump 2).run = .startOrdered
      ∧ ((completing .startOrdered).pump 2).order = .taken
      ∧ ((completing .stopped).pump 2).run ≠ .startOrdered
      ∧ ((modHouse 1 (fun x => { x with start := .granted 2 }) (completing .startOrdered)).house 1).start = .granted 2
      ∧ ((completing .startOrdered).house 1).start ≠ .granted 2 := by decide

/-- The longest data one response carries, and each notice. -/
theorem witness_DispatchFrame :
    (respDataBytes (.entries 2 0 (List.replicate 8 (List.replicate 7 1)))).length = 115
      ∧ (respDataBytes .none).length ≤ 116
      ∧ (⟨1, 100, .alarm .raised .levelLost 0 .activeUnacked (.unset 7) .none none 0 false⟩ : Notice).body
        = .alarm .raised .levelLost 0 .activeUnacked (.unset 7) .none none 0 false
      ∧ (⟨1, 100, .refusal 33 1 0 5000⟩ : Notice).body = .refusal 33 1 0 5000 := by decide

/-- R164, R156 and R147 on written bytes: an OK to RELATCH, a raise of LEVEL_LOST on channel 3 and a consumed COMMAND. -/
theorem test_response_notice_bytes :
    (TxFrame.response ⟨1, 100, 0x4A, .ok, .none⟩).bytes = [0xC3, 7, 1, 100, 0x11, 0x60, 2, 0x4A, 0, 0xD7]
      ∧ ((TxFrame.notice ⟨1, 100, .alarm .raised .levelLost 3 .activeUnacked (.unset 5000) .above none 1 false⟩).bytes).take 22
        = [0xC3, 20, 1, 100, 0x12, 0x62, 15, 0, 2, 3, 0, 1, 0, 0, 0, 0x13, 0x88, 2, 0xFF, 0xFF, 1, 0]
      ∧ ((TxFrame.notice ⟨1, 100, .refusal 33 1 0 5000⟩).bytes).take 12
        = [0xC3, 10, 1, 100, 0x12, 0x61, 5, 33, 1, 0, 0x13, 0x88] := by decide

/-- The same frame with a stop, and its pump STOP_ORDERED and TAKEN. -/
theorem witness_DispatchCompleted_stop :
    let e := { ordersEntry 1 .stop with stopMarks := #v[true, false, false, false] }
    let s := { completing .stopOrdered with dispatcher := { Dispatcher.fresh with inTx := some e } }
    s.dispatcher.inTx = some e ∧ e.stopMarks.get 0 = true ∧ s.pumpAt 1 0 = some 2 ∧ (s.pump 2).run = .stopOrdered
      ∧ (s.pump 2).order = .taken := by decide

/-- House 1 with its suction at its dry-run cutoff, a start of its pump already taken, and its orders waiting. -/
def guarded (x : Reservoir) : State :=
  modRes 0 (fun _ => x) (modPump 2 (fun q => { q with run := .startOrdered, order := .taken })
    (fieldWith [ordersEntry 1 .run] [] 0))

theorem witness_SuctionGuard :
    let low := guarded { live.res 0 with source := .live, level := 80 }
    let lost := guarded { live.res 0 with source := .lost, level := 300 }
    let none_ := guarded { live.res 0 with source := .noData, level := 300 }
    low.field.tx = none ∧ 1 ≤ low.site.grantGap ∧ (fieldTake low).field.tx = some (.dispatch 100 (ordersEntry 1 .run))
      ∧ (ordersEntry 1 .run).kind = .orders ∧ (low.houseE 1).suction = some 0 ∧ (low.res 0).level ≤ (low.resE 0).dryCut
      ∧ (ordersEntry 1 .run).orders.get 0 = .run
      ∧ (fieldTake lost).field.tx = some (.dispatch 100 (ordersEntry 1 .run)) ∧ (lost.res 0).source = .lost
      ∧ (fieldTake none_).field.tx = some (.dispatch 100 (ordersEntry 1 .run)) ∧ (none_.res 0).source = .noData := by
  decide +kernel

/-- A port waiting for the CHECK byte of a frame. -/
def awaiting (p : Port) (frame : List Byte) (s : State) : State :=
  modPort p (fun q => { q with rx := .check, buf := frame.dropLast }) s

theorem witness_TelemetryRecords :
    let level := frameBytes 1 50 1 [0x20, 4, 0, 8, 0, 0]
    let pump := frameBytes 1 33 1 [0x21, 4, 0, 1, 0, 0]
    let other := frameBytes 1 33 1 [0x22, 4, 0, 1, 0, 0]
    [level, pump, other].all (fun f =>
      let s := awaiting .field f live
      let bytes := s.field.buf ++ [f.getLastD 0]
      s.field.rx == .check && byteSum (bytes.drop 1) % 256 == 0 && bytes.getD 4 0 == 0x01) = true
      ∧ walkRecords ((level.drop 5).dropLast) = some [⟨0x20, [0, 8, 0, 0]⟩]
      ∧ walkRecords ((pump.drop 5).dropLast) = some [⟨0x21, [0, 1, 0, 0]⟩]
      ∧ walkRecords ((other.drop 5).dropLast) = some [⟨0x22, [0, 1, 0, 0]⟩]
      ∧ (walkRecords [0x21, 1, 7, 0x20, 4, 0, 8, 0, 0] = some [⟨0x21, [7]⟩, ⟨0x20, [0, 8, 0, 0]⟩] ∧ [(7 : Byte)].length ≠ 4) := by
  decide

/-- R44's codes at their ends, and R55's and R56's rows. -/
theorem witness_TelemetryRecords_pump :
    let s := fun panel run => pump0 fun q => { q with panel := panel, run := run }
    (1 < 2 ∧ 2 < 3 ∧ 1 ≤ 1)
      ∧ [none, some Panel.remote, some .hand, some .off].all (fun m =>
        [RunState.running, .startOrdered, .stopOrdered, .unused, .unknown, .stopped].all fun r =>
          ((s m r).pump 0).panel == m && ((s m r).pump 0).run == r) = true
      ∧ ((pump0 fun q => { q with order := .queued, stopExpired := true, fault := some 0 }).pump 0).order = .queued
      ∧ ((pump0 fun q => { q with order := .queued, stopExpired := true, fault := some 0 }).pump 0).stopExpired = true
      ∧ ((pump0 fun q => { q with fault := some 0 }).pump 0).fault = some 0 ∧ (live.pump 0).fault = none
      ∧ ((pump0 fun q => { q with fault := some 255 }).pump 0).fault = some 255 ∧ (live.pump 0).commanded = false
      ∧ live.engine = .run ∧ (live.pumpE 0).house = some 0 ∧ (live.houseE 0).used = true
      ∧ (live.house 0).mode = .auto ∧ standby.engine ≠ .run := by decide

theorem witness_SupervisoryRouting :
    let ask := requestBytes [0x4A, 0]
    let command := frameBytes 33 1 2 []
    let elsewhere := frameBytes 99 1 2 []
    [ask, command, elsewhere].all (fun f =>
      let s := awaiting .supervisory f live
      let bytes := s.sup.buf ++ [f.getLastD 0]
      s.sup.rx == .check && byteSum (bytes.drop 1) % 256 == 0 && (walkRecords ((bytes.drop 5).dropLast)).isSome) = true
      ∧ (ask.getD 2 0 = live.ownAddr ∧ live.addressValid = true)
      ∧ (live.engine = .run ∧ (live.houseE 0).used = true ∧ (live.house 0).mode = .auto
        ∧ (live.houseE 0).station = (command.getD 2 0).toNat)
      ∧ (∀ g : HouseId, ¬g < 0) ∧ ∀ h : HouseId, (live.houseE h).station ≠ (elsewhere.getD 2 0).toNat := by
  decide

theorem witness_RunFeedback :
    let s := fun r => pump0 fun q => { q with run := r, panel := some .remote }
    [RunState.unknown, .stopped, .startOrdered, .running, .stopOrdered, .unused].all
        (fun r => ((s r).pump 0).run == r && (s r).engine == .run && ((s r).pump 0).panel == some .remote) = true
      ∧ (live.pumpE 0).house = some 0 ∧ (live.houseE 0).used = true ∧ (live.house 0).mode = .auto
      ∧ ((pump0 fun q => { q with panel := some .hand }).pump 0).panel ≠ some .remote
      ∧ ((pump0 fun q => { q with run := .running, commanded := true }).pump 0).commanded = true
      ∧ ((pump0 fun q => { q with run := .running }).pump 0).commanded = false
      ∧ ((house0 fun x => { x with start := .granted 0 }).house 0).start = .granted 0
      ∧ ((house0 fun x => { x with start := .transmitted 0 }).house 0).start = .transmitted 0
      ∧ (live.house 0).start = .none := by decide

theorem witness_StandbyFeedback : standby.engine ≠ .run
    ∧ [RunState.unknown, .stopped, .startOrdered, .running, .stopOrdered].all
      (fun r => ((modPump 0 (fun q => { q with run := r }) standby).pump 0).run == r) = true := by decide

/-- A station heard `n` seconds ago. -/
def heardAgo (n : Nat) : State := modStation 1 (fun _ => ⟨.heard, live.now - BitVec.ofNat 32 n⟩) live

theorem witness_StationSilence :
    let s := modRes 0 (fun x => { x with source := .estimated }) (heardAgo 3600)
    s.engine ≠ .startup ∧ (s.houseE 1).used = true ∧ (s.station 1).state = .heard
      ∧ s.site.stationSilence ≤ (s.now - (s.station 1).lastHeard).toNat
      ∧ (s.resE 0).used = true ∧ (s.res 0).source = .estimated ∧ (s.houseE 1).suction = some 0
      ∧ (s.res 1).source ≠ .estimated ∧ (live.houseE 5).used = false
      ∧ ((modStation 1 (fun _ => ⟨.silent, 0⟩) live).station 1).state = .silent
      ∧ ((heardAgo 3599).now - ((heardAgo 3599).station 1).lastHeard).toNat < (heardAgo 3599).site.stationSilence
      ∧ State.reset.engine = .startup := by
  decide

/-- Pump 0 with a transmitted order whose confirmation has been awaited since second `m`. -/
def confirming (run : RunState) (panel : Panel) (m : Second) : State :=
  pump0 fun q => { q with run := run, order := .transmitted, confirmMark := some m, panel := some panel }

theorem witness_ConfirmExpiries :
    let s := confirming .startOrdered .remote 4970
    let t := confirming .stopOrdered .remote 4940
    ((s.pump 0).order, (s.pump 0).confirmMark) = (.transmitted, some 4970)
      ∧ (s.pump 0).run = .startOrdered ∧ (s.pump 0).held = false ∧ s.site.startConfirm ≤ (s.now - 4970).toNat
      ∧ (s.pump 0).panel = some .remote ∧ ((confirming .startOrdered .hand 4970).pump 0).panel = some .hand
      ∧ ((confirming .startOrdered .off 4970).pump 0).panel = some .off
      ∧ ((modHouse 0 (fun x => { x with start := .transmitted 0 }) s).house 0).start = .transmitted 0
      ∧ ((modHouse 0 (fun x => { x with start := .granted 0 }) s).house 0).start = .granted 0
      ∧ (t.pump 0).run = .stopOrdered ∧ t.site.stopConfirm ≤ (t.now - 4940).toNat
      ∧ ((confirming .stopOrdered .off 4940).pump 0).panel = some .off
      ∧ ((modPump 0 (fun q => { q with held := true }) s).pump 0).held = true
      ∧ ((modPump 0 (fun q => { q with panel := none }) s).pump 0).panel = none := by decide

theorem witness_TimerMarks :
    let a := pump0 fun q => { q with run := .running, commanded := true, runStart := 4100, minRunOpen := true }
    let b := pump0 fun q => { q with stopMark := some 4700, minOffOpen := true, history := [1400, 5000] }
    let c := house0 fun x => { x with staggerAt := some 5000, rotAt := some 5000 }
    let on := house0 fun x => { x with phase := .on, phaseMark := some 4400, phaseLen := 600 }
    let off := house0 fun x => { x with phase := .off, phaseMark := some 4400, phaseLen := 600 }
    let off1 := modHouse 1 (fun x => { x with phase := .off, phaseMark := some 4400, phaseLen := 600 }) live
    let on0 := fun a => modHouse 0 (fun x => { x with phase := .on, phaseMark := some 4400, phaseLen := 600 })
      { live with tables := { net with plan := net.plan.set 0 ⟨a, 0, 3600⟩ } }
    let r := { live with dispatcher := { Dispatcher.fresh with refresh := Dispatcher.fresh.refresh.set 0 (some 4700) } }
    let rt := { r with dispatcher := { r.dispatcher with inTx := some (ordersEntry 0 .stop) } }
    ((a.pumpE 0).house = some 0 ∧ (a.pump 0).run = .running ∧ (a.pump 0).commanded = true ∧ (a.pump 0).minRunOpen = true
        ∧ (a.pumpE 0).minRun ≤ (a.now - (a.pump 0).runStart).toNat)
      ∧ ((b.pump 0).run = .stopped ∧ (b.pump 0).stopMark = some 4700 ∧ (b.pump 0).minOffOpen = true
        ∧ (b.pumpE 0).minOff ≤ (b.now - 4700).toNat ∧ (b.pump 0).history = 1400 :: [5000]
        ∧ 3600 ≤ (b.now - 1400).toNat)
      ∧ ((c.house 0).staggerAt = some c.now ∧ (c.house 0).rotAt = some c.now
        ∧ (live.house 0).rotAt ≠ some live.now ∧ (live.house 0).staggerAt ≠ some live.now)
      ∧ ((live.pump 0).minRunOpen = false ∧ (live.pump 0).minOffOpen = false
        ∧ (a.now - 4101).toNat < (a.pumpE 0).minRun ∧ (b.now - 4701).toNat < (b.pumpE 0).minOff)
      ∧ ((on.house 0).phaseMark = some 4400 ∧ (on.house 0).phaseLen ≤ (on.now - 4400).toNat ∧ (on.house 0).phase = .on)
      ∧ ((off.house 0).phase = .off ∧ 1 ≤ (off.planE 0).fallbackOn ∧ (off1.house 1).phase = .off
        ∧ (off1.planE 1).fallbackOn = 0 ∧ (off1.house 1).phaseLen ≤ (off1.now - 4400).toNat)
      ∧ (1 ≤ (on.planE 0).fallbackOff ∧ ((on0 1).planE 0).fallbackOff = 0 ∧ 1 ≤ ((on0 1).planE 0).fallbackOn
        ∧ ((on0 0).planE 0).fallbackOn = 0 ∧ ((on0 0).house 0).phase = .on)
      ∧ (r.dispatcher.refresh.get 0 = some 4700 ∧ r.site.refresh ≤ (r.now - 4700).toNat ∧ r.dispatcher.queue = []
        ∧ r.dispatcher.inTx = none ∧ rt.dispatcher.inTx = some (ordersEntry 0 .stop)
        ∧ (ordersEntry 0 .stop).house = 0) := by decide

theorem witness_PumpRequests : live.serves ∧ (0 : Byte).toNat = (0 : PumpId).val ∧ (31 : Byte).toNat = (31 : PumpId).val
    ∧ (live.pumpE 31).house = none ∧ (live.pumpE 0).house = some 0 :=
  ⟨serves_live, by decide, by decide +kernel, by decide +kernel, by decide +kernel⟩

/-- R27 at the ends of the window, R29 at step_cm, and a confirmed jump. -/
theorem witness_SampleTaken :
    let e := live.resE 0
    let x := (tank0 fun x => { x with source := .live, level := 310, pending := some 370 }).res 0
    let level := min (e.zero + 2048 * e.span / 4095) e.height
    (99 < e.rawMin ∧ e.rawMax < 4001 ∧ e.rawMin ≤ 100 ∧ 4000 ≤ e.rawMax) ∧ (x.source = .live ∧ e.step ≠ 0)
      ∧ level = 340 ∧ (level - x.level) + (x.level - level) ≤ e.step
      ∧ ¬(level - 309) + (309 - level) ≤ e.step ∧ x.pending = some 370 ∧ (level - 370) + (370 - level) ≤ e.step
      ∧ (live.resE 1).step = 0 ∧ (live.res 0).source ≠ .live := by decide

theorem witness_SilenceLoss :
    let s := fun src (n : Nat) => tank0 fun x => { x with source := src, lastAccept := 5000 - BitVec.ofNat 32 n }
    ((live.resE 0).used = true ∧ live.engine ≠ .startup)
      ∧ (((s .live 900).res 0).source = .live
        ∧ ((s .live 900).resE 0).silence ≤ ((s .live 900).now - ((s .live 900).res 0).lastAccept).toNat)
      ∧ (∀ h, (live.houseE h).used = true → ((live.houseE h).delivery = 0 ∨ (live.houseE h).suction = some 0) →
        (live.station h).state = .heard)
      ∧ ((modStation 0 (fun _ => ⟨.silent, 0⟩) (s .live 900)).station 0).state ≠ .heard
      ∧ (((s .noData 1800).res 0).source = .noData
        ∧ ((s .noData 1800).resE 0).loss ≤ ((s .noData 1800).now - ((s .noData 1800).res 0).lastAccept).toNat)
      ∧ ((s .estimated 1800).res 0).source = .estimated
      ∧ ((s .live 899).now - ((s .live 899).res 0).lastAccept).toNat < ((s .live 899).resE 0).silence
      ∧ ((s .estimated 1799).now - ((s .estimated 1799).res 0).lastAccept).toNat < ((s .estimated 1799).resE 0).loss := by
  decide

theorem witness_EstimateStep :
    let s := tank0 fun x => { x with source := .estimated, stepMark := 4990 }
    let u := tank0 fun x => { x with source := .estimated, stepMark := 4991 }
    (s.resE 0).used = true ∧ s.engine ≠ .startup ∧ (s.res 0).source = .estimated
      ∧ (s.resE 0).estStep ≤ (s.now - (s.res 0).stepMark).toNat ∧ (live.res 0).source ≠ .estimated
      ∧ (u.now - (u.res 0).stepMark).toNat < (u.resE 0).estStep := by decide

/-- A response in the queue. -/
def someResponse : Response := ⟨1, 100, 0, .ok, .none⟩

theorem witness_RequestGate :
    live.addressValid = true ∧ walkRecords [0x4A, 1, 0] = some [⟨0x4A, [0]⟩]
      ∧ 6 ≤ { live with responses := List.replicate 6 someResponse }.responses.length
      ∧ { live with responses := List.replicate 5 someResponse }.responses.length < 6
      ∧ State.reset.engine = .startup ∧ live.engine ≠ .startup
      ∧ walkRecords [] = some [] ∧ walkRecords [0x4A, 0, 0x4A, 0] = some [⟨0x4A, []⟩, ⟨0x4A, []⟩]
      ∧ walkRecords [0x3F, 0] = some [⟨0x3F, []⟩] ∧ (0x3F : Byte).toNat < 0x40 ∧ 0x4C < (0x4D : Byte).toNat
      ∧ (⟨0x4A, [0]⟩ : Rec).content.length ≠ 0 ∧ (⟨0x41, [0, 0]⟩ : Rec).content.length < 3 := by decide

theorem witness_StartupAnswers : ∃ (c : Instr) (code : Byte) (s : State), requestCode c = some code ∧ s.addressValid = true ∧ s.engine = .startup :=
  ⟨.relatch, 0x4A, State.reset, rfl, by decide, rfl⟩

/-- A first entry and counts 1 and 8, a last entry of its table, one past it, and counts and a table outside their ranges. -/
theorem witness_ReadTableResult : live.serves ∧ tableOf (2 : Byte).toNat = some .pump ∧ 1 ≤ (1 : Byte).toNat
    ∧ (8 : Byte).toNat ≤ 8 ∧ (24 : Byte).toNat + (8 : Byte).toNat ≤ entryCount .pump
    ∧ (31 : Byte).toNat + (1 : Byte).toNat ≤ entryCount .pump ∧ (0 : Byte).toNat = 0 ∧ 8 < (9 : Byte).toNat
    ∧ 7 < (8 : Byte).toNat ∧ (32 : Byte).toNat < 0xFD ∧ entryCount .pump < (32 : Byte).toNat + (1 : Byte).toNat
    ∧ (0xFC : Byte).toNat < 0xFD ∧ entryCount .pump < (25 : Byte).toNat + (8 : Byte).toNat :=
  ⟨serves_live, by decide⟩

/-- R179's order: the count before the table, and the table before the index. -/
theorem test_readTable_order :
    let s := { live with ownAddr := 100 }
    after (.readTable 8 255 9) s = respond 0x40 .badFormat .none s ∧ after (.readTable 8 255 1) s = respond 0x40 .badTable .none s
      ∧ after (.readTable 2 32 1) s = respond 0x40 .badIndex .none s := by decide +kernel

theorem witness_RelativeIndex : live.serves ∧ tableOf (1 : Byte).toNat = some .house ∧ 1 ≤ (1 : Byte).toNat
    ∧ (8 : Byte).toNat ≤ 8
    ∧ ({ live with cursor := ⟨1, 0⟩ }.cursor = ⟨(1 : Byte).toNat, 0⟩ ∧ 0 + 1 < entryCount .house)
    ∧ ({ live with cursor := ⟨1, 11⟩ }.cursor = ⟨(1 : Byte).toNat, 11⟩ ∧ 11 + 1 = entryCount .house)
    ∧ live.cursor.table ≠ (1 : Byte).toNat ∧ 0xFD ≤ (0xFD : Byte).toNat
    ∧ (live.storeTx = .idle ∧ (List.replicate (entrySize .house) (0 : Byte)).length = (1 : Byte).toNat * entrySize .house) :=
  ⟨serves_live, by decide, by decide, by decide, by decide, by decide, by decide, by decide, by decide⟩

/-- The words of a CALENDAR entry that opens a minute already open. -/
def clash : List Byte := [1, 104, 0, 0, 0, 0]

theorem witness_WriteTests : live.serves
    ∧ ¬(1 ≤ (0 : Byte).toNat) ∧ ¬((9 : Byte).toNat ≤ 8)
    ∧ (tableOf (6 : Byte).toNat = some .calendar ∧ clash.length = (1 : Byte).toNat * entrySize .calendar)
    ∧ { live with storeTx := .saving 0 }.storeTx = .saving 0 ∧ live.storeTx = .idle
    ∧ tableOf (8 : Byte).toNat = none
    ∧ firstEntry live.cursor .calendar 16 1 = none ∧ firstEntry live.cursor .calendar 15 1 = some 15
    ∧ structural .site = true ∧ structural .band = false ∧ standby.engine = .standby ∧ live.engine = .run
    ∧ rangeFailure .calendar live.tables 15 (entryWords .calendar 1 [5, 160, 0, 0, 0, 0]) = some 15
    ∧ rangeFailure .calendar live.tables 15 (entryWords .calendar 1 clash) = none
    ∧ planFailure .calendar (writeEntries .calendar 15 (entryWords .calendar 1 clash) live.tables) 15 1 = some 15
    ∧ planFailure .calendar (writeEntries .calendar 15 (entryWords .calendar 1 [1, 105, 0, 0, 0, 0]) live.tables) 15 1
      = none :=
  ⟨serves_live, by decide⟩

theorem witness_WriteReadBack :
    (∀ w ∈ [[360, 0, 20000], [65535, 9, 9]], entryOk .calendar w = true)
      ∧ 14 + [[360, 0, 20000], [65535, 9, 9]].length ≤ entryCount .calendar := by decide

/-- The bytes of an entry's words (R178). -/
def entryBytesOf (w : List Nat) : List Byte := w.flatMap word16

/-- A RESERVOIR entry with a lowered height_cm, at which a level above it and one at it stand, and a HOUSE entry with another
station. -/
theorem witness_StructuralWrite_limits :
    (let es := entryBytesOf [50, 0, 595, 20, 640, 100, 4000, 30, 1200, 50, 590, 80, 20, 900, 1800, 10];
      rangeFailure .reservoir standby.tables 0 (entryWords .reservoir 1 es) = none
        ∧ (let e := (writeEntries .reservoir 0 (entryWords .reservoir 1 es) standby.tables).reservoir.get 0;
          (standby.resE 0).station = e.station ∧ (standby.resE 0).channel = e.channel
            ∧ (standby.resE 0).estStep ≤ e.estStep ∧ ¬596 ≤ e.height ∧ 595 ≤ e.height))
      ∧ (let es := entryBytesOf [35, 65535, 0, 1, 120];
        rangeFailure .house standby.tables 0 (entryWords .house 1 es) = none
          ∧ (standby.houseE 0).station ≠ ((writeEntries .house 0 (entryWords .house 1 es) standby.tables).house.get 0).station
          ∧ (standby.pumpE 0).house = some 0 ∧ (standby.houseE 0).used = true ∧ (standby.houseE 0).delivery = 0)
      ∧ ((modRes 0 (fun x => { x with source := .live }) standby).res 0).source ≠ .noData := by decide

/-- PUMP entry 0 with its limits lowered to the times elapsed, and raised one second beyond them. -/
theorem witness_StructuralWrite_motor :
    let s := modPump 0 (fun q => { q with run := .stopped, stopMark := some 4900, minOffOpen := true }) standby
    let r := modPump 0 (fun q => { q with run := .running, commanded := true, runStart := 4900, minRunOpen := true }) standby
    [100, 101].all (fun n =>
        let es := entryBytesOf [0, 0, 45, 110, n, n, 4]
        let e := (writeEntries .pump 0 (entryWords .pump 1 es) s.tables).pump.get 0
        rangeFailure .pump s.tables 0 (entryWords .pump 1 es) == none && (s.pumpE 0).house == e.house
          && (s.pumpE 0).slot == e.slot && e.minOff == n && e.minRun == n) = true
      ∧ (s.pump 0).run = .stopped ∧ (s.pump 0).stopMark = some 4900 ∧ (s.pump 0).minOffOpen = true
      ∧ 100 < (s.pumpE 0).minOff ∧ 100 ≤ (s.now - 4900).toNat ∧ (s.now - 4900).toNat < 101 ∧ (s.pumpE 0).house = some 0
      ∧ (r.pump 0).run = .running ∧ (r.pump 0).commanded = true ∧ (r.pump 0).minRunOpen = true
      ∧ 100 < (r.pumpE 0).minRun ∧ 100 ≤ (r.now - (r.pump 0).runStart).toNat := by decide

/-- R59: a min-off of 300 s shortened to the 100 s already elapsed marks the house at the write, and its expiry does not come
again. -/
theorem test_writeTable_minOff :
    let s := modPump 0 (fun q => { q with run := .stopped, stopMark := some 4900, minOffOpen := true }) standby
    let t := after (.writeTable 2 0 1 (entryBytesOf [0, 0, 45, 110, 900, 100, 4])) s
    t.marks = [0] ∧ (t.pump 0).minOffOpen = false ∧ (after (.minOffExpiry 0) t).marks = [0] := by decide +kernel

/-- R59: a start confirmed as its min-run ends raises no expiry. -/
theorem test_minRun_over :
    let s := pump0 fun q => { q with run := .startOrdered, order := .transmitted, orderTx := some 4100, panel := some .remote }
    let t := applyFeedback .live 0 true s
    (t.pump 0).runStart = 4100 ∧ (t.pump 0).minRunOpen = false ∧ t.minRunDue 0 = false := by decide +kernel

/-- A RESERVOIR entry at another channel, PUMP entry 31 of house 1, and pump 0 unused. -/
theorem witness_StructuralWrite : standby.serves ∧ standby.engine = .standby ∧ standby.storeTx = .idle
    ∧ tableOf (0 : Byte).toNat = some .reservoir ∧ structural .reservoir = true
    ∧ (let es := (entryBytesOf [50, 2, 600, 20, 640, 100, 4000, 30, 1250, 50, 590, 80, 20, 900, 1800, 10])
      es.length = (1 : Byte).toNat * entrySize .reservoir
        ∧ rangeFailure .reservoir standby.tables 0 (entryWords .reservoir 1 es) = none
        ∧ (standby.resE 0).channel
          ≠ ((writeEntries .reservoir 0 (entryWords .reservoir 1 es) standby.tables).reservoir.get 0).channel)
    ∧ (let es := entryBytesOf [1, 3, 40, 90, 900, 300, 3]
      es.length = (1 : Byte).toNat * entrySize .pump ∧ (31 : Byte).toNat + (1 : Byte).toNat ≤ entryCount .pump
        ∧ rangeFailure .pump standby.tables 31 (entryWords .pump 1 es) = none
        ∧ (standby.pumpE 31).house ≠ ((writeEntries .pump 31 (entryWords .pump 1 es) standby.tables).pump.get 31).house)
    ∧ (let es := entryBytesOf [65535, 0, 0, 0, 0, 0, 0]
      rangeFailure .pump standby.tables 0 (entryWords .pump 1 es) = none
        ∧ ((writeEntries .pump 0 (entryWords .pump 1 es) standby.tables).pump.get 0).house = none) :=
  ⟨serves_standby, by decide⟩

theorem witness_ReadLiveAnswer : live.serves ∧ 7 < (8 : Byte).toNat ∧ lastItem (7 : Byte).toNat = some 1
    ∧ 1 < (2 : Byte).toNat ∧ (1 : Byte).toNat ≤ 1 :=
  ⟨serves_live, by decide, by decide, by decide, by decide⟩

/-- The images take 517, 125, 453, 31, 437, 101, 101, 77 and 165 bytes, by R182's lengths. -/
theorem test_save_places : (List.range 10).map imageAddress = [0, 517, 642, 1095, 1126, 1563, 1664, 1765, 1842, 2007] := by
  decide

theorem witness_SaveRuns_places :
    let s := { standby with store := standby.store.set 3 (.whole ((imagesOf net standby.pumps.toList).getD 3 [])) }
    s.store.get 3 = .whole ((imagesOf s.tables s.pumps.toList).getD 3 [])
      ∧ 30 < ((imagesOf s.tables s.pumps.toList).getD 3 []).length := by decide +kernel

theorem witness_SaveRuns : live.serves ∧ { live with storeTx := .saving 0 }.storeTx = .saving 0
    ∧ { live with storeTx := .saving 8 }.storeTx = .saving 8 ∧ (8 : ImageId).val = (7 : ImageId).val + 1
    ∧ live.storeTx = .idle :=
  ⟨serves_live, rfl, rfl, rfl, rfl⟩

/-- STARTUP with image `i` in hand and the store holding the network's images. -/
def restoring (i : ImageId) : State :=
  { State.reset with storeTx := .restoring i, store := Vector.ofFn fun j => .whole ((imagesOf net []).getD j.val []) }

theorem witness_RestoreTableImage :
    ((restoring 0).storeTx = .restoring 0 ∧ (0 : ImageId).val = tableCode .reservoir
        ∧ (1 : ImageId).val = (0 : ImageId).val + 1
        ∧ (∀ i, parseRes (net.reservoir.get i).words = some (net.reservoir.get i))
        ∧ rangeFailure .reservoir (restoring 0).tables 0 (tableWords net .reservoir) = none
        ∧ (restoring 0).store.get 0 = .whole (imageBytes 0 (tableContent net .reservoir)))
      ∧ ((restoring 7).storeTx = .restoring 7 ∧ (7 : ImageId).val = tableCode .plan)
      ∧ { restoring 0 with store := State.reset.store }.store.get 0 = .blank
      ∧ { restoring 0 with store := State.reset.store.set 0 .partly }.store.get 0 = .partly := by decide +kernel

theorem witness_EndOfStartup :
    (restoring 8).storeTx = .restoring 8 ∧ (restoring 8).engine = .startup
      ∧ (let s := { restoring 8 with store := (restoring 8).store.set 8 (.whole (imageBytes 8 (runContent live.pumps.toList))) }
        s.store.get 8 = .whole (imageBytes 8 (runContent live.pumps.toList))
          ∧ ∀ p, (live.pumps.get p).runSeconds ≤ 4294967295) := by decide +kernel

theorem witness_TimeRequests : live.serves ∧ 86399 < (86400 : BitVec 24).toNat ∧ (86399 : BitVec 24).toNat ≤ 86399 :=
  ⟨serves_live, by decide, by decide⟩

/-- One second before 06:00, and two. -/
theorem witness_SecondAdvance :
    let s := { live with timeSet := true, sod := 21599 }
    s.timeSet = true ∧ (s.sod + 1) % 60 = 0 ∧ s.activeEntry ((s.sod + 1) / 60) = some 0
      ∧ (s.tables.calendar.get 0).start = some ((s.sod + 1) / 60)
      ∧ ({ live with timeSet := true, sod := 21598 }.sod + 1) % 60 ≠ 0 := by decide

/-- The network of a refused start: BAND 5 with s2 above s1. -/
def refused : State := { standby with tables := { net with band := net.band.set 5 ⟨300, 310, 0, 0, 360, 40⟩ } }

theorem witness_ConsistencyFirst : net.firstFailure 100 = none ∧ refused.tables.firstFailure 100 = some ⟨4, 5⟩ := by
  decide

theorem witness_EngineStart : live.serves ∧ standby.serves ∧ refused.serves ∧ live.engine = .run
    ∧ refused.engine = .standby ∧ refused.tables.firstFailure refused.ownAddr.toNat = some ⟨4, 5⟩
    ∧ standby.engine = .standby ∧ standby.tables.firstFailure standby.ownAddr.toNat = none :=
  ⟨serves_live, serves_standby, by unfold State.serves; decide, by decide +kernel⟩

theorem witness_AutomaticStart :
    let s := { standby with autoStart := .pending, settleMark := 4940 }
    let t := { s with tables := { net with site := { net.site with autoRun := 0 } } }
    let u := { refused with autoStart := .pending, settleMark := 4940 }
    (s.autoStart = .pending ∧ s.engine = .standby ∧ s.site.settle ≤ (s.now - s.settleMark).toNat ∧ s.site.autoRun ≠ 0
        ∧ s.tables.firstFailure s.ownAddr.toNat = none)
      ∧ (t.site.settle ≤ (t.now - t.settleMark).toNat ∧ t.site.autoRun = 0)
      ∧ (u.site.settle ≤ (u.now - u.settleMark).toNat ∧ u.site.autoRun ≠ 0
        ∧ u.tables.firstFailure u.ownAddr.toNat = some ⟨4, 5⟩)
      ∧ ¬{ s with settleMark := 4941 }.site.settle ≤ ({ s with settleMark := 4941 }.now - 4941).toNat := by
  decide

theorem witness_EngineStop : live.serves ∧ standby.serves ∧ standby.engine = .standby ∧ live.engine = .run
    ∧ ((pump0 fun q => { q with run := .startOrdered, order := .queued }).pump 0).order = .queued
    ∧ ((pump0 fun q => { q with run := .stopOrdered, order := .queued }).pump 0).run = .stopOrdered
    ∧ ((pump0 fun q => { q with run := .stopOrdered, stopExpired := true }).pump 0).stopExpired = true
    ∧ ((pump0 fun q => { q with run := .running }).pump 0).run = .running
    ∧ ((pump0 fun q => { q with run := .startOrdered, order := .taken }).pump 0).order ≠ .queued
    ∧ (live.pump 0).run = .stopped :=
  ⟨serves_live, serves_standby, by decide⟩

theorem witness_HouseModes : live.serves ∧ (11 : Byte).toNat = (11 : HouseId).val ∧ (live.houseE 11).used = false
    ∧ (live.houseE 0).used = true ∧ modeOf (3 : Byte).toNat = none ∧ modeOf (2 : Byte).toNat = some .out
    ∧ modeOf (0 : Byte).toNat = some .auto ∧ standby.engine = .standby ∧ live.engine = .run
    ∧ (live.house 0).mode = .auto ∧ ((house0 fun x => { x with mode := .manual }).house 0).mode ≠ .auto
    ∧ (∀ e ∈ live.arbiter.requests, (live.pumpE e.pump).house = some e.house) ∧ (live.pumpE 0).house = some 0 :=
  ⟨serves_live, by decide⟩

/-- R145's release: house 0 leaves AUTO with a QUEUED start, which is undone, and its RELEASE entry is sent. -/
theorem test_houseMode_release :
    let t := after (.houseMode 0 1) { pump0 fun q => { q with run := .startOrdered, order := .queued } with
      dispatcher := Dispatcher.fresh }
    ((t.pump 0).run, (t.pump 0).stopMark, (t.house 0).mode) = (.stopped, none, .manual)
      ∧ t.dispatcher.inTx.map (fun e => (e.house, e.kind, e.hold)) = some (0, .release, 0) := by decide +kernel

theorem witness_Restart : live.serves ∧ { live with storeTx := .saving 3 }.storeTx = .saving 3 ∧ live.storeTx = .idle
    ∧ live.engine = .run ∧ { live with field := { live.field with tx := some (.forwarded [1]) } }.field.tx
      = some (.forwarded [1])
    ∧ live.field.tx = none ∧ (live.houseE 0).used = true ∧ (live.house 0).mode = .auto
    ∧ (fieldWith [ordersEntry 1 .stop] [] 0).dispatcher.queue = ordersEntry 1 .stop :: [] :=
  ⟨serves_live, rfl, rfl, rfl, rfl, rfl, rfl, rfl, rfl⟩

theorem witness_RaiseRows :
    let full := { live with alarms := { Alarms.fresh with entries := fullList .activeAcked } }
    let room := { live with alarms := { Alarms.fresh with entries := fullList .clearedUnacked } }
    (∀ e ∈ live.alarms.entries, ¬(e.kind = .levelLost ∧ e.object = 0)) ∧ live.alarms.entries.length < 24
      ∧ 24 ≤ room.alarms.entries.length ∧ (∀ e ∈ room.alarms.entries, ¬(e.kind = .pumpFault ∧ e.object = 0))
      ∧ (room.alarms.entries = [] ++ ⟨.levelLost, 0, .clearedUnacked, .unset 0, .none, none, 0⟩ :: room.alarms.entries.tail)
      ∧ 24 ≤ full.alarms.entries.length ∧ (∀ e ∈ full.alarms.entries, e.state ≠ .clearedUnacked)
      ∧ (alarmed (entryOf .levelLost .clearedUnacked)).alarms.entries = [] ++ entryOf .levelLost .clearedUnacked :: []
      ∧ (entryOf .levelLost .activeAcked).state ≠ .clearedUnacked
      ∧ 6 ≤ (List.replicate 6 (⟨1, 100, .refusal 0 0 0 0⟩ : Notice)).length
      ∧ (List.replicate 5 (⟨1, 100, .refusal 0 0 0 0⟩ : Notice)).length < 6
      ∧ (forwarding 0 (some (.forwarded []))).sup.tx ≠ none := by decide

theorem witness_ClearRows :
    (∀ e ∈ live.alarms.entries, ¬(e.kind = .levelLost ∧ e.object = 0))
      ∧ [AlarmState.activeUnacked, .activeAcked, .clearedUnacked].all (fun a =>
        (alarmed (entryOf .levelLost a)).alarms.entries == [] ++ entryOf .levelLost a :: []
          && (entryOf .levelLost a).kind == .levelLost && (entryOf .levelLost a).object == 0) = true := by decide

theorem witness_AckOne : live.serves ∧ (0 : Byte) ≠ 0xFF ∧ alarmOf (254 : Byte).toNat = none
    ∧ alarmOf (2 : Byte).toNat = some .levelLost ∧ alarmOf (10 : Byte).toNat = some .uncommandedRun
    ∧ alarmObjects .levelLost ≤ (16 : Byte).toNat ∧ (15 : Byte).toNat < alarmObjects .levelLost
    ∧ (∀ e ∈ live.alarms.entries, ¬(e.kind = .levelLost ∧ e.object = 0)) ∧ (alarmed (entryOf .levelLost .activeUnacked)).serves
    ∧ (alarmed (entryOf .levelLost .activeUnacked)).alarms.entries = [] ++ entryOf .levelLost .activeUnacked :: []
    ∧ (entryOf .uncommandedRun .activeUnacked).kind = .uncommandedRun
    ∧ (entryOf .levelLost .activeAcked).state = .activeAcked
    ∧ (entryOf .levelLost .clearedUnacked).state = .clearedUnacked :=
  ⟨serves_live, by decide, by decide +kernel, by decide +kernel, by decide +kernel, by decide +kernel,
    by decide, by decide +kernel, by unfold State.serves; decide +kernel, by decide +kernel⟩

theorem witness_AckAll : ∃ s : State, s.serves ∧ s.alarms.Bounded ∧ s.alarms.entries.length = 24 :=
  ⟨{ live with alarms := { Alarms.fresh with entries := fullList .activeUnacked } },
    by unfold State.serves; decide,
    ⟨by decide, by decide +kernel, by decide +kernel, by decide +kernel⟩, by decide +kernel⟩

/-- The live network with its pumps 0 and 1 running and a period budget. -/
def loaded (budget : Nat) (was : Bool) : State :=
  { modPump 1 (fun q => { q with run := .running }) (pump0 fun q => { q with run := .running }) with
    period := { live.period with budget := budget }, arbiter := { live.arbiter with overBudget := was } }

theorem witness_WindowAndOver :
    (loaded 164 false).siteLoad = 165 ∧ min (loaded 164 false).period.budget (loaded 164 false).site.siteLimit = 164
      ∧ (loaded 164 false).arbiter.overBudget = false ∧ (loaded 165 true).siteLoad ≤ 165
      ∧ min (loaded 165 true).period.budget (loaded 165 true).site.siteLimit = 165
      ∧ (loaded 165 true).arbiter.overBudget = true := by decide

/-- A request of house 0 for pump 0, reported in REMOTE without a fault, of two ages. -/
def requesting (mark : Second) : State :=
  { pump0 fun q => { q with panel := some .remote, fault := some 0 } with
    arbiter := { live.arbiter with requests := [⟨0, 0, 90, .demand, .demand, 4100, mark⟩], lastGrantMark := 4970 } }

theorem witness_WinnerBest : (requesting 4100).winner = some ⟨0, 0, 90, .demand, .demand, 4100, 4100⟩
    ∧ (requesting 4100).engine = .run
    ∧ (requesting 4100).site.grantGap ≤ ((requesting 4100).now - (requesting 4100).arbiter.lastGrantMark).toNat
    ∧ live.winner = none
    ∧ ((∀ e ∈ live.arbiter.requests, e.house ≠ 0)
      ∧ (requesting 4100).arbiter.requests = [] ++ ⟨0, 0, 90, .demand, .demand, 4100, 4100⟩ :: []) := by decide

theorem witness_GrantGapExpiry :
    let s := requesting 4100
    ((s.now - s.arbiter.lastGrantMark).toNat = s.site.grantGap ∧ 1 ≤ s.site.grantGap) ∧ s.engine = .run
      ∧ s.winner = some ⟨0, 0, 90, .demand, .demand, 4100, 4100⟩ ∧ live.winner = none ∧ standby.engine ≠ .run
      ∧ { s with field := { s.field with tx := some (.forwarded [1]) } }.field.tx ≠ none
      ∧ { s with field := { s.field with tx := some (.forwarded [1]) } }.winner = s.winner
      ∧ ¬(live.now - live.arbiter.lastGrantMark).toNat = live.site.grantGap := by decide

theorem witness_AgeingTable :
    (requesting 4100).arbiter.requests = [] ++ ⟨0, 0, 90, .demand, .demand, 4100, 4100⟩ :: []
      ∧ (requesting 4100).site.age ≤ ((requesting 4100).now - 4100).toNat
      ∧ ((requesting 4101).now - 4101).toNat < (requesting 4101).site.age ∧ live.arbiter.requests = [] := by
  decide

/-- A commanded pump of house 0 past its min-run, and the site over its budget. -/
def shedding : State :=
  { pump0 fun q => { q with run := .running, commanded := true, runStart := 4100 } with
    period := { live.period with budget := 10 } }

/-- House 0 with pump 0 RUNNING and commanded past its min-run and both its rotation and stagger, and pump 1 eligible with
fewer run seconds. -/
def duty : State :=
  modHouse 0 (fun x => { x with commanded := 1, target := 1, rotMark := some 1400 })
    (modPump 1 (fun q => { q with panel := some .remote, fault := some 0 })
      (modPump 0 (fun q => { q with run := .running, commanded := true, runStart := 1000, accrualMark := 1000 }) live))

theorem witness_SheddingOrder : shedding.shedNext = some 0 ∧ live.shedNext = none ∧ shedding.engine = .run
    ∧ duty.startCandidate 0 = some 1 ∧ duty.startCandidate 1 = none ∧ duty.stopCandidate 0 [] = some 0
    ∧ duty.stopCandidate 0 [0] = none ∧ duty.oldest 0 = some 0 ∧ duty.oldest 1 = none := by
  decide

/-- Section 6.5's choice by run seconds: the pump that ran less starts, although its slot is higher. -/
theorem test_houseEvaluation_candidate :
    let s := modPump 0 (fun q => { q with panel := some .remote, fault := some 0, runSeconds := 123588 })
      (modPump 1 (fun q => { q with panel := some .remote, fault := some 0, runSeconds := 95000 }) live)
    s.startCandidate 0 = some 1 := by decide

theorem witness_StageCount :
    let b : BandEntry := ⟨400, 380, 0, 0, 560, 40⟩
    b.stop ≤ 560 ∧ 559 < b.stop ∧ 1 ≤ b.hyst ∧ 2 ≤ stagesFor b 380 0 ∧ stagesFor b 380 0 < 4
      ∧ stagesFor b 381 0 < 4 ∧ b.inUse (stagesFor b 381 0 + 1) = true := by decide

/-- R93 and R94: a REQUESTED and a GRANTED start unwanted and wanted, a WITHDRAWN pump due and inside its min-run, an excess
with and without a stop candidate. -/
theorem witness_StageCount_stops :
    let w := modPump 0 (fun q => { q with service := .withdrawn }) duty
    let w' := modPump 0 (fun q => { q with service := .withdrawn, runStart := 4101 }) duty
    let g := modHouse 0 (fun x => { x with start := .granted 1, target := 0 })
      (modPump 1 (fun q => { q with run := .startOrdered, order := .queued }) duty)
    ((duty.house 0).target ≤ (duty.house 0).commanded
        ∧ ((modHouse 0 (fun x => { x with start := .requested 1 }) duty).house 0).start = .requested 1
        ∧ ((modHouse 0 (fun x => { x with target := 2 }) duty).house 0).target = 2)
      ∧ ((g.house 0).start = .granted 1 ∧ (g.house 0).target < (g.house 0).commanded ∧ (g.pump 1).run = .startOrdered
        ∧ (g.pump 1).order = .queued)
      ∧ (duty.runners 0 [] = [0] ∧ (w.pump 0).service = .withdrawn ∧ 900 ≤ (w.now - (w.pump 0).runStart).toNat)
      ∧ (¬900 ≤ (w'.now - (w'.pump 0).runStart).toNat ∧ w'.runners 0 [] = [0])
      ∧ ((duty.house 0).target < 2 ∧ duty.stopCandidate 0 [] = some 0 ∧ duty.stopCandidate 0 [0] = none
        ∧ 1 ≤ (duty.house 0).target) ∧ duty.minRunEnd [0] = some 1900 ∧ duty.minRunEnd [] = none := by decide

/-- R90 and R91: stagger one second short and elapsed, a candidate and none, and the waits. -/
theorem witness_StageCount_starts :
    let s := modHouse 0 (fun x => { x with target := 2 }) duty
    let off := modPump 1 (fun q => { q with stopMark := some 4701, history := [1400, 1500, 1600] }) s
    ((s.house 0).commanded < (s.house 0).target ∧ (s.house 0).start = .none
        ∧ (s.houseE 0).stagger ≤ (s.now - (s.house 0).lastStartTx).toNat ∧ s.startCandidate 0 = some 1)
      ∧ ((modHouse 0 (fun x => { x with lastStartTx := 4881 }) s).now - 4881).toNat < (s.houseE 0).stagger
      ∧ ((modHouse 0 (fun x => { x with start := .granted 1 }) s).house 0).start = .granted 1
      ∧ ((modHouse 0 (fun x => { x with start := .transmitted 1 }) s).house 0).start = .transmitted 1
      ∧ (off.startCandidate 0 = none ∧ (off.pump 1).stopMark = some 4701
        ∧ (off.now - 4701).toNat < (off.pumpE 1).minOff ∧ (off.pump 1).history.head? = some 1400
        ∧ (off.pumpE 1).maxStarts ≤ (off.pump 1).history.length ∧ (off.pump 1).run = .stopped
        ∧ (off.pump 1).panel = some .remote ∧ (off.station 0).state = .heard)
      ∧ off.waitFor 0 = ⟨.history, some 5000⟩
      ∧ ((modStation 0 (fun _ => ⟨.silent, 0⟩) s).station 0).state = .silent ∧ live.waitFor 0 = ⟨.none, none⟩ := by
  decide

/-- The live network with a mark of house 1, whose suction is reservoir 0 and delivery reservoir 1. -/
def marked1 (suction delivery : Reservoir) : State :=
  { modRes 1 (fun _ => delivery) (modRes 0 (fun _ => suction) live) with marks := [1] }

def atLevel (source : Source) (level : Nat) : Reservoir := { live.res 0 with source := source, level := level }

/-- R81 at dry_cut_cm and at dry_cut_cm + dry_hyst_cm, R82 at overflow_cm, and a lost suction. -/
theorem witness_SuctionLostStops :
    let s := marked1 (atLevel .lost 300) (atLevel .live 390)
    let spill := marked1 (atLevel .live 81) (atLevel .live 390)
    ((1 : HouseId) ∈ s.marks ∧ s.engine = .run ∧ (s.houseE 1).used = true ∧ (s.house 1).mode = .auto
        ∧ (s.houseE 1).suction = some 0 ∧ (s.res 0).source = .lost ∧ (live.res 0).source = .noData)
      ∧ ((live.resE 0).dryCut = 80 ∧ (live.resE 0).dryHyst = 20 ∧ (live.resE 1).overflow = 390
        ∧ (spill.house 1).dryLatch = false ∧ ¬(spill.res 0).level ≤ (spill.resE 0).dryCut
        ∧ (spill.resE 1).overflow ≤ (spill.res 1).level ∧ (spill.houseE 1).delivery = 1 ∧ (spill.house 1).overflow = false)
      ∧ ((modHouse 1 (fun x => { x with dryLatch := true, overflow := true }) spill).house 1).overflow = true
      ∧ (live.houseE 0).suction = none
      ∧ ((modHouse 1 (fun x => { x with start := .requested 2 }) s).house 1).start = .requested 2
      ∧ (live.pumpE 2).house = some 1 ∧ live.arbiter.requests = []
      ∧ (∀ e ∈ [(⟨1, 2, 50, .demand, .demand, 4100, 4100⟩ : Request)], (live.pumpE e.pump).house = some e.house)
      ∧ { live with field := { live.field with tx := some (.forwarded [1]) } }.field.tx ≠ none := by decide

/-- R81's latch: set at 80, held at 99, clear at 100. -/
theorem test_houseEvaluation_dryLatch :
    let s := fun l level => modHouse 1 (fun x => { x with dryLatch := l }) (marked1 (atLevel .live level) (atLevel .live 300))
    ((after (.houseEvaluation 1) (s false 80)).house 1).protection = .dryTrip
      ∧ ((after (.houseEvaluation 1) (s true 99)).house 1).protection = .dryTrip
      ∧ ((after (.houseEvaluation 1) (s true 100)).house 1).protection = .none := by decide +kernel

theorem witness_EvaluationSets :
    let s := { tank0 fun x => { x with source := .live, level := 340 } with marks := [0] }
    let lost := fun ph m => modHouse 0 (fun x => { x with phase := ph, phaseMark := m }) { live with marks := [0] }
    (0 : HouseId) ∉ live.marks ∧ (0 : HouseId) ∈ s.marks ∧ s.engine = .run ∧ (s.houseE 0).used = true
      ∧ (s.house 0).mode = .auto ∧ (s.houseE 0).suction = none ∧ (s.res (s.houseE 0).delivery).source = .live
      ∧ (s.res (s.houseE 0).delivery).level < (s.resE (s.houseE 0).delivery).overflow
      ∧ (tank0 fun x => { x with source := .estimated }).res 0 ≠ live.res 0
      ∧ (marked1 (atLevel .live 81) (atLevel .live 389)).marks = [1] ∧ standby.engine ≠ .run
      ∧ ((live.res (live.houseE 0).delivery).source = .noData ∧ ((lost .on (some 4401)).now - 4401).toNat < 600
        ∧ ¬((lost .on (some 4400)).now - 4400).toNat < (live.planE 0).fallbackOn ∧ 1 ≤ (live.planE 0).fallbackOff
        ∧ ((lost .none none).house 0).phase = .none ∧ (live.planE 1).fallbackOn = 0) := by decide

/-- R101 and R103: house 0 steady with the test due, one second short, and without a lesser candidate; and R95's counts. -/
theorem witness_EvaluationSets_rotation :
    (1 ≤ (duty.planE 0).rotate ∧ (duty.house 0).protection = .none ∧ (duty.house 0).change = .none
        ∧ (duty.house 0).start = .none ∧ (duty.house 0).target = duty.commandedCount 0 ∧ 1 ≤ duty.commandedCount 0)
      ∧ (duty.oldest 0 = some 0 ∧ (duty.planE 0).rotate ≤ (duty.now - 1400).toNat
        ∧ (duty.now - 1401).toNat < (duty.planE 0).rotate ∧ duty.startCandidate 0 = some 1
        ∧ duty.runSecondsNow 1 < duty.runSecondsNow 0 ∧ (duty.houseE 0).stagger ≤ (duty.now - (duty.house 0).lastStartTx).toNat
        ∧ ((modHouse 0 (fun x => { x with lastStartTx := 4881 }) duty).now - 4881).toNat < (duty.houseE 0).stagger)
      ∧ ((modPump 1 (fun q => { q with runSeconds := 4000 }) duty).runSecondsNow 1 = duty.runSecondsNow 0)
      ∧ (let s := modHouse 0 (fun x => { x with target := 1 }) (pump0 fun q => { q with run := .startOrdered })
        s.oldest 0 = none ∧ s.commandedCount 0 = 1)
      ∧ ((duty.house 0).rotAt ≠ some duty.now ∧ ((modHouse 0 (fun x => { x with rotAt := some 5000 }) duty).house 0).rotAt = some duty.now)
      ∧ ((duty.house 0).staggerAt ≠ some duty.now
        ∧ ((modHouse 0 (fun x => { x with staggerAt := some 5000 }) duty).house 0).staggerAt = some duty.now
        ∧ ((modHouse 0 (fun x => { x with wait := ⟨.stagger, some 5001⟩ }) duty).house 0).wait.kind = .stagger
        ∧ (duty.house 0).wait.kind ≠ .stagger)
      ∧ ((live.house 0).short = false ∧ live.usableCount 0 = 0 ∧ duty.usableCount 0 = 1
        ∧ ((modHouse 0 (fun x => { x with short := true }) duty).house 0).short = true) := by decide

/-- The phases of a changeover from pump 0 to pump 1, whose count K is 1. -/
theorem witness_EvaluationSets_changeover :
    let s := fun run order start t => modHouse 0 (fun x => { x with change := .startingNew 0 1, start := start, target := t })
      (modPump 1 (fun q => { q with run := run, order := order, service := .withdrawn, commanded := run == .running }) duty)
    let o := modHouse 0 (fun x => { x with change := .stoppingOld 0 1 }) (modPump 0 (fun q => { q with run := .stopOrdered }) duty)
    ([(RunState.startOrdered, OrderState.queued), (.running, .none), (.stopped, .none), (.stopOrdered, .queued)].all fun v =>
        [0, 1, 2].all fun t =>
          let u := s v.1 v.2 (.granted 1) t
          (u.house 0).change == .startingNew 0 1 && (u.pump 0).commandedRunning && (u.pump 1).run == v.1
            && u.changeCount 0 0 1 == 1 && (u.house 0).target == t) = true
      ∧ ((s .startOrdered .queued (.granted 1) 0).pump 1).service = .withdrawn
      ∧ ((modPump 1 (fun q => { q with service := .inService }) (s .running .none .none 1)).pump 1).commanded = true
      ∧ ((s .stopped .none .none 1).house 0).start = .none ∧ ((s .stopped .none (.requested 1) 1).house 0).start = .requested 1
      ∧ ((s .stopped .none (.requested 1) 0).house 0).start = .requested 1 ∧ (0 < duty.changeCount 0 0 1)
      ∧ (modPump 0 (fun q => { q with commanded := false }) duty |>.pump 0).commanded = false
      ∧ (duty.house 0).change = .none ∧ (o.house 0).change = .stoppingOld 0 1 ∧ (o.pump 0).run = .stopOrdered
      ∧ (o.pump 0).stopExpired = false ∧ (modPump 0 (fun q => { q with stopExpired := true }) o |>.pump 0).stopExpired = true
      ∧ (duty.pump 0).run ≠ .stopOrdered := by decide

/-- Section 6.5: the rotation expiry places the ROTATE request for the pump that has run less, and the new pump's running
report stops the old one. -/
theorem test_houseEvaluation_rotates :
    let d := modRes 0 (fun _ => atLevel .live 340) duty
    let t := after (.houseEvaluation 0) { d with marks := [0], arbiter := { d.arbiter with lastGrantMark := 4990 } }
    (t.house 0).change = .startingNew 0 1 ∧ t.arbiter.requests.map (fun e => (e.pump, e.need)) = [(1, .rotate)]
      ∧ (t.house 0).rotMark = none := by decide +kernel

/-- R115, last row: another mark's evaluation comes first in the second of the rotation expiry and starts the changeover, and
the expiry still makes its mark. -/
theorem test_rotation_twice :
    let d := modHouse 0 (fun x => { x with rotMark := some 1400, rotAt := some 5000 }) (modRes 0 (fun _ => atLevel .live 340) duty)
    let t := after (.houseEvaluation 0) { d with marks := [0], arbiter := { d.arbiter with lastGrantMark := 4990 } }
    (t.house 0).rotMark = none ∧ (after (.rotationExpiry 0) t).marks = [0]
      ∧ (after (.rotationExpiry 0) (after (.rotationExpiry 0) t)).marks = [0] := by decide +kernel

/-- R98, last row: another mark's evaluation comes first in the second of the stagger expiry and leaves no wait, and the
expiry still makes its mark, once. -/
theorem test_stagger_twice :
    let d := modHouse 0 (fun x => { x with rotMark := some 1401, wait := ⟨.stagger, some 5000⟩, staggerAt := some 5000 })
      (modRes 0 (fun _ => atLevel .live 340) duty)
    let t := after (.houseEvaluation 0) { d with marks := [0] }
    (t.house 0).wait = ⟨.none, none⟩ ∧ t.marks = [] ∧ (after (.staggerExpiry 0) t).marks = [0]
      ∧ (after (.staggerExpiry 0) (after (.staggerExpiry 0) t)).marks = [0] := by decide +kernel

/-- R102: an evaluation one second short of the length times the expiry at its end. -/
theorem test_rotation_timed :
    let d := modHouse 0 (fun x => { x with rotMark := some 1401 }) (modRes 0 (fun _ => atLevel .live 340) duty)
    ((after (.houseEvaluation 0) { d with marks := [0] }).house 0).rotAt = some 5001 := by decide +kernel

/-- R113: a fall ends the changeover of a REQUESTED start, the stop of the same step brings the count to T, and the mark
stays idle. -/
theorem test_fall_idle :
    let d := modPump 1 (fun q => { q with run := .running, commanded := true, runStart := 1000 })
      (modHouse 0 (fun x => { x with change := .startingNew 0 2, start := .requested 2, target := 1, commanded := 2 }) duty)
    let w := stepSix .live 0 d
    w.2 = .shortage ∧ (w.1.house 0).change = .none ∧ w.1.commandedCount 0 = 1 ∧ w.1.steady 0 = true
      ∧ ((steps .live 0 d).house 0).rotMark = none := by decide +kernel

end Sys2Proof.Tests
end

/-! ## Requests: how a management request reaches its rule (R173, R175) -/

namespace Sys2Proof.Machine

/-- A request that is served is handed to its own rule, and its answer joins the response queue. -/
theorem asked_of_serves {s : State} (hs : s.serves) (code : Byte) (op : State → State × Reply) :
    asked code op s = answer code (op s) := by
  obtain ⟨haddr, hroom, hengine⟩ := hs
  simp [asked, haddr, hengine, Nat.not_le.mpr hroom]

/-- In STARTUP a request has no effect beyond its response (R18, R175). -/
theorem asked_in_startup {s : State} (haddr : s.addressValid = true) (he : s.engine = .startup) (code : Byte)
    (op : State → State × Reply) :
    asked code op s = if 6 ≤ s.responses.length then s else respond code .wrongState .none s := by
  simp [asked, haddr, he]

@[simp] theorem answer_refuse (code : Byte) (r : Result) (s : State) :
    answer code (refuse r s) = respond code r .none s := rfl

@[simp] theorem answer_refuseAt (code : Byte) (table index : Nat) (s : State) :
    answer code (refuseAt table index s) = respond code .badValue (.failedAt table index) s := rfl

@[simp] theorem answer_done (code : Byte) (s : State) : answer code (done s) = respond code .ok .none s := rfl

/-- Every command that is a request is asked with its code (R164). -/
theorem exec_request {c : Instr} {code : Byte} (hc : requestCode c = some code) :
    ∃ op : State → State × Reply, ∀ s, exec c s = .next (asked code op s) := by
  cases c <;> simp only [requestCode, reduceCtorEq, Option.some.injEq] at hc <;> subst hc
  all_goals exact ⟨_, fun s => rfl⟩

/-- Settles O30: a request is asked with its code, and `asked` answers WRONG_STATE in STARTUP. -/
theorem startupAnswers : Obligations.StartupAnswers := by
  intro c code s hc haddr he
  obtain ⟨op, hop⟩ := exec_request hc
  rw [hop, asked_in_startup haddr he]

end Sys2Proof.Machine

/-! ## Power-up -/

namespace Sys2Proof.Machine

/-- The words of the cleared tables: zeros, but NONE and UNUSED in the first field of a PUMP and of a CALENDAR entry (R2,
R178). -/
theorem tableWords_cleared (x : TableId) :
    tableWords .cleared x = List.replicate (entryCount x)
      (if x = .pump ∨ x = .calendar then noneWord :: List.replicate (fieldCount x - 1) 0
        else List.replicate (fieldCount x) 0) := by
  cases x <;> rfl

theorem get_replicate {α : Type} {n : Nat} (a : α) (i : Fin n) : (Vector.replicate n a).get i = a := by
  simp [Vector.get_eq_getElem]

/-- Settles O7: the state after POWER_UP is written out by `powerUpWith`, record by record. -/
theorem powerUpResets : Obligations.PowerUpResets := by
  intro a f r s
  refine ⟨powerUpWith a f r s, rfl, ?_⟩
  have hres (i) : (powerUpWith a f r s).res i = .fresh 0 := get_replicate _ i
  have hpump (p) : (powerUpWith a f r s).pump p = .fresh .unused 0 .inService := get_replicate _ p
  have hstation (h) : (powerUpWith a f r s).station h = .fresh 0 := get_replicate _ h
  have hhouse (h) : (powerUpWith a f r s).house h = .fresh .auto 0 := get_replicate _ h
  simp only [hres, hpump, hstation, hhouse]
  have htables : (powerUpWith a f r s).tables = .cleared := rfl
  have hstore : (powerUpWith a f r s).store = s.storeAfterLoss := rfl
  simp only [htables, hstore, tableWords_cleared]
  cases htx : s.storeTx <;>
    simp [State.storeAfterLoss, htx, powerUpWith, State.reset, Reservoir.fresh, Pump.fresh, Station.fresh,
      House.fresh, Arbiter.fresh, Dispatcher.fresh, Alarms.fresh, PortState.fresh, Counters.zero, Period.atPowerUp]

end Sys2Proof.Machine

/-! ## The consistency check (R15, R16) -/

namespace Sys2Proof.Machine

/-! ### The list of failing entries, in table order and then index order -/

theorem mem_failuresIn {n code : Nat} {fails : Fin n → Bool} {r : TableRef} :
    r ∈ failuresIn code fails ↔ r.table = code ∧ ∃ h : r.index < n, fails ⟨r.index, h⟩ = true := by
  constructor
  · intro hr
    obtain ⟨i, hi, rfl⟩ := List.mem_map.mp hr
    exact ⟨rfl, i.isLt, (List.mem_filter.mp hi).2⟩
  · rintro ⟨rfl, hlt, hf⟩
    exact List.mem_map.mpr ⟨⟨r.index, hlt⟩, List.mem_filter.mpr ⟨List.mem_finRange _, hf⟩, rfl⟩

/-- Every entry of a list is charged to a table below the code. -/
def TablesBelow (code : Nat) (l : List TableRef) : Prop := ∀ r ∈ l, r.table < code

theorem pairwise_failuresIn {n : Nat} (code : Nat) (fails : Fin n → Bool) :
    (failuresIn code fails).Pairwise TableRef.before :=
  List.pairwise_map.mpr
    (((List.pairwise_lt_finRange n).filter _).imp fun hij => Or.inr ⟨rfl, hij⟩)

theorem pairwise_append_failuresIn {n code : Nat} {l : List TableRef} (fails : Fin n → Bool) (hb : TablesBelow code l)
    (hl : l.Pairwise TableRef.before) : (l ++ failuresIn code fails).Pairwise TableRef.before :=
  List.pairwise_append.mpr ⟨hl, pairwise_failuresIn code fails, fun a ha b hb' => by
    have hbt := (mem_failuresIn.mp hb').1
    exact Or.inl (hbt ▸ hb a ha)⟩

theorem tablesBelow_append {n code next : Nat} {l : List TableRef} (fails : Fin n → Bool) (hb : TablesBelow code l)
    (hlt : code < next) : TablesBelow next (l ++ failuresIn code fails) := by
  intro r hr
  rcases List.mem_append.mp hr with hr | hr
  · exact (hb r hr).trans hlt
  · exact (mem_failuresIn.mp hr).1 ▸ hlt

/-- The failing entries of all tables. -/
def Tables.failures (ts : Tables) (own : Nat) : List TableRef :=
  failuresIn 0 ts.resFails ++ failuresIn 1 (ts.houseFails own) ++ failuresIn 2 ts.pumpFails
    ++ failuresIn 3 (n := 1) (fun _ => ts.siteFails own) ++ failuresIn 4 ts.bandFails ++ failuresIn 6 ts.calFails
    ++ failuresIn 7 ts.planFails

theorem firstFailure_eq (ts : Tables) (own : Nat) : ts.firstFailure own = (ts.failures own).head? := rfl

theorem pairwise_failures (ts : Tables) (own : Nat) : (ts.failures own).Pairwise TableRef.before := by
  have b1 : TablesBelow 1 (failuresIn 0 ts.resFails) := fun r hr => by simp [(mem_failuresIn.mp hr).1]
  have b2 := tablesBelow_append (ts.houseFails own) b1 (show 1 < 2 by decide)
  have b3 := tablesBelow_append ts.pumpFails b2 (show 2 < 3 by decide)
  have b4 := tablesBelow_append (n := 1) (fun _ => ts.siteFails own) b3 (show 3 < 4 by decide)
  have b6 := tablesBelow_append ts.bandFails b4 (show 4 < 6 by decide)
  have b7 := tablesBelow_append ts.calFails b6 (show 6 < 7 by decide)
  exact pairwise_append_failuresIn _ b7 (pairwise_append_failuresIn _ b6 (pairwise_append_failuresIn _ b4
    (pairwise_append_failuresIn _ b3 (pairwise_append_failuresIn _ b2 (pairwise_append_failuresIn _ b1
      (pairwise_failuresIn 0 _))))))

/-- The list holds exactly the entries that fail a check. -/
theorem mem_failures {ts : Tables} {own : Nat} {r : TableRef} : r ∈ ts.failures own ↔ ts.entryFails own r = true := by
  obtain ⟨table, index⟩ := r
  simp only [Tables.failures, List.mem_append, mem_failuresIn, Tables.entryFails]
  split <;> simp_all

theorem TableRef.not_before_of_before {a b : TableRef} (h : a.before b) : ¬b.before a := by
  unfold TableRef.before at *
  omega

theorem firstFailure_none_iff (ts : Tables) (own : Nat) :
    ts.firstFailure own = none ↔ ∀ r, ts.entryFails own r = false := by
  simp [firstFailure_eq, List.eq_nil_iff_forall_not_mem, mem_failures]

/-- The failure reported fails a check, and no entry before it does. -/
theorem firstFailure_first {ts : Tables} {own : Nat} {r : TableRef} (h : ts.firstFailure own = some r) :
    ts.entryFails own r = true ∧ ∀ q, q.before r → ts.entryFails own q = false := by
  obtain ⟨rest, hl⟩ := List.head?_eq_some_iff.mp (firstFailure_eq ts own ▸ h)
  have hsorted := pairwise_failures ts own
  rw [hl, List.pairwise_cons] at hsorted
  refine ⟨mem_failures.mp (hl ▸ List.mem_cons_self), fun q hq => Bool.eq_false_iff.mpr fun hf => ?_⟩
  rcases List.mem_cons.mp (hl ▸ mem_failures.mpr hf) with rfl | hmem
  · exact TableRef.not_before_of_before hq hq
  · exact TableRef.not_before_of_before hq (hsorted.1 q hmem)

/-! ### What each check charges to an entry (R16) -/

theorem entryFails_res (ts : Tables) (own : Nat) (r : ResId) : ts.entryFails own ⟨0, r.val⟩ = ts.resFails r := by
  simp [Tables.entryFails]

theorem entryFails_house (ts : Tables) (own : Nat) (h : HouseId) :
    ts.entryFails own ⟨1, h.val⟩ = ts.houseFails own h := by
  simp [Tables.entryFails]

theorem entryFails_pump (ts : Tables) (own : Nat) (p : PumpId) : ts.entryFails own ⟨2, p.val⟩ = ts.pumpFails p := by
  simp [Tables.entryFails]

theorem entryFails_site (ts : Tables) (own : Nat) : ts.entryFails own ⟨3, 0⟩ = ts.siteFails own := by
  simp [Tables.entryFails]

theorem entryFails_band (ts : Tables) (own : Nat) (i : Fin 36) : ts.entryFails own ⟨4, i.val⟩ = ts.bandFails i := by
  simp [Tables.entryFails]

theorem entryFails_calendar (ts : Tables) (own : Nat) (i : CalId) : ts.entryFails own ⟨6, i.val⟩ = ts.calFails i := by
  simp [Tables.entryFails]

theorem entryFails_plan (ts : Tables) (own : Nat) (h : HouseId) : ts.entryFails own ⟨7, h.val⟩ = ts.planFails h := by
  simp [Tables.entryFails]

theorem resFails_iff (ts : Tables) (r : ResId) : ts.resFails r = true ↔
    (ts.reservoir.get r).station ≠ 0 ∧ ¬((ts.reservoir.get r).emerg < (ts.reservoir.get r).overflow
      ∧ (ts.reservoir.get r).dryCut + (ts.reservoir.get r).dryHyst < (ts.reservoir.get r).height) := by
  simp [Tables.resFails, ResEntry.used]
  omega

theorem mem_usedHouses {ts : Tables} {h : HouseId} : h ∈ ts.usedHouses ↔ (ts.house.get h).station ≠ 0 := by
  simp [Tables.usedHouses, allHouses, HouseEntry.used]

theorem mem_tablesPumpsOf {ts : Tables} {h : HouseId} {p : PumpId} :
    p ∈ ts.pumpsOf h ↔ (ts.pump.get p).house = some h := by
  simp [Tables.pumpsOf, allPumps]

theorem stationTaken_iff (ts : Tables) (own : Nat) (h : HouseId) : ts.stationTaken own h = true ↔
    own ≠ ts.site.supervisor ∧ ((ts.house.get h).station = own ∨ (ts.house.get h).station = ts.site.supervisor
      ∨ ∃ g, g < h ∧ (ts.house.get g).station ≠ 0 ∧ (ts.house.get g).station = (ts.house.get h).station) := by
  simp [Tables.stationTaken, mem_usedHouses, or_assoc, and_left_comm]

theorem reservoirsGood_false_iff (ts : Tables) (h : HouseId) : ts.reservoirsGood h = false ↔
    ¬(ts.reservoir.get (ts.house.get h).delivery).station ≠ 0
      ∨ ∃ r, (ts.house.get h).suction = some r
        ∧ (¬(ts.reservoir.get r).station ≠ 0 ∨ r = (ts.house.get h).delivery) := by
  unfold Tables.reservoirsGood ResEntry.used
  cases hs : (ts.house.get h).suction with
  | none => simp [hs]
  | some r => simp [hs, Classical.or_iff_not_imp_left]

theorem deliveryTaken_iff (ts : Tables) (h : HouseId) : ts.deliveryTaken h = true ↔
    ∃ g, g < h ∧ (ts.house.get g).station ≠ 0 ∧ (ts.house.get g).delivery = (ts.house.get h).delivery := by
  simp [Tables.deliveryTaken, mem_usedHouses, and_left_comm]

/-- Two pumps of a house in one slot are two used pumps, the lower-numbered first. -/
theorem slots_not_nodup_iff (ts : Tables) (h : HouseId) :
    ¬((ts.pumpsOf h).map fun p => (ts.pump.get p).slot).Nodup ↔
      ∃ p q, p < q ∧ (ts.pump.get p).house = some h ∧ (ts.pump.get q).house = some h
        ∧ (ts.pump.get p).slot = (ts.pump.get q).slot := by
  have hsorted : (ts.pumpsOf h).Pairwise (· < ·) := (List.pairwise_lt_finRange 32).filter _
  constructor
  · intro hn
    by_contra hno
    push Not at hno
    refine hn (List.pairwise_map.mpr (hsorted.imp_of_mem fun ha hb hab => ?_))
    exact hno _ _ hab (mem_tablesPumpsOf.mp ha) (mem_tablesPumpsOf.mp hb)
  · rintro ⟨p, q, hpq, hp, hq, hslot⟩ hn
    have := List.inj_on_of_nodup_map hn (mem_tablesPumpsOf.mpr hp) (mem_tablesPumpsOf.mpr hq) hslot
    exact absurd this hpq.ne

theorem pumpsGood_false_iff (ts : Tables) (h : HouseId) : ts.pumpsGood h = false ↔
    ts.pumpsOf h = [] ∨ (∃ p q, p < q ∧ (ts.pump.get p).house = some h ∧ (ts.pump.get q).house = some h
      ∧ (ts.pump.get p).slot = (ts.pump.get q).slot) ∨ (ts.pumpsOf h).length < (ts.house.get h).maxRun := by
  rw [← slots_not_nodup_iff]
  simp [Tables.pumpsGood, Classical.or_iff_not_imp_left]

theorem houseFails_iff (ts : Tables) (own : Nat) (h : HouseId) : ts.houseFails own h = true ↔
    (ts.house.get h).station ≠ 0 ∧ (ts.stationTaken own h = true ∨ ts.reservoirsGood h = false
      ∨ ts.deliveryTaken h = true ∨ ts.pumpsGood h = false) := by
  simp [Tables.houseFails, HouseEntry.used, or_assoc]

theorem pumpFails_iff (ts : Tables) (p : PumpId) : ts.pumpFails p = true ↔
    ∃ h, (ts.pump.get p).house = some h ∧ ¬(ts.house.get h).station ≠ 0 := by
  unfold Tables.pumpFails
  cases (ts.pump.get p).house <;> simp [HouseEntry.used]

theorem siteFails_iff (ts : Tables) (own : Nat) : ts.siteFails own = true ↔
    ts.site.siteLimit = 0 ∨ own = ts.site.supervisor ∨ ts.site.hold < 2 * ts.site.refresh
      ∨ ts.site.siteLimit < ts.site.fallbackBudget := by
  simp [Tables.siteFails, or_assoc]

theorem bandHouse_bandIndex (h : HouseId) (c : Tariff) : bandHouse (bandIndex h c) = h := by
  cases c <;> simp [bandHouse, bandIndex, Fin.ext_iff] <;> omega

theorem stagesGood_iff (b : BandEntry) : b.stagesGood = true ↔
    b.s1 < b.stop ∧ (b.s2 = 0 ∨ (b.s2 < b.s1 ∧ b.s2 + b.hyst < b.stop))
      ∧ (b.s3 = 0 ∨ (b.s2 ≠ 0 ∧ b.s3 < b.s2 ∧ b.s3 + b.hyst < b.stop))
      ∧ (b.s4 = 0 ∨ (b.s3 ≠ 0 ∧ b.s4 < b.s3 ∧ b.s4 + b.hyst < b.stop)) := by
  simp [BandEntry.stagesGood, and_assoc]

theorem bandFails_iff (ts : Tables) (i : Fin 36) : ts.bandFails i = true ↔
    (ts.house.get (bandHouse i)).station ≠ 0 ∧ ¬((ts.band.get i).stagesGood = true
      ∧ (ts.band.get i).stop < (ts.reservoir.get (ts.house.get (bandHouse i)).delivery).overflow
      ∧ (ts.reservoir.get (ts.house.get (bandHouse i)).delivery).overflow
        ≤ (ts.reservoir.get (ts.house.get (bandHouse i)).delivery).height) := by
  simp only [Tables.bandFails, HouseEntry.used, Bool.and_eq_true, bne_iff_ne, Bool.not_eq_true',
    Bool.eq_false_iff, ne_eq, decide_eq_true_eq, and_assoc]

theorem calFails_iff (ts : Tables) (i : CalId) : ts.calFails i = true ↔ ∃ m, (ts.calendar.get i).start = some m
    ∧ ((∃ j, j < i ∧ (ts.calendar.get j).start = some m) ∨ ts.site.siteLimit < (ts.calendar.get i).budget) := by
  unfold Tables.calFails Tables.calShares Tables.calOverLimit CalEntry.used
  cases (ts.calendar.get i).start <;> simp

theorem planFails_iff (ts : Tables) (h : HouseId) : ts.planFails h = true ↔
    (ts.house.get h).station ≠ 0 ∧ (ts.plan.get h).rotate ≠ 0
      ∧ ∃ p, (ts.pump.get p).house = some h ∧ (ts.plan.get h).rotate < (ts.pump.get p).minRun := by
  simp [Tables.planFails, HouseEntry.used, mem_tablesPumpsOf, and_assoc]

/-- Settles O43: the failing entries form a list sorted in table order, whose head is reported, and each check is written
out by its own lemma. -/
theorem consistencyFirst : Obligations.ConsistencyFirst := by
  intro ts own
  refine ⟨firstFailure_none_iff ts own, fun r hr => firstFailure_first hr, fun r => ?_, fun h => ?_, fun p => ?_, ?_,
    fun h c => ?_, fun i => rfl, fun i => ?_, fun h => ?_⟩
  · exact (Bool.eq_iff_iff.mp (entryFails_res ts own r)).trans (resFails_iff ts r)
  · have key := houseFails_iff ts own h
    rw [stationTaken_iff, reservoirsGood_false_iff, deliveryTaken_iff, pumpsGood_false_iff, or_assoc] at key
    exact (Bool.eq_iff_iff.mp (entryFails_house ts own h)).trans key
  · exact (Bool.eq_iff_iff.mp (entryFails_pump ts own p)).trans (pumpFails_iff ts p)
  · exact (Bool.eq_iff_iff.mp (entryFails_site ts own)).trans (siteFails_iff ts own)
  · have key := bandFails_iff ts (bandIndex h c)
    rw [bandHouse_bandIndex, stagesGood_iff] at key
    simp only [and_assoc] at key
    exact (Bool.eq_iff_iff.mp (entryFails_band ts own (bandIndex h c))).trans key
  · exact (Bool.eq_iff_iff.mp (entryFails_calendar ts own i)).trans (calFails_iff ts i)
  · exact (Bool.eq_iff_iff.mp (entryFails_plan ts own h)).trans (planFails_iff ts h)

end Sys2Proof.Machine

/-! ## Writing tables (R10, R178, R180) -/

namespace Sys2Proof.Machine

/-! ### The words of an entry as its range test reads it -/

/-- A number that is within a range names itself. -/
theorem val_of_inRange {m n : Nat} {r : Fin m} (h : (if hn : n < m then some (⟨n, hn⟩ : Fin m) else none) = some r) :
    r.val = n := by
  split at h
  · exact congrArg Fin.val (Option.some.inj h).symm
  · cases h

theorem val_of_resOf {n : Nat} {r : ResId} (h : resOf n = some r) : r.val = n := val_of_inRange h

theorem val_of_houseOf {n : Nat} {r : HouseId} (h : houseOf n = some r) : r.val = n := val_of_inRange h

theorem val_of_slotOf {n : Nat} {r : SlotId} (h : slotOf n = some r) : r.val = n := val_of_inRange h

theorem code_of_tariffOf {n : Nat} {c : Tariff} (h : tariffOf n = some c) : tariffCode c = n := by
  unfold tariffOf at h
  split at h <;> cases h <;> rfl

/-- A suction word of 0-15 or NONE is read back as it was written (R4). -/
theorem suction_word {n : Nat} (h : (within 0 n 15 || n == noneWord) = true) :
    ((resOf n).map (·.val)).getD noneWord = n := by
  simp only [within, Bool.or_eq_true, Bool.and_eq_true, decide_eq_true_eq, beq_iff_eq, noneWord] at h ⊢
  unfold resOf
  split
  · rfl
  · simp; omega

theorem words_of_parseRes {w : List Nat} {e : ResEntry} (h : parseRes w = some e) :
    e.words = storedWords .reservoir w := by
  unfold parseRes at h
  split at h
  · split at h
    · next h0 => obtain rfl := Option.some.inj h; simp [storedWords, h0]
    · next h0 =>
      split at h
      · obtain rfl := Option.some.inj h; simp [storedWords, h0, ResEntry.words]
      · cases h
  · cases h

theorem words_of_parseHouse {w : List Nat} {e : HouseEntry} (h : parseHouse w = some e) :
    e.words = storedWords .house w := by
  unfold parseHouse at h
  split at h
  · split at h
    · next h0 => obtain rfl := Option.some.inj h; simp [storedWords, h0]
    · next h0 =>
      split at h
      · next d hd =>
        split at h
        · next hin =>
          obtain rfl := Option.some.inj h
          simp only [Bool.and_eq_true] at hin
          obtain ⟨⟨⟨-, hsuction⟩, -⟩, -⟩ := hin
          simp [storedWords, h0, HouseEntry.words, val_of_resOf hd, suction_word hsuction]
        · cases h
      · cases h
  · cases h

theorem words_of_parsePump {w : List Nat} {e : PumpEntry} (h : parsePump w = some e) :
    e.words = storedWords .pump w := by
  unfold parsePump at h
  split at h
  · split at h
    · next h0 => obtain rfl := Option.some.inj h; simp [storedWords, h0]
    · next h0 =>
      split at h
      · next g k hg hk =>
        split at h
        · obtain rfl := Option.some.inj h
          simp [storedWords, h0, PumpEntry.words, val_of_houseOf hg, val_of_slotOf hk]
        · cases h
      · cases h
  · cases h

theorem words_of_parseSite {w : List Nat} {e : SiteEntry} (h : parseSite w = some e) :
    e.words = storedWords .site w := by
  unfold parseSite at h
  split at h
  · split at h
    · obtain rfl := Option.some.inj h; rfl
    · cases h
  · cases h

theorem words_of_parseBand {w : List Nat} {e : BandEntry} (h : parseBand w = some e) :
    e.words = storedWords .band w := by
  unfold parseBand at h
  split at h
  · split at h
    · obtain rfl := Option.some.inj h; rfl
    · cases h
  · cases h

theorem words_of_parseDraw {w : List Nat} {e : DrawEntry} (h : parseDraw w = some e) :
    e.words = storedWords .draw w := by
  unfold parseDraw at h
  split at h
  · split at h
    · obtain rfl := Option.some.inj h; rfl
    · cases h
  · cases h

theorem words_of_parseCal {w : List Nat} {e : CalEntry} (h : parseCal w = some e) :
    e.words = storedWords .calendar w := by
  unfold parseCal at h
  split at h
  · split at h
    · next h0 => obtain rfl := Option.some.inj h; simp [storedWords, h0]
    · next h0 =>
      split at h
      · next c hc =>
        split at h
        · obtain rfl := Option.some.inj h
          simp [storedWords, h0, CalEntry.words, code_of_tariffOf hc]
        · cases h
      · cases h
  · cases h

theorem words_of_parsePlan {w : List Nat} {e : PlanEntry} (h : parsePlan w = some e) :
    e.words = storedWords .plan w := by
  unfold parsePlan at h
  split at h
  · split at h
    · obtain rfl := Option.some.inj h; rfl
    · cases h
  · cases h

/-! ### One entry written -/

theorem length_tableWords (ts : Tables) (x : TableId) : (tableWords ts x).length = entryCount x := by
  cases x <;> simp [tableWords, entryCount]

/-- Replacing entry `i` replaces its words. -/
theorem map_putAt {α : Type} {n : Nat} (v : Vector α n) (words : α → List Nat) (i : Nat) {o : Option α} {w : List Nat}
    (ho : o.isSome = true) (hw : ∀ e, o = some e → words e = w) :
    (putAt v i o).toList.map words = (v.toList.map words).set i w := by
  obtain ⟨e, rfl⟩ := Option.isSome_iff_exists.mp ho
  rw [← hw e rfl, ← List.map_set]
  simp [putAt]

theorem tableWords_writeEntry {x : TableId} {i : Nat} {w : List Nat} (ts : Tables) (hok : entryOk x w = true)
    (hi : i < entryCount x) : tableWords (writeEntry x i w ts) x = (tableWords ts x).set i (storedWords x w) := by
  cases x with
  | reservoir => exact map_putAt _ _ _ hok fun _ => words_of_parseRes
  | house => exact map_putAt _ _ _ hok fun _ => words_of_parseHouse
  | pump => exact map_putAt _ _ _ hok fun _ => words_of_parsePump
  | site =>
    obtain ⟨e, he⟩ := Option.isSome_iff_exists.mp hok
    obtain rfl : i = 0 := by simpa [entryCount] using hi
    simp [tableWords, writeEntry, he, words_of_parseSite he]
  | band => exact map_putAt _ _ _ hok fun _ => words_of_parseBand
  | draw => exact map_putAt _ _ _ hok fun _ => words_of_parseDraw
  | calendar => exact map_putAt _ _ _ hok fun _ => words_of_parseCal
  | plan => exact map_putAt _ _ _ hok fun _ => words_of_parsePlan

/-- A write of one table leaves every other table as it was. -/
theorem tableWords_writeEntry_other {x y : TableId} (hxy : y ≠ x) (i : Nat) (w : List Nat) (ts : Tables) :
    tableWords (writeEntry x i w ts) y = tableWords ts y := by
  cases x <;> cases y <;> trivial

/-! ### Several entries written -/

theorem tableWords_writeEntries_other {x y : TableId} (hxy : y ≠ x) (first : Nat) (ws : List (List Nat)) (ts : Tables) :
    tableWords (writeEntries x first ws ts) y = tableWords ts y := by
  induction ws generalizing first ts with
  | nil => rfl
  | cons w rest ih => rw [writeEntries, ih, tableWords_writeEntry_other hxy]

/-- Entry `j` after a write: the words stored for it where it was written, its own words before otherwise. -/
theorem tableWords_writeEntries {x : TableId} {first : Nat} {ws : List (List Nat)} (ts : Tables)
    (hok : ∀ w ∈ ws, entryOk x w = true) (hroom : first + ws.length ≤ entryCount x) (j : Nat) :
    (tableWords (writeEntries x first ws ts) x)[j]? =
      if first ≤ j ∧ j < first + ws.length then some (storedWords x (ws.getD (j - first) []))
      else (tableWords ts x)[j]? := by
  induction ws generalizing first ts with
  | nil => rw [if_neg (by simp)]; rfl
  | cons w rest ih =>
    obtain ⟨hw, hrest⟩ := List.forall_mem_cons.mp hok
    rw [List.length_cons] at hroom ⊢
    have hfirst : first < entryCount x := by omega
    rw [writeEntries, ih _ hrest (by omega), tableWords_writeEntry ts hw hfirst, List.getElem?_set]
    rcases lt_trichotomy j first with hj | rfl | hj
    · rw [if_neg (by omega), if_neg (by omega), if_neg (by omega)]
    · simp [length_tableWords, hfirst]
    · obtain ⟨d, rfl⟩ : ∃ d, j = first + 1 + d := ⟨j - first - 1, by omega⟩
      have hd : first + 1 + d - first = d + 1 := by omega
      by_cases hlt : d < rest.length
      · rw [if_pos (by omega), if_pos (by omega), hd, List.getD_cons_succ, Nat.add_sub_cancel_left]
      · rw [if_neg (by omega), if_neg (by omega), if_neg (by omega)]

/-- Settles O34: the write is a replacement of words entry by entry. -/
theorem writeReadBack : Obligations.WriteReadBack := fun _ first ws ts hok hroom =>
  ⟨tableWords_writeEntries ts hok hroom, fun _ hxy => tableWords_writeEntries_other hxy first ws ts⟩

end Sys2Proof.Machine

/-! ## Records touched by an operation -/

namespace Sys2Proof.Machine

/-! ### What stands while the engine is not in RUN (R124, R129, R137) -/

theorem shed_of_not_run {s : State} (he : s.engine ≠ .run) (k : Ctx) : shed k s = s := if_neg he

theorem active_of_not_run {s : State} (he : s.engine ≠ .run) (h : HouseId) : s.active h = false := by
  simp [State.active, he]

theorem derive_of_not_active {s : State} {h : HouseId} (ha : s.active h = false) (k : Ctx) (forced : Bool) :
    derive k forced h s = s := by
  simp [derive, ha]

theorem consider_of_not_run {s : State} (he : s.engine ≠ .run) (k : Ctx) : consider k s = s := by
  simp [consider, he]

@[simp] theorem engine_recompute (s : State) : (recompute s).engine = s.engine :=
  engine_of_apartOrders (apartOrders_recompute s)

theorem loadFell_of_not_run {s : State} (he : s.engine ≠ .run) (k : Ctx) : loadFell k s = recompute s :=
  consider_of_not_run (by rwa [engine_recompute]) k

theorem loadRose_of_not_run {s : State} (he : s.engine ≠ .run) (k : Ctx) : loadRose k s = recompute s := by
  have her : (recompute s).engine ≠ .run := by rwa [engine_recompute]
  simp only [loadRose, onlyIf, consider_of_not_run her, ite_self, shed_of_not_run her]

theorem arbiterLatch_of_not_run {s : State} (he : s.engine ≠ .run) (k : Ctx) : arbiterLatch k s = recompute s := by
  have her : (recompute s).engine ≠ .run := by rwa [engine_recompute]
  unfold arbiterLatch
  rw [consider_of_not_run her, shed_of_not_run her]

/-- A change of site load outside RUN does no more than recompute the window (R62). -/
theorem loadChanged_of_not_run {s : State} (he : s.engine ≠ .run) (k : Ctx) (before : Nat) :
    loadChanged k before s = s ∨ loadChanged k before s = recompute s := by
  unfold loadChanged
  rw [loadRose_of_not_run he, loadFell_of_not_run he]
  split
  · exact .inr rfl
  · split
    · exact .inr rfl
    · exact .inl rfl

/-! ### Fields that stand apart from the alarms and the supervisory output -/

section

variable {s t : State}

theorem res_of_apartAlarms (h : t.apartAlarms = s.apartAlarms) (r : ResId) : t.res r = s.res r := by
  have e := congrArg (fun u : State => u.res r) h; exact e

theorem station_of_apartAlarms (h : t.apartAlarms = s.apartAlarms) (i : HouseId) : t.station i = s.station i := by
  have e := congrArg (fun u : State => u.station i) h; exact e

theorem tables_of_apartAlarms (h : t.apartAlarms = s.apartAlarms) : t.tables = s.tables := by
  have e := congrArg (fun u : State => u.tables) h; exact e

theorem now_of_apartAlarms (h : t.apartAlarms = s.apartAlarms) : t.now = s.now := by
  have e := congrArg (fun u : State => u.now) h; exact e

theorem engine_of_apartAlarms (h : t.apartAlarms = s.apartAlarms) : t.engine = s.engine := by
  have e := congrArg (fun u : State => u.engine) h; exact e

/-- A state apart from its alarms is the state with other alarms, responses and supervisory output. -/
theorem eq_of_apartAlarms (h : t.apartAlarms = s.apartAlarms) :
    t = { s with alarms := t.alarms, responses := t.responses, sup := t.sup } := by
  cases s; cases t
  simp only [State.apartAlarms, State.mk.injEq] at h ⊢
  simp_all

theorem resE_eq_of_tables (h : t.tables = s.tables) (r : ResId) : t.resE r = s.resE r := by
  unfold State.resE; rw [h]

theorem houseE_eq_of_tables (h : t.tables = s.tables) (g : HouseId) : t.houseE g = s.houseE g := by
  unfold State.houseE; rw [h]

theorem pumpE_eq_of_tables (h : t.tables = s.tables) (p : PumpId) : t.pumpE p = s.pumpE p := by
  unfold State.pumpE; rw [h]

theorem pumpsOf_eq_of_tables (h : t.tables = s.tables) (g : HouseId) : t.pumpsOf g = s.pumpsOf g := by
  unfold State.pumpsOf State.pumpE; rw [h]

theorem concerned_eq_of_tables (h : t.tables = s.tables) (r : ResId) : t.concerned r = s.concerned r := by
  unfold State.concerned State.houseE; rw [h]

theorem reached_eq_of_now (h : t.now = s.now) (m : Second) (l : Nat) : t.reached m l = s.reached m l := by
  unfold State.reached State.since; rw [h]

end

/-! ### Reading the records after an operation on the alarm list -/

section

variable (s : State) (k : AlarmKind) (o : Nat) (v : Option Nat) (d : Side)

@[simp] theorem res_clear (r : ResId) : (clear k o s).res r = s.res r := res_of_apartAlarms (apartAlarms_clear s k o) r
@[simp] theorem pump_clear (p : PumpId) : (clear k o s).pump p = s.pump p := pump_of_apartAlarms (apartAlarms_clear s k o) p
@[simp] theorem house_clear (h : HouseId) : (clear k o s).house h = s.house h :=
  house_of_apartAlarms (apartAlarms_clear s k o) h
@[simp] theorem station_clear (h : HouseId) : (clear k o s).station h = s.station h :=
  station_of_apartAlarms (apartAlarms_clear s k o) h
@[simp] theorem tables_clear : (clear k o s).tables = s.tables := tables_of_apartAlarms (apartAlarms_clear s k o)
@[simp] theorem now_clear : (clear k o s).now = s.now := now_of_apartAlarms (apartAlarms_clear s k o)
@[simp] theorem engine_clear : (clear k o s).engine = s.engine := engine_of_apartAlarms (apartAlarms_clear s k o)
@[simp] theorem marks_clear : (clear k o s).marks = s.marks := marks_of_apartAlarms (apartAlarms_clear s k o)
@[simp] theorem pumps_clear : (clear k o s).pumps = s.pumps := pumps_of_apartAlarms (apartAlarms_clear s k o)

@[simp] theorem res_raise (r : ResId) : (raise k o v d s).res r = s.res r :=
  res_of_apartAlarms (apartAlarms_raise s k o v d) r
@[simp] theorem pump_raise (p : PumpId) : (raise k o v d s).pump p = s.pump p :=
  pump_of_apartAlarms (apartAlarms_raise s k o v d) p
@[simp] theorem tables_raise : (raise k o v d s).tables = s.tables := tables_of_apartAlarms (apartAlarms_raise s k o v d)
@[simp] theorem now_raise : (raise k o v d s).now = s.now := now_of_apartAlarms (apartAlarms_raise s k o v d)
@[simp] theorem engine_raise : (raise k o v d s).engine = s.engine := engine_of_apartAlarms (apartAlarms_raise s k o v d)
@[simp] theorem marks_raise : (raise k o v d s).marks = s.marks := marks_of_apartAlarms (apartAlarms_raise s k o v d)

end

/-! ### Marks -/

theorem markAll_eq (hs : List HouseId) (s : State) : markAll hs s = { s with marks := s.marks ++ hs } := by
  unfold markAll
  induction hs generalizing s with
  | nil => simp
  | cons h rest ih => rw [List.foldl_cons, ih]; simp [mark]

theorem mem_concerned {s : State} {r : ResId} {h : HouseId} : h ∈ s.concerned r ↔
    (s.houseE h).used = true ∧ ((s.houseE h).delivery = r ∨ (s.houseE h).suction = some r) := by
  simp [State.concerned, allHouses]

theorem mem_pumpsOf {s : State} {h : HouseId} {p : PumpId} : p ∈ s.pumpsOf h ↔ (s.pumpE p).house = some h := by
  simp [State.pumpsOf, allPumps]

theorem nodup_allPumps : allPumps.Nodup := List.nodup_finRange 32

theorem nodup_allHouses : allHouses.Nodup := List.nodup_finRange 12

theorem mem_allPumps (p : PumpId) : p ∈ allPumps := List.mem_finRange p

theorem mem_allHouses (h : HouseId) : h ∈ allHouses := List.mem_finRange h

theorem nodup_pumpsOf (s : State) (h : HouseId) : (s.pumpsOf h).Nodup := nodup_allPumps.filter _

theorem atHouseOf_none {s : State} {p : PumpId} (f : HouseId → State → State) (hp : (s.pumpE p).house = none) :
    atHouseOf p f s = s := by
  simp [atHouseOf, hp]

theorem atHouseOf_some {s : State} {p : PumpId} {h : HouseId} (f : HouseId → State → State)
    (hp : (s.pumpE p).house = some h) : atHouseOf p f s = f h s := by
  simp [atHouseOf, hp]

/-- The mark of a pump's house changes the marks alone. -/
theorem markPump_eq (p : PumpId) (s : State) :
    markPump p s = { s with marks := s.marks ++ (s.pumpE p).house.toList } := by
  unfold markPump
  cases hp : (s.pumpE p).house with
  | none => rw [atHouseOf_none _ hp]; simp
  | some h => rw [atHouseOf_some _ hp]; rfl

@[simp] theorem pump_markPump (p q : PumpId) (s : State) : (markPump p s).pump q = s.pump q := by rw [markPump_eq]; rfl
@[simp] theorem tables_markPump (p : PumpId) (s : State) : (markPump p s).tables = s.tables := by rw [markPump_eq]
@[simp] theorem engine_markPump (p : PumpId) (s : State) : (markPump p s).engine = s.engine := by rw [markPump_eq]

theorem mem_marks_markPump {p : PumpId} {s : State} {h : HouseId} (hp : (s.pumpE p).house = some h) :
    h ∈ (markPump p s).marks := by
  rw [markPump_eq, hp]
  exact List.mem_append_right _ (List.mem_singleton_self h)

/-! ### The records an operation touches -/

/-- A state apart from its alarms, its marks and the records of reservoirs, pumps, stations and houses. -/
def State.apartRecords (s : State) : State :=
  { s.apartMarks with
    reservoirs := .replicate 16 (.fresh 0)
    pumps := .replicate 32 (.fresh .unused 0 .inService)
    stations := .replicate 12 (.fresh 0)
    houses := .replicate 12 (.fresh .auto 0) }

/-- From `s` to `t` no more than alarms, new marks and the records of these reservoirs, pumps and houses have moved. -/
structure Touches (R : ResId → Prop) (P : PumpId → Prop) (H : HouseId → Prop) (s t : State) : Prop where
  apart : t.apartRecords = s.apartRecords
  res : ∀ r, ¬R r → t.res r = s.res r
  pump : ∀ p, ¬P p → t.pump p = s.pump p
  house : ∀ h, ¬H h → t.house h = s.house h
  station : ∀ h, ¬H h → t.station h = s.station h
  marks : ∀ h, h ∈ s.marks → h ∈ t.marks

/-- No record of a kind. -/
def noRecord {α : Type} : α → Prop := fun _ => False

section

variable {R R' : ResId → Prop} {P P' : PumpId → Prop} {H H' : HouseId → Prop} {s t u : State}

namespace Touches

theorem refl (s : State) : Touches R P H s s :=
  ⟨rfl, fun _ _ => rfl, fun _ _ => rfl, fun _ _ => rfl, fun _ _ => rfl, fun _ hm => hm⟩

theorem trans (h₁ : Touches R P H s t) (h₂ : Touches R P H t u) : Touches R P H s u where
  apart := h₂.apart.trans h₁.apart
  res r hr := (h₂.res r hr).trans (h₁.res r hr)
  pump p hp := (h₂.pump p hp).trans (h₁.pump p hp)
  house h hh := (h₂.house h hh).trans (h₁.house h hh)
  station h hh := (h₂.station h hh).trans (h₁.station h hh)
  marks h hm := h₂.marks h (h₁.marks h hm)

theorem mono (h : Touches R P H s t) (hR : ∀ r, R r → R' r) (hP : ∀ p, P p → P' p) (hH : ∀ g, H g → H' g) :
    Touches R' P' H' s t where
  apart := h.apart
  res r hr := h.res r (mt (hR r) hr)
  pump p hp := h.pump p (mt (hP p) hp)
  house g hg := h.house g (mt (hH g) hg)
  station g hg := h.station g (mt (hH g) hg)
  marks := h.marks

theorem of_apartAlarms (h : t.apartAlarms = s.apartAlarms) : Touches R P H s t where
  apart := by have e := congrArg State.apartRecords h; exact e
  res r _ := res_of_apartAlarms h r
  pump p _ := pump_of_apartAlarms h p
  house g _ := house_of_apartAlarms h g
  station g _ := station_of_apartAlarms h g
  marks g hm := by rwa [marks_of_apartAlarms h]

theorem modRes {r : ResId} (f : Reservoir → Reservoir) (hr : R r) (s : State) : Touches R P H s (modRes r f s) where
  apart := rfl
  res q hq := by rw [res_modRes, if_neg fun e : q = r => hq (e ▸ hr)]
  pump _ _ := rfl
  house _ _ := rfl
  station _ _ := rfl
  marks _ hm := hm

theorem modPump {p : PumpId} (f : Pump → Pump) (hp : P p) (s : State) : Touches R P H s (modPump p f s) where
  apart := rfl
  res _ _ := rfl
  pump q hq := by rw [pump_modPump, if_neg fun e : q = p => hq (e ▸ hp)]
  house _ _ := rfl
  station _ _ := rfl
  marks _ hm := hm

theorem modHouse {h : HouseId} (f : House → House) (hh : H h) (s : State) : Touches R P H s (modHouse h f s) where
  apart := rfl
  res _ _ := rfl
  pump _ _ := rfl
  house g hg := by rw [house_modHouse, if_neg fun e : g = h => hg (e ▸ hh)]
  station _ _ := rfl
  marks _ hm := hm

theorem modStation {h : HouseId} (f : Station → Station) (hh : H h) (s : State) : Touches R P H s (modStation h f s) where
  apart := rfl
  res _ _ := rfl
  pump _ _ := rfl
  house _ _ := rfl
  station g hg := by rw [station_modStation, if_neg fun e : g = h => hg (e ▸ hh)]
  marks _ hm := hm

theorem onRes (r : ResId) (f : Reservoir → Reservoir) (s : State) : Touches (· = r) P H s (Machine.modRes r f s) :=
  modRes (R := (· = r)) f rfl s

theorem onPump (p : PumpId) (f : Pump → Pump) (s : State) : Touches R (· = p) H s (Machine.modPump p f s) :=
  modPump (P := (· = p)) f rfl s

theorem addMarks (hs : List HouseId) (s : State) : Touches R P H s { s with marks := s.marks ++ hs } where
  apart := rfl
  res _ _ := rfl
  pump _ _ := rfl
  house _ _ := rfl
  station _ _ := rfl
  marks _ hm := List.mem_append_left _ hm

theorem markAll (hs : List HouseId) (s : State) : Touches R P H s (markAll hs s) := by
  rw [markAll_eq]; exact addMarks hs s

theorem markPump (p : PumpId) (s : State) : Touches R P H s (markPump p s) := by
  rw [markPump_eq]; exact addMarks _ s

theorem clear (k : AlarmKind) (o : Nat) (s : State) : Touches R P H s (clear k o s) := of_apartAlarms (by simp)

theorem raise (k : AlarmKind) (o : Nat) (v : Option Nat) (d : Side) (s : State) : Touches R P H s (raise k o v d s) :=
  of_apartAlarms (by simp)

theorem onlyIf (b : Bool) {f : State → State} (hf : ∀ v, Touches R P H v (f v)) (s : State) :
    Touches R P H s (onlyIf b f s) := by
  unfold Machine.onlyIf
  split
  · exact hf s
  · exact refl s

/-- A fold moves no more than its operations do, where the engine state they rely on stands. -/
theorem foldl {α : Type} {f : State → α → State} {l : List α}
    (hf : ∀ v a, a ∈ l → v.apartRecords = s.apartRecords → Touches R P H v (f v a)) :
    Touches R P H s (l.foldl f s) := by
  suffices key : ∀ m : List α, (∀ a ∈ m, a ∈ l) → ∀ v, v.apartRecords = s.apartRecords → Touches R P H v (m.foldl f v) from
    key l (fun _ ha => ha) s rfl
  intro m
  induction m with
  | nil => exact fun _ v _ => refl v
  | cons a rest ih =>
    intro hm v hv
    obtain ⟨ha, hrest⟩ := List.forall_mem_cons.mp hm
    have h₁ := hf v a ha hv
    exact h₁.trans (ih hrest _ (h₁.apart.trans hv))

theorem tables (h : Touches R P H s t) : t.tables = s.tables := by
  have e := congrArg (fun v : State => v.tables) h.apart; exact e

theorem levelMap (h : Touches R P H s t) : t.levelMap = s.levelMap := by
  have e := congrArg (fun v : State => v.levelMap) h.apart; exact e

theorem pumpMap (h : Touches R P H s t) : t.pumpMap = s.pumpMap := by
  have e := congrArg (fun v : State => v.pumpMap) h.apart; exact e

theorem now (h : Touches R P H s t) : t.now = s.now := by
  have e := congrArg (fun v : State => v.now) h.apart; exact e

theorem engine (h : Touches R P H s t) : t.engine = s.engine := by
  have e := congrArg (fun v : State => v.engine) h.apart; exact e

end Touches

/-- A list with an element once, at its place. -/
theorem split_at_member {α : Type} {l : List α} {a : α} (hn : l.Nodup) (ha : a ∈ l) :
    ∃ before after, l = before ++ a :: after ∧ a ∉ before ∧ a ∉ after := by
  obtain ⟨before, after, rfl⟩ := List.append_of_mem ha
  obtain ⟨-, hafter, hdisjoint⟩ := List.nodup_append.mp hn
  exact ⟨before, after, rfl, fun hb => hdisjoint a hb a List.mem_cons_self rfl, (List.nodup_cons.mp hafter).1⟩

end

end Sys2Proof.Machine

/-! ## Levels: what the operations on one reservoir do to its record -/

namespace Sys2Proof.Machine

section

variable {P : PumpId → Prop} {H : HouseId → Prop} (r : ResId) (s : State)

@[simp] theorem res_onlyIf_clear (b : Bool) (k : AlarmKind) (o : Nat) (q : ResId) :
    (onlyIf b (clear k o) s).res q = s.res q := by
  unfold onlyIf; split <;> simp

@[simp] theorem tables_onlyIf_clear (b : Bool) (k : AlarmKind) (o : Nat) :
    (onlyIf b (clear k o) s).tables = s.tables := by
  unfold onlyIf; split <;> simp

theorem touches_testEmerg : Touches (· = r) P H s (testEmerg r s) := by
  have h : Touches (· = r) P H s (modRes r (fun x => { x with emergLow := s.isEmergLow r }) s) := .onRes ..
  unfold testEmerg
  dsimp only
  repeat' split
  · exact h.trans (.raise ..)
  · exact h.trans (.clear ..)
  · exact h

/-- The EMERGENCY_LOW test sets the condition held and nothing else of the record (R33). -/
theorem res_testEmerg : (testEmerg r s).res r = { s.res r with emergLow := s.isEmergLow r } := by
  unfold testEmerg
  dsimp only
  repeat' split
  all_goals simp

theorem touches_levelMoved : Touches (· = r) P H s (levelMoved r s) :=
  (touches_testEmerg r s).trans (.markAll ..)

theorem res_levelMoved : (levelMoved r s).res r = { s.res r with emergLow := s.isEmergLow r } := by
  unfold levelMoved markConcerned
  rw [markAll_eq]
  exact res_testEmerg r s

theorem touches_loseLevel : Touches (· = r) P H s (loseLevel r s) :=
  (((Touches.onRes r _ s).trans (.onlyIf _ (Touches.clear _ _) _)).trans (.raise ..)).trans (touches_levelMoved r _)

/-- The source becomes LOST without a pending level, with the level kept (R38). -/
theorem res_loseLevel :
    (loseLevel r s).res r = { s.res r with source := .lost, pending := none, emergLow := false } := by
  simp [loseLevel, res_levelMoved, State.isEmergLow, Source.usable]

theorem touches_watchEstimate : Touches (· = r) P H s (watchEstimate r s) := by
  unfold watchEstimate
  split
  · exact touches_loseLevel r s
  · exact .refl s

/-- Only an ESTIMATED reservoir is watched (R38). -/
theorem watchEstimate_of_not_estimated {r : ResId} {s : State} (h : (s.res r).source ≠ .estimated) :
    watchEstimate r s = s := if_neg fun hc => h hc.2.1

/-- The watch of an estimate leaves the level and the residue (R38). -/
theorem watchEstimate_level : ((watchEstimate r s).res r).level = (s.res r).level
    ∧ ((watchEstimate r s).res r).residue = (s.res r).residue := by
  unfold watchEstimate
  split
  · simp [res_loseLevel]
  · exact ⟨rfl, rfl⟩

theorem touches_watchEach (rs : List ResId) : Touches (· ∈ rs) P H s (rs.foldl (fun t q => watchEstimate q t) s) :=
  .foldl fun v q hq _ => (touches_watchEstimate q v).mono (fun _ e => e ▸ hq) (fun _ h => h) (fun _ h => h)

/-- Watching reservoirs leaves one that is not ESTIMATED as it was. -/
theorem res_watchEach_of_not_estimated {r : ResId} {s : State} (rs : List ResId) (h : (s.res r).source ≠ .estimated) :
    (rs.foldl (fun t q => watchEstimate q t) s).res r = s.res r := by
  induction rs generalizing s with
  | nil => rfl
  | cons q rest ih =>
    have hq : (watchEstimate q s).res r = s.res r := by
      by_cases e : r = q
      · subst e; rw [watchEstimate_of_not_estimated h]
      · exact (touches_watchEstimate (P := noRecord) (H := noRecord) q s).res r e
    rw [List.foldl_cons, ih (by rwa [hq]), hq]

/-- Watching reservoirs leaves every level and residue. -/
theorem watchEach_level (rs : List ResId) :
    ((rs.foldl (fun t q => watchEstimate q t) s).res r).level = (s.res r).level
      ∧ ((rs.foldl (fun t q => watchEstimate q t) s).res r).residue = (s.res r).residue := by
  induction rs generalizing s with
  | nil => exact ⟨rfl, rfl⟩
  | cons q rest ih =>
    have hq : ((watchEstimate q s).res r).level = (s.res r).level
        ∧ ((watchEstimate q s).res r).residue = (s.res r).residue := by
      by_cases e : r = q
      · subst e; exact watchEstimate_level r s
      · rw [(touches_watchEstimate (P := noRecord) (H := noRecord) q s).res r e]; exact ⟨rfl, rfl⟩
    rw [List.foldl_cons, (ih _).1, (ih _).2]
    exact hq

theorem touches_estimateOnce : Touches (· = r) P H s (estimateOnce r s) :=
  (Touches.onRes r _ s).trans (.onlyIf _ (touches_levelMoved r) _)

/-! ### A RESERVOIR entry written (R12) -/

theorem clearResAlarms_apart : (clearResAlarms r s).apartAlarms = s.apartAlarms := by simp [clearResAlarms]

theorem touches_resBegins : Touches (· = r) P H s (resBegins r s) :=
  ((Touches.onRes r _ s).trans (.of_apartAlarms (clearResAlarms_apart r _))).trans
    (.onlyIf _ (Touches.markAll _) _)

/-- A record that begins again has R25's values at this second, and marks the houses concerned where it had a source. -/
theorem resBegins_effect : (resBegins r s).res r = .fresh s.now
    ∧ ((s.res r).source ≠ .noData → ∀ h ∈ s.concerned r, h ∈ (resBegins r s).marks) := by
  have htables := tables_of_apartAlarms (clearResAlarms_apart r (modRes r (fun _ => .fresh s.now) s))
  have hres := res_of_apartAlarms (clearResAlarms_apart r (modRes r (fun _ => .fresh s.now) s)) r
  rw [res_modRes_same] at hres
  unfold resBegins onlyIf markConcerned
  split
  · next hs =>
    rw [markAll_eq, concerned_eq_of_tables htables]
    exact ⟨hres, fun _ h hh => List.mem_append_right _ hh⟩
  · next hs => exact ⟨hres, fun hne => absurd (bne_iff_ne.mpr hne) hs⟩

theorem touches_refitRes : Touches (· = r) P H s (refitRes r s) :=
  (Touches.onRes r _ s).trans (.onlyIf _ (touches_testEmerg r) _)

/-- The record of a reservoir brought within its limits; EMERGENCY_LOW is tested where the level changed (R12, R33). -/
theorem res_refitRes : (refitRes r s).res r = { fitReservoir (s.resE r) (s.res r) with
    emergLow := if (s.res r).level ≤ (s.resE r).height then (s.res r).emergLow
      else (s.res r).source.usable && decide ((s.resE r).height ≤ (s.resE r).emerg) } := by
  unfold refitRes onlyIf
  by_cases hl : (s.res r).level ≤ (s.resE r).height
  · simp [fitReservoir, hl]
  · have hmin : min (s.res r).level (s.resE r).height = (s.resE r).height := by omega
    have hne : (s.resE r).height ≠ (s.res r).level := by omega
    simp [fitReservoir, res_testEmerg, State.isEmergLow, hl, hmin, hne]

theorem touches_resWritten (old : ResEntry) : Touches (· = r) P H s (resWritten old r s) := by
  unfold resWritten
  dsimp only
  split
  · exact touches_resBegins r s
  · exact (touches_refitRes r s).trans (.onlyIf _ (touches_estimateOnce r) _)

/-- A write that keeps station and channel and does not shorten the estimate step only refits the record. -/
theorem resWritten_refits {old : ResEntry} {r : ResId} {s : State} (hstation : old.station = (s.resE r).station)
    (hchannel : old.channel = (s.resE r).channel) (hstep : old.estStep ≤ (s.resE r).estStep) :
    resWritten old r s = refitRes r s := by
  simp [resWritten, hstation, hchannel, onlyIf, Nat.not_lt.mpr hstep]

end

end Sys2Proof.Machine

/-! ## Pumps and houses: run seconds, and the records a structural write begins again or refits -/

namespace Sys2Proof.Machine

/-! ### Run seconds brought up to date (R61) -/

/-- A pump record with its run seconds brought up to date. -/
def Pump.accruedAt (now : Second) (q : Pump) : Pump :=
  { q with
    runSeconds :=
      if q.run == .running || q.run == .stopOrdered then min (q.runSeconds + (now - q.accrualMark).toNat) 4294967295
      else q.runSeconds
    accrualMark := now }

theorem accrue_eq (p : PumpId) (s : State) : accrue p s = modPump p (Pump.accruedAt s.now) s := rfl

theorem pump_ofFn (s : State) (g : PumpId → Pump) (p : PumpId) :
    ({ s with pumps := Vector.ofFn g } : State).pump p = g p := by
  simp [State.pump, Vector.get_eq_getElem]

/-- The pump records replaced. -/
def setPumps (v : Vector Pump 32) (s : State) : State := { s with pumps := v }

theorem setPumps_setPumps (v w : Vector Pump 32) (s : State) : setPumps w (setPumps v s) = setPumps w s := rfl

theorem pumpsOf_setPumps (v : Vector Pump 32) (s : State) (h : HouseId) : (setPumps v s).pumpsOf h = s.pumpsOf h := rfl

/-- Several pumps updated at once, each from its own record. -/
def updatePumps (ps : List PumpId) (g : Pump → Pump) (s : State) : State :=
  setPumps (Vector.ofFn fun p => if p ∈ ps then g (s.pump p) else s.pump p) s

theorem pump_updatePumps (ps : List PumpId) (g : Pump → Pump) (s : State) (p : PumpId) :
    (updatePumps ps g s).pump p = if p ∈ ps then g (s.pump p) else s.pump p := pump_ofFn s _ p

theorem pumpsOf_updatePumps (ps : List PumpId) (g : Pump → Pump) (s : State) (h : HouseId) :
    (updatePumps ps g s).pumpsOf h = s.pumpsOf h := pumpsOf_setPumps _ s h

theorem updatePumps_updatePumps (ps : List PumpId) (f g : Pump → Pump) (s : State) :
    updatePumps ps g (updatePumps ps f s) = updatePumps ps (fun q => g (f q)) s := by
  have h : (fun p => if p ∈ ps then g ((updatePumps ps f s).pump p) else (updatePumps ps f s).pump p)
      = fun p => if p ∈ ps then g (f (s.pump p)) else s.pump p := by
    funext p
    rw [pump_updatePumps]
    split <;> rfl
  rw [updatePumps, h, updatePumps, setPumps_setPumps, updatePumps]

/-- An update of several pumps one by one is an update of all of them at once. -/
theorem foldl_modPump {ps : List PumpId} (hn : ps.Nodup) (g : Pump → Pump) (s : State) :
    ps.foldl (fun t p => modPump p g t) s = updatePumps ps g s := by
  induction ps generalizing s with
  | nil =>
    have : Vector.ofFn (fun p => s.pump p) = s.pumps := by
      apply Vector.ext
      intro i hi
      simp [State.pump, Vector.get_eq_getElem]
    simp [updatePumps, setPumps, this]
  | cons a rest ih =>
    obtain ⟨ha, hrest⟩ := List.nodup_cons.mp hn
    have h : (fun p => if p ∈ rest then g ((modPump a g s).pump p) else (modPump a g s).pump p)
        = fun p => if p ∈ a :: rest then g (s.pump p) else s.pump p := by
      funext p
      by_cases hp : p = a
      · subst hp; simp [ha]
      · simp [pump_modPump, hp]
    rw [List.foldl_cons, ih hrest, updatePumps, h]
    rfl

theorem accrueAll_eq {ps : List PumpId} (hn : ps.Nodup) (s : State) :
    accrueAll ps s = updatePumps ps (Pump.accruedAt s.now) s := by
  rw [← foldl_modPump hn]
  clear hn
  unfold accrueAll
  induction ps generalizing s with
  | nil => rfl
  | cons a rest ih => rw [List.foldl_cons, ih, List.foldl_cons, accrue_eq]; rfl

/-- Every pump's run seconds are brought up to date. -/
theorem accrueAll_allPumps (s : State) :
    accrueAll allPumps s = { s with pumps := Vector.ofFn fun p => (s.pump p).accruedAt s.now } := by
  simp [accrueAll_eq nodup_allPumps, updatePumps, setPumps, mem_allPumps]

/-! ### The window's recompute moves the arbiter and the alarms alone -/

/-- A recompute moves the window, the BUDGET_OVER condition and the alarms (R123, R132). -/
theorem recompute_window (s : State) : ∃ o b c d, recompute s = { s with
    arbiter := { s.arbiter with
      window := windowFor s.siteLoad s.budget s.site.budgetMargin s.arbiter.window, overBudget := o }
    alarms := b, responses := c, sup := d } := by
  have hover : ∀ v, ∃ o b c d, testOver v = { v with
      arbiter := { v.arbiter with overBudget := o }, alarms := b, responses := c, sup := d } := fun v => by
    unfold testOver onlyIf
    repeat' split
    · have h := eq_of_apartAlarms (apartAlarms_raise (modArbiter (fun a => { a with overBudget := true }) v)
        .budgetOver 0 (some v.siteLoad) .none)
      exact ⟨_, _, _, _, h⟩
    · exact ⟨_, _, _, _, rfl⟩
    · have h := eq_of_apartAlarms (apartAlarms_clear (modArbiter (fun a => { a with overBudget := false }) v)
        .budgetOver 0)
      exact ⟨_, _, _, _, h⟩
    · exact ⟨_, _, _, _, rfl⟩
  obtain ⟨o, b, c, d, h⟩ := hover
    (modArbiter (fun a => { a with window := windowFor s.siteLoad s.budget s.site.budgetMargin a.window }) s)
  exact ⟨o, b, c, d, h⟩

theorem recompute_eq (s : State) : ∃ a b c d,
    recompute s = { s with arbiter := a, alarms := b, responses := c, sup := d } := by
  obtain ⟨o, b, c, d, h⟩ := recompute_window s
  exact ⟨_, b, c, d, h⟩

/-- Outside RUN a change of site load moves the arbiter and the alarms alone. -/
theorem loadChanged_eq {s : State} (he : s.engine ≠ .run) (k : Ctx) (before : Nat) : ∃ a b c d,
    loadChanged k before s = { s with arbiter := a, alarms := b, responses := c, sup := d } := by
  rcases loadChanged_of_not_run he k before with h | h
  · exact ⟨_, _, _, _, h⟩
  · rw [h]; exact recompute_eq s

/-! ### A PUMP entry written (R12, R59, R60) -/

section

variable {R : ResId → Prop} {H : HouseId → Prop} (p : PumpId) (s : State)

theorem clearPumpAlarms_apart : (clearPumpAlarms p s).apartAlarms = s.apartAlarms := by simp [clearPumpAlarms]

theorem touches_pumpBegins : Touches R (· = p) H s (pumpBegins p s) :=
  (Touches.onPump p _ s).trans (.of_apartAlarms (clearPumpAlarms_apart p _))

theorem pump_pumpBegins : (pumpBegins p s).pump p =
    { Pump.fresh (if (s.pumpE p).used then .unknown else .unused) (s.pump p).runSeconds (s.pump p).service with
      history := if (s.pumpE p).used then (s.pump p).history else [] } :=
  (pump_of_apartAlarms (clearPumpAlarms_apart p _) p).trans (pump_modPump_same ..)

theorem touches_trimHistory : Touches R (· = p) H s (trimHistory p s) := by
  unfold trimHistory
  exact .onPump p _ s

theorem minRunOver_eq {s : State} (he : s.engine ≠ .run) (p : PumpId) :
    minRunOver p s = markPump p (modPump p (fun q => { q with minRunOpen := false }) s) := by
  unfold minRunOver
  exact shed_of_not_run (by rwa [engine_markPump]) _

theorem minOffOver_eq (p : PumpId) (s : State) :
    minOffOver p s = markPump p (modPump p (fun q => { q with minOffOpen := false }) s) := rfl

/-- A limit's flag closed where the write takes its expiry, with the mark of the house. -/
theorem touches_closeLimit (f : Pump → Pump) : Touches R (· = p) H s (markPump p (modPump p f s)) :=
  (Touches.onPump p f s).trans (.markPump ..)

/-- The min-run expiry that a shortened min-run takes at the write. -/
def shortenRun (old : PumpEntry) (p : PumpId) (s : State) : State :=
  onlyIf (decide ((s.pumpE p).minRun < old.minRun) && s.minRunDue p) (minRunOver p) s

/-- The min-off expiry that a shortened min-off takes at the write. -/
def shortenOff (old : PumpEntry) (p : PumpId) (s : State) : State :=
  onlyIf (decide ((s.pumpE p).minOff < old.minOff) && s.minOffDue p) (minOffOver p) s

variable {s}

theorem touches_shortenRun (he : s.engine ≠ .run) (old : PumpEntry) : Touches R (· = p) H s (shortenRun old p s) := by
  unfold shortenRun onlyIf
  split
  · rw [minRunOver_eq he]; exact touches_closeLimit p s _
  · exact .refl s

variable (s) in
theorem touches_shortenOff (old : PumpEntry) : Touches R (· = p) H s (shortenOff old p s) := by
  unfold shortenOff onlyIf
  split
  · exact touches_closeLimit p s _
  · exact .refl s

theorem limitsWritten_eq (he : s.engine ≠ .run) (old : PumpEntry) :
    limitsWritten old p s = reopenLimits p (shortenOff old p (shortenRun old p s)) := by
  have htables := (touches_shortenRun (R := noRecord) (H := noRecord) p he old).tables
  simp only [limitsWritten, shortenOff, pumpE_eq_of_tables htables]
  rfl

theorem touches_limitsWritten (he : s.engine ≠ .run) (old : PumpEntry) :
    Touches R (· = p) H s (limitsWritten old p s) := by
  rw [limitsWritten_eq p he]
  exact ((touches_shortenRun p he old).trans (touches_shortenOff p _ old)).trans (.onPump ..)

theorem pump_shortenRun (he : s.engine ≠ .run) (old : PumpEntry) : (shortenRun old p s).pump p =
    { s.pump p with minRunOpen := (s.pump p).minRunOpen
        && !(decide ((s.pumpE p).minRun < old.minRun) && s.minRunDue p) } := by
  unfold shortenRun onlyIf
  split
  · next h => simp [minRunOver_eq he, h]
  · next h => rw [Bool.not_eq_true] at h; simp [h]

theorem pump_shortenOff (old : PumpEntry) : (shortenOff old p s).pump p =
    { s.pump p with minOffOpen := (s.pump p).minOffOpen
        && !(decide ((s.pumpE p).minOff < old.minOff) && s.minOffDue p) } := by
  unfold shortenOff onlyIf
  split
  · next h => simp [minOffOver_eq, h]
  · next h => rw [Bool.not_eq_true] at h; simp [h]

/-- The record of a pump whose motor limits a write leaves: a limit shortened to a time elapsed is closed, and one raised
beyond it is open again (R59). -/
theorem pump_limitsWritten (he : s.engine ≠ .run) (old : PumpEntry) : (limitsWritten old p s).pump p =
    { s.pump p with
      minRunOpen := (s.pump p).minRunOpen && !(decide ((s.pumpE p).minRun < old.minRun) && s.minRunDue p)
        || (s.pump p).commandedRunning && !s.minRunDone p
      minOffOpen := (s.pump p).minOffOpen && !(decide ((s.pumpE p).minOff < old.minOff) && s.minOffDue p)
        || (s.pump p).run == .stopped && !s.minOffDone p } := by
  have h₁ := touches_shortenRun (R := noRecord) (H := noRecord) p he old
  have h₂ := h₁.trans (touches_shortenOff p _ old)
  have hpump : (shortenOff old p (shortenRun old p s)).pump p = { s.pump p with
      minRunOpen := (s.pump p).minRunOpen && !(decide ((s.pumpE p).minRun < old.minRun) && s.minRunDue p)
      minOffOpen := (s.pump p).minOffOpen && !(decide ((s.pumpE p).minOff < old.minOff) && s.minOffDue p) } := by
    have hoff : (shortenRun old p s).minOffDue p = s.minOffDue p := by
      simp only [State.minOffDue, State.minOffDone, pump_shortenRun p he, pumpE_eq_of_tables h₁.tables,
        reached_eq_of_now h₁.now]
    rw [pump_shortenOff, pump_shortenRun p he, pumpE_eq_of_tables h₁.tables, hoff]
  rw [limitsWritten_eq p he, reopenLimits, pump_modPump_same]
  simp only [State.minRunDone, State.minOffDone, hpump, pumpE_eq_of_tables h₂.tables, reached_eq_of_now h₂.now,
    Pump.commandedRunning]

/-- A limit that the write ends marks the house (R59). -/
theorem limitsWritten_marks (he : s.engine ≠ .run) {old : PumpEntry} {h : HouseId} (hp : (s.pumpE p).house = some h)
    (hdue : ((s.pumpE p).minRun < old.minRun ∧ s.minRunDue p = true)
      ∨ ((s.pumpE p).minOff < old.minOff ∧ s.minOffDue p = true)) : h ∈ (limitsWritten old p s).marks := by
  have h₁ := touches_shortenRun (R := noRecord) (H := noRecord) p he old
  rw [limitsWritten_eq p he]
  show h ∈ (shortenOff old p (shortenRun old p s)).marks
  rcases hdue with ⟨hlt, hdue⟩ | ⟨hlt, hdue⟩
  · refine (touches_shortenOff (R := noRecord) (H := noRecord) p _ old).marks h ?_
    rw [shortenRun, onlyIf, if_pos (by simp [hlt, hdue]), minRunOver_eq he]
    exact mem_marks_markPump hp
  · have hoff : (shortenRun old p s).minOffDue p = true := by
      rw [← hdue]
      simp only [State.minOffDue, State.minOffDone, pump_shortenRun p he, pumpE_eq_of_tables h₁.tables,
        reached_eq_of_now h₁.now]
    have hp' : ((shortenRun old p s).pumpE p).house = some h := by rw [pumpE_eq_of_tables h₁.tables, hp]
    rw [shortenOff, onlyIf, if_pos (by simp [hoff, pumpE_eq_of_tables h₁.tables, hlt]), minOffOver_eq]
    exact mem_marks_markPump hp'

/-- The record before its limits are written: begun again where the pump's place changed, with a trimmed history. -/
def placeWritten (old : PumpEntry) (p : PumpId) (s : State) : State :=
  trimHistory p (onlyIf (decide (old.house ≠ (s.pumpE p).house ∨ old.slot ≠ (s.pumpE p).slot)) (pumpBegins p) s)

variable (s) in
theorem touches_placeWritten (old : PumpEntry) : Touches R (· = p) H s (placeWritten old p s) :=
  (Touches.onlyIf _ (fun v => touches_pumpBegins p v) s).trans (touches_trimHistory p _)

theorem pumpWritten_eq (old : PumpEntry) : pumpWritten old p s = limitsWritten old p (placeWritten old p s) := rfl

theorem engine_placeWritten (he : s.engine ≠ .run) (old : PumpEntry) : (placeWritten old p s).engine ≠ .run := by
  rwa [(touches_placeWritten (R := noRecord) (H := noRecord) p s old).engine]

theorem touches_pumpWritten (he : s.engine ≠ .run) (old : PumpEntry) : Touches R (· = p) H s (pumpWritten old p s) :=
  (touches_placeWritten p s old).trans (touches_limitsWritten p (engine_placeWritten p he old) old)

/-- The record of a pump that has moved (R12, R46, R60). -/
theorem pump_placeWritten_moved {old : PumpEntry}
    (hmoved : old.house ≠ (s.pumpE p).house ∨ old.slot ≠ (s.pumpE p).slot) : ∃ l, (placeWritten old p s).pump p =
      { Pump.fresh (if (s.pumpE p).used then .unknown else .unused) (s.pump p).runSeconds (s.pump p).service with
        history := l } ∧ ((s.pumpE p).used = false → l = []) := by
  have hbegun := pump_pumpBegins p s
  refine ⟨((pumpBegins p s).pump p).history.drop
    (((pumpBegins p s).pump p).history.length - ((pumpBegins p s).pumpE p).maxStarts), ?_, fun hu => ?_⟩
  · rw [placeWritten, onlyIf, if_pos (decide_eq_true hmoved), trimHistory, pump_modPump_same, hbegun]
  · rw [hbegun]; simp [hu]

/-- The record of a pump that keeps its place: its history is trimmed (R60). -/
theorem pump_placeWritten_kept {old : PumpEntry} (hhouse : old.house = (s.pumpE p).house)
    (hslot : old.slot = (s.pumpE p).slot) : (placeWritten old p s).pump p = { s.pump p with
      history := (s.pump p).history.drop ((s.pump p).history.length - (s.pumpE p).maxStarts) } := by
  simp [placeWritten, onlyIf, hhouse, hslot, trimHistory]

/-- A write keeps every pump's service state and run seconds (R12). -/
theorem pumpWritten_keeps (he : s.engine ≠ .run) (old : PumpEntry) :
    ((pumpWritten old p s).pump p).service = (s.pump p).service
      ∧ ((pumpWritten old p s).pump p).runSeconds = (s.pump p).runSeconds := by
  rw [pumpWritten_eq, pump_limitsWritten p (engine_placeWritten p he old)]
  by_cases hmoved : old.house ≠ (s.pumpE p).house ∨ old.slot ≠ (s.pumpE p).slot
  · obtain ⟨l, hl, -⟩ := pump_placeWritten_moved p hmoved
    rw [hl]; exact ⟨rfl, rfl⟩
  · push Not at hmoved
    obtain ⟨hhouse, hslot⟩ := hmoved
    rw [pump_placeWritten_kept p hhouse hslot]; exact ⟨rfl, rfl⟩

end

/-! ### A HOUSE entry written (R12, R63, R78) -/

section

variable {R : ResId → Prop} (h : HouseId) (s : State)

/-- A house and its station begun again, before its pumps. -/
def stationBegins (h : HouseId) (s : State) : State :=
  houseBegins h (clear .stationSilent h.val (modStation h (fun _ => .fresh s.now) s))

theorem touches_stationBegins {P : PumpId → Prop} : Touches R P (· = h) s (stationBegins h s) :=
  ((Touches.modStation (H := (· = h)) _ rfl s).trans (.clear ..)).trans (.modHouse (H := (· = h)) (fun x => .fresh x.mode x.lastStartTx) rfl _)

theorem house_stationBegins :
    (stationBegins h s).house h = .fresh (s.house h).mode (s.house h).lastStartTx
      ∧ (stationBegins h s).station h = .fresh s.now := by
  simp [stationBegins, houseBegins]

theorem houseWritten_eq (old : HouseEntry) : houseWritten old h s = if old.station = (s.houseE h).station then s
    else ((stationBegins h s).pumpsOf h).foldl (fun u p => pumpBegins p u) (stationBegins h s) := rfl

theorem touches_pumpsBegin {H : HouseId → Prop} (ps : List PumpId) :
    Touches R (· ∈ ps) H s (ps.foldl (fun u p => pumpBegins p u) s) :=
  .foldl fun v p hp _ => (touches_pumpBegins p v).mono (fun _ e => e) (fun _ e => e ▸ hp) (fun _ e => e)

/-- A house written touches its own records and those of its pumps. -/
theorem touches_houseWritten (old : HouseEntry) :
    Touches R (fun p => (s.pumpE p).house = some h) (· = h) s (houseWritten old h s) := by
  rw [houseWritten_eq]
  split
  · exact .refl s
  · have hs := touches_stationBegins (R := R) (P := fun p => (s.pumpE p).house = some h) h s
    refine hs.trans ((touches_pumpsBegin _ _).mono (fun _ e => e) (fun p hp => ?_) fun _ e => e)
    rw [pumpsOf_eq_of_tables hs.tables] at hp
    exact mem_pumpsOf.mp hp

/-- Of pumps begun again one by one, each has its record begun from the state before. -/
theorem pump_pumpsBegin {p : PumpId} {ps : List PumpId} {s : State} (hn : ps.Nodup) (hp : p ∈ ps) :
    (ps.foldl (fun u p => pumpBegins p u) s).pump p = (pumpBegins p s).pump p := by
  obtain ⟨before, after, rfl, hb, ha⟩ := split_at_member hn hp
  have h₁ := touches_pumpsBegin (R := noRecord) (H := noRecord) s before
  rw [List.foldl_append, List.foldl_cons,
    (touches_pumpsBegin (R := noRecord) (H := noRecord) _ after).pump p ha, pump_pumpBegins, pump_pumpBegins,
    h₁.pump p hb, pumpE_eq_of_tables h₁.tables]

/-- A house whose station changed: its station and its record begin again, and so do its pumps (R12, R63, R78). -/
theorem houseWritten_moved {h : HouseId} {s : State} {old : HouseEntry} (hne : old.station ≠ (s.houseE h).station) :
    (houseWritten old h s).station h = .fresh s.now
      ∧ (houseWritten old h s).house h = .fresh (s.house h).mode (s.house h).lastStartTx
      ∧ ∀ p, (s.pumpE p).house = some h → (houseWritten old h s).pump p =
        { Pump.fresh .unknown (s.pump p).runSeconds (s.pump p).service with history := (s.pump p).history } := by
  have hs := touches_stationBegins (R := noRecord) (P := noRecord) h s
  have hps := touches_pumpsBegin (R := noRecord) (H := noRecord) (stationBegins h s) ((stationBegins h s).pumpsOf h)
  obtain ⟨hhouse, hstation⟩ := house_stationBegins h s
  rw [houseWritten_eq, if_neg hne]
  refine ⟨(hps.station h id).trans hstation, (hps.house h id).trans hhouse, fun p hp => ?_⟩
  have hmem : p ∈ (stationBegins h s).pumpsOf h := by
    rw [pumpsOf_eq_of_tables hs.tables]; exact mem_pumpsOf.mpr hp
  rw [pump_pumpsBegin (nodup_pumpsOf _ _) hmem, pump_pumpBegins, hs.pump p id, pumpE_eq_of_tables hs.tables]
  simp [PumpEntry.used, hp]

/-- A write of a house keeps its mode and last_start_tx, and every pump's service state and run seconds (R12, R78). -/
theorem houseWritten_keeps (old : HouseEntry) :
    (((houseWritten old h s).house h).mode = (s.house h).mode
      ∧ ((houseWritten old h s).house h).lastStartTx = (s.house h).lastStartTx)
    ∧ ∀ p, ((houseWritten old h s).pump p).service = (s.pump p).service
      ∧ ((houseWritten old h s).pump p).runSeconds = (s.pump p).runSeconds := by
  by_cases hne : old.station = (s.houseE h).station
  · rw [houseWritten_eq, if_pos hne]; exact ⟨⟨rfl, rfl⟩, fun _ => ⟨rfl, rfl⟩⟩
  · obtain ⟨-, hhouse, hpumps⟩ := houseWritten_moved hne
    refine ⟨by rw [hhouse]; exact ⟨rfl, rfl⟩, fun p => ?_⟩
    by_cases hp : (s.pumpE p).house = some h
    · rw [hpumps p hp]; exact ⟨rfl, rfl⟩
    · rw [(touches_houseWritten (R := noRecord) h s old).pump p hp]; exact ⟨rfl, rfl⟩

end

end Sys2Proof.Machine

/-! ## WRITE TABLE (R10-R14, R180) -/

namespace Sys2Proof.Machine

/-! ### Entries outside a write -/

/-- The entries of one table written from index `first` on, as their range test reads them. -/
def putEach {α : Type} {n : Nat} (parse : List Nat → Option α) : Nat → List (List Nat) → Vector α n → Vector α n
  | _, [], v => v
  | first, w :: rest, v => putEach parse (first + 1) rest (putAt v first (parse w))

theorem get_putAt_other {α : Type} {n : Nat} (v : Vector α n) {i : Nat} (o : Option α) {j : Fin n} (hj : i ≠ j.val) :
    (putAt v i o).get j = v.get j := by
  cases o with
  | none => rfl
  | some x => simp [putAt, Vector.get_eq_getElem, hj]

theorem get_putEach_outside {α : Type} {n : Nat} (parse : List Nat → Option α) {first : Nat} {ws : List (List Nat)}
    (v : Vector α n) {j : Fin n} (hj : ¬(first ≤ j.val ∧ j.val < first + ws.length)) :
    (putEach parse first ws v).get j = v.get j := by
  induction ws generalizing first v with
  | nil => rfl
  | cons w rest ih =>
    rw [List.length_cons] at hj
    rw [putEach, ih _ (by omega), get_putAt_other _ _ (by omega)]

/-- A write of a table puts its entries there, and leaves every other table. -/
theorem writeEntries_reservoir (x : TableId) (first : Nat) (ws : List (List Nat)) (ts : Tables) :
    (writeEntries x first ws ts).reservoir
      = if x = .reservoir then putEach parseRes first ws ts.reservoir else ts.reservoir := by
  induction ws generalizing first ts with
  | nil => simp [writeEntries, putEach]
  | cons w rest ih => cases x <;> simp [writeEntries, ih, putEach, writeEntry]

theorem writeEntries_house (x : TableId) (first : Nat) (ws : List (List Nat)) (ts : Tables) :
    (writeEntries x first ws ts).house = if x = .house then putEach parseHouse first ws ts.house else ts.house := by
  induction ws generalizing first ts with
  | nil => simp [writeEntries, putEach]
  | cons w rest ih => cases x <;> simp [writeEntries, ih, putEach, writeEntry]

theorem writeEntries_pump (x : TableId) (first : Nat) (ws : List (List Nat)) (ts : Tables) :
    (writeEntries x first ws ts).pump = if x = .pump then putEach parsePump first ws ts.pump else ts.pump := by
  induction ws generalizing first ts with
  | nil => simp [writeEntries, putEach]
  | cons w rest ih => cases x <;> simp [writeEntries, ih, putEach, writeEntry]

theorem mem_writtenIn {n first count : Nat} {i : Fin n} :
    i ∈ writtenIn n first count ↔ first ≤ i.val ∧ i.val < first + count := by
  simp [writtenIn]

theorem nodup_writtenIn (n first count : Nat) : (writtenIn n first count).Nodup := (List.nodup_finRange n).filter _

/-! ### The effects at the objects of the entries written -/

section

variable {s : State} {old : Tables} {first count : Nat}

theorem touches_resWrittenEach {P : PumpId → Prop} {H : HouseId → Prop} (old : Tables) (rs : List ResId) (s : State) :
    Touches (· ∈ rs) P H s (rs.foldl (fun u r => resWritten (old.reservoir.get r) r u) s) :=
  .foldl fun v r hr _ => (touches_resWritten r v _).mono (fun _ e => e ▸ hr) (fun _ e => e) fun _ e => e

theorem touches_houseWrittenEach {R : ResId → Prop} (old : Tables) (hs : List HouseId) (s : State) :
    Touches R (fun p => ∃ h ∈ hs, (s.pumpE p).house = some h) (· ∈ hs) s
      (hs.foldl (fun u h => houseWritten (old.house.get h) h u) s) :=
  .foldl fun v h hh hv => (touches_houseWritten h v _).mono (fun _ e => e)
    (fun p hp => ⟨h, hh, by
      have htables : v.tables = s.tables := by have e := congrArg State.tables hv; exact e
      rwa [pumpE_eq_of_tables htables] at hp⟩)
    fun _ e => e ▸ hh

theorem touches_pumpWrittenEach {R : ResId → Prop} {H : HouseId → Prop} (he : s.engine ≠ .run) (old : Tables)
    (ps : List PumpId) : Touches R (· ∈ ps) H s (ps.foldl (fun u p => pumpWritten (old.pump.get p) p u) s) :=
  .foldl fun v p hp hv => (touches_pumpWritten p (by
      have hengine : v.engine = s.engine := by have e := congrArg State.engine hv; exact e
      rwa [hengine]) _).mono (fun _ e => e) (fun _ e => e ▸ hp) fun _ e => e

/-- The effects of a write stay within reservoirs, pumps and houses. -/
theorem touches_entriesWritten (he : s.engine ≠ .run) (x : TableId) (old : Tables) (first count : Nat) :
    Touches (fun _ => x = .reservoir) (fun _ => x = .house ∨ x = .pump) (fun _ => x = .house) s
      (entriesWritten x old first count s) := by
  cases x with
  | reservoir =>
    exact (touches_resWrittenEach old _ s).mono (fun _ _ => rfl) (fun _ e => e) fun _ e => e
  | house => exact (touches_houseWrittenEach old _ s).mono (fun _ e => e) (fun _ _ => .inl rfl) fun _ _ => rfl
  | pump => exact (touches_pumpWrittenEach he old _).mono (fun _ e => e) (fun _ _ => .inr rfl) fun _ e => e
  | site | band | draw | calendar | plan => exact .refl s

/-- A fold over a list with an element once: what comes before, the step of the element, and what comes after. -/
theorem foldl_split {α : Type} {l : List α} {a : α} (hn : l.Nodup) (ha : a ∈ l) (f : State → α → State) (s : State) :
    ∃ before after : List α, a ∉ before ∧ a ∉ after ∧ l.foldl f s = after.foldl f (f (before.foldl f s) a) := by
  obtain ⟨before, after, rfl, hb, hafter⟩ := split_at_member hn ha
  exact ⟨before, after, hb, hafter, by rw [List.foldl_append, List.foldl_cons]⟩

/-- The record of a reservoir written is the one its own entry gives, from a state with the records it reads. -/
theorem res_entriesWritten {r : ResId} (hr : r ∈ writtenIn 16 first count) (old : Tables) (s : State) :
    ∃ v, Touches (· ≠ r) noRecord noRecord s v
      ∧ Touches (· ≠ r) noRecord noRecord (resWritten (old.reservoir.get r) r v)
        (entriesWritten .reservoir old first count s) := by
  obtain ⟨before, after, hb, ha, hfold⟩ := foldl_split (nodup_writtenIn ..) hr
    (fun u q => resWritten (old.reservoir.get q) q u) s
  rw [entriesWritten, hfold]
  exact ⟨_, (touches_resWrittenEach old before s).mono (fun q hq e => hb (e ▸ hq)) (fun _ e => e) fun _ e => e,
    (touches_resWrittenEach old after _).mono (fun q hq e => ha (e ▸ hq)) (fun _ e => e) fun _ e => e⟩

/-- The same of a house: no other house written touches it or its pumps. -/
theorem house_entriesWritten {h : HouseId} (hh : h ∈ writtenIn 12 first count) (old : Tables) (s : State) :
    ∃ v, Touches noRecord (fun p => (s.pumpE p).house ≠ some h) (· ≠ h) s v
      ∧ Touches noRecord (fun p => (s.pumpE p).house ≠ some h) (· ≠ h) (houseWritten (old.house.get h) h v)
        (entriesWritten .house old first count s) := by
  obtain ⟨before, after, hb, ha, hfold⟩ := foldl_split (nodup_writtenIn ..) hh
    (fun u g => houseWritten (old.house.get g) g u) s
  rw [entriesWritten, hfold]
  have h₁ := touches_houseWrittenEach (R := noRecord) old before s
  have h₂ := touches_houseWritten (R := noRecord) h (before.foldl (fun u g => houseWritten (old.house.get g) g u) s)
    (old.house.get h)
  refine ⟨_, h₁.mono (fun _ e => e) (fun p ⟨g, hg, hp⟩ e => ?_) fun g hg e => hb (e ▸ hg),
    (touches_houseWrittenEach old after _).mono (fun _ e => e) (fun p ⟨g, hg, hp⟩ e => ?_) fun g hg e => ha (e ▸ hg)⟩
  · rw [hp] at e; exact hb (Option.some.inj e ▸ hg)
  · rw [pumpE_eq_of_tables (h₂.tables.trans h₁.tables), e] at hp; exact ha (Option.some.inj hp ▸ hg)

/-- The same of a pump. -/
theorem pump_entriesWritten {p : PumpId} (hp : p ∈ writtenIn 32 first count) (old : Tables) (he : s.engine ≠ .run) :
    ∃ v, Touches noRecord (· ≠ p) noRecord s v
      ∧ Touches noRecord (· ≠ p) noRecord (pumpWritten (old.pump.get p) p v)
        (entriesWritten .pump old first count s) := by
  obtain ⟨before, after, hb, ha, hfold⟩ := foldl_split (nodup_writtenIn ..) hp
    (fun u q => pumpWritten (old.pump.get q) q u) s
  rw [entriesWritten, hfold]
  have h₁ := touches_pumpWrittenEach (R := noRecord) (H := noRecord) he old before
  have he₁ : (before.foldl (fun u q => pumpWritten (old.pump.get q) q u) s).engine ≠ .run := by rwa [h₁.engine]
  have he₂ := (touches_pumpWritten (R := noRecord) (H := noRecord) p he₁ (old.pump.get p)).engine
  exact ⟨_, h₁.mono (fun _ e => e) (fun q hq e => hb (e ▸ hq)) fun _ e => e,
    (touches_pumpWrittenEach (by rwa [he₂]) old after).mono (fun _ e => e) (fun q hq e => ha (e ▸ hq)) fun _ e => e⟩

theorem houseWrittenEach_keeps (old : Tables) (hs : List HouseId) (s : State) :
    (∀ g, ((hs.foldl (fun u h => houseWritten (old.house.get h) h u) s).house g).mode = (s.house g).mode
      ∧ ((hs.foldl (fun u h => houseWritten (old.house.get h) h u) s).house g).lastStartTx = (s.house g).lastStartTx)
    ∧ ∀ p, ((hs.foldl (fun u h => houseWritten (old.house.get h) h u) s).pump p).service = (s.pump p).service
      ∧ ((hs.foldl (fun u h => houseWritten (old.house.get h) h u) s).pump p).runSeconds = (s.pump p).runSeconds := by
  induction hs generalizing s with
  | nil => exact ⟨fun _ => ⟨rfl, rfl⟩, fun _ => ⟨rfl, rfl⟩⟩
  | cons h rest ih =>
    obtain ⟨hhouses, hpumps⟩ := ih (houseWritten (old.house.get h) h s)
    obtain ⟨hown, hrecords⟩ := houseWritten_keeps h s (old.house.get h)
    refine ⟨fun g => ?_, fun p => ⟨(hpumps p).1.trans (hrecords p).1, (hpumps p).2.trans (hrecords p).2⟩⟩
    by_cases hg : g = h
    · subst hg; exact ⟨(hhouses g).1.trans hown.1, (hhouses g).2.trans hown.2⟩
    · have e := (touches_houseWritten (R := noRecord) h s (old.house.get h)).house g hg
      exact ⟨(hhouses g).1.trans (by rw [e]), (hhouses g).2.trans (by rw [e])⟩

theorem pumpWrittenEach_keeps (he : s.engine ≠ .run) (old : Tables) (ps : List PumpId) (p : PumpId) :
    ((ps.foldl (fun u q => pumpWritten (old.pump.get q) q u) s).pump p).service = (s.pump p).service
      ∧ ((ps.foldl (fun u q => pumpWritten (old.pump.get q) q u) s).pump p).runSeconds = (s.pump p).runSeconds := by
  induction ps generalizing s with
  | nil => exact ⟨rfl, rfl⟩
  | cons a rest ih =>
    have hta := touches_pumpWritten (R := noRecord) (H := noRecord) a he (old.pump.get a)
    have hkeep : ((pumpWritten (old.pump.get a) a s).pump p).service = (s.pump p).service
        ∧ ((pumpWritten (old.pump.get a) a s).pump p).runSeconds = (s.pump p).runSeconds := by
      by_cases hp : p = a
      · subst hp; exact pumpWritten_keeps p he _
      · rw [hta.pump p hp]; exact ⟨rfl, rfl⟩
    obtain ⟨hservice, hseconds⟩ := ih (s := pumpWritten (old.pump.get a) a s) (by rwa [hta.engine])
    exact ⟨hservice.trans hkeep.1, hseconds.trans hkeep.2⟩

/-- A write keeps the modes and last_start_tx of the houses, and the service states and run seconds of the pumps. -/
theorem entriesWritten_keeps (he : s.engine ≠ .run) (x : TableId) (old : Tables) (first count : Nat) :
    (∀ h, ((entriesWritten x old first count s).house h).mode = (s.house h).mode
      ∧ ((entriesWritten x old first count s).house h).lastStartTx = (s.house h).lastStartTx)
    ∧ ∀ p, ((entriesWritten x old first count s).pump p).service = (s.pump p).service
      ∧ ((entriesWritten x old first count s).pump p).runSeconds = (s.pump p).runSeconds := by
  have ht := touches_entriesWritten he x old first count
  cases x with
  | house => exact houseWrittenEach_keeps old _ s
  | pump => exact ⟨fun h => by rw [ht.house h (by simp)]; exact ⟨rfl, rfl⟩, pumpWrittenEach_keeps he old _⟩
  | reservoir | site | band | draw | calendar | plan =>
    exact ⟨fun h => by rw [ht.house h (by simp)]; exact ⟨rfl, rfl⟩,
      fun p => by rw [ht.pump p (by simp)]; exact ⟨rfl, rfl⟩⟩

end

/-! ### The write -/

/-- The state in which the effects of a structural write begin: the entries written together, run seconds brought up to
date, and both maps rebuilt (R12, R13). -/
def rewritten (new : Tables) (s : State) : State :=
  { s with
    tables := new
    levelMap := levelMapOf new
    pumpMap := pumpMapOf new
    pumps := Vector.ofFn fun p => (s.pump p).accruedAt s.now }

theorem pump_rewritten (new : Tables) (s : State) (p : PumpId) :
    (rewritten new s).pump p = (s.pump p).accruedAt s.now := by
  simp [rewritten, State.pump, Vector.get_eq_getElem]

/-- The state after the effects of a structural write, before its change of site load is handed on. -/
def afterEntries (x : TableId) (first : Nat) (ws : List (List Nat)) (s : State) : State :=
  watchAll (entriesWritten x s.tables first ws.length (rewritten (writeEntries x first ws s.tables) s))

theorem afterEntries_eq (x : TableId) (first : Nat) (ws : List (List Nat)) (s : State) : afterEntries x first ws s
    = watchAll (entriesWritten x s.tables first ws.length (rewritten (writeEntries x first ws s.tables) s)) := rfl

theorem touches_watchAll {P : PumpId → Prop} {H : HouseId → Prop} (s : State) :
    Touches (fun _ => True) P H s (watchAll s) :=
  (touches_watchEach s allRes).mono (fun _ _ => trivial) (fun _ e => e) fun _ e => e

theorem touches_afterEntries {s : State} (he : s.engine ≠ .run) (x : TableId) (first : Nat) (ws : List (List Nat)) :
    Touches (fun _ => True) (fun _ => x = .house ∨ x = .pump) (fun _ => x = .house)
      (rewritten (writeEntries x first ws s.tables) s) (afterEntries x first ws s) :=
  ((touches_entriesWritten (s := rewritten _ s) he x s.tables first ws.length).mono (fun _ _ => trivial) (fun _ e => e)
    fun _ e => e).trans (touches_watchAll _)

/-- Two states with the same tables, maps, engine state, marks and records. -/
structure SameRecords (u v : State) : Prop where
  tables : u.tables = v.tables
  levelMap : u.levelMap = v.levelMap
  pumpMap : u.pumpMap = v.pumpMap
  engine : u.engine = v.engine
  marks : u.marks = v.marks
  res : ∀ r, u.res r = v.res r
  pump : ∀ p, u.pump p = v.pump p
  house : ∀ h, u.house h = v.house h
  station : ∀ h, u.station h = v.station h

/-- Handing on a change of site load outside RUN keeps the records. -/
theorem sameRecords_loadChanged {v : State} (he : v.engine ≠ .run) (k : Ctx) (before : Nat) :
    SameRecords (loadChanged k before v) v := by
  obtain ⟨a, b, c, d, h⟩ := loadChanged_eq he k before
  rw [h]
  exact ⟨rfl, rfl, rfl, rfl, rfl, fun _ => rfl, fun _ => rfl, fun _ => rfl, fun _ => rfl⟩

theorem SameRecords.setCursor {u v : State} (h : SameRecords u v) (x : TableId) (last : Nat) :
    SameRecords (setCursor x last u) v :=
  ⟨h.tables, h.levelMap, h.pumpMap, h.engine, h.marks, h.res, h.pump, h.house, h.station⟩

/-- A structural write outside RUN leaves the records as the effects at its objects leave them. -/
theorem sameRecords_writeTables {x : TableId} (hx : structural x = true) {s : State} (he : s.engine ≠ .run)
    (first : Nat) (ws : List (List Nat)) : SameRecords (writeTables x first ws s) (afterEntries x first ws s) := by
  have hbegin : rebuildMaps { accrueAll allPumps s with tables := writeEntries x first ws s.tables }
      = rewritten (writeEntries x first ws s.tables) s := by
    rw [accrueAll_allPumps]; rfl
  unfold writeTables
  simp only [hx, if_true, hbegin]
  exact sameRecords_loadChanged (by rw [← afterEntries, (touches_afterEntries he x first ws).engine]; exact he) _ _

theorem writeTables_plan {x : TableId} (hx : structural x = false) (first : Nat) (ws : List (List Nat)) (s : State) :
    writeTables x first ws s = { s with tables := writeEntries x first ws s.tables } := by
  simp [writeTables, hx]

/-- The tables stand as written (R10). -/
theorem tables_writeTables {x : TableId} {s : State} (hadmits : s.admits x = true) (first : Nat) (ws : List (List Nat)) :
    (writeTables x first ws s).tables = writeEntries x first ws s.tables := by
  cases hx : structural x with
  | false => rw [writeTables_plan hx]
  | true =>
    have he : s.engine ≠ .run := fun he => by simp [State.admits, he, hx] at hadmits
    exact (sameRecords_writeTables hx he first ws).tables.trans (touches_afterEntries he x first ws).tables

/-! ### The tests of R180 -/

theorem tableCode_of_tableOf {n : Nat} {x : TableId} (h : tableOf n = some x) : tableCode x = n := by
  unfold tableOf at h
  split at h <;> cases h <;> rfl

theorem writeFormatGood_iff (table count : Byte) (entries : List Byte) :
    writeFormatGood table count entries = true ↔ 1 ≤ count.toNat ∧ count.toNat ≤ 8
      ∧ ∀ x, tableOf table.toNat = some x → entries.length = count.toNat * entrySize x := by
  unfold writeFormatGood countGood
  cases tableOf table.toNat <;> simp [and_assoc]

theorem length_wordsOf : ∀ bs : List Byte, (wordsOf bs).length = bs.length / 2
  | [] => rfl
  | [_] => by simp [wordsOf]
  | _ :: _ :: rest => by simp only [wordsOf, List.length_cons, length_wordsOf rest]; omega

theorem length_piecesOf {n : Nat} (hn : 0 < n) : ∀ (fuel : Nat) (l : List Nat), l.length = fuel * n →
    (piecesOf n fuel l).length = fuel
  | 0, _, _ => rfl
  | fuel + 1, l, hl => by
    have hne : l ≠ [] := fun e => by subst e; simp at hl; omega
    have hrest : (l.drop n).length = fuel * n := by rw [List.length_drop, hl, Nat.succ_mul, Nat.add_sub_cancel]
    simp [piecesOf, hne, length_piecesOf hn fuel _ hrest]

/-- A write of the right size has as many entries as its count. -/
theorem length_entryWords {x : TableId} {count : Nat} {entries : List Byte}
    (h : entries.length = count * entrySize x) : (entryWords x count entries).length = count := by
  have hpos : 0 < fieldCount x := by cases x <;> decide
  refine length_piecesOf hpos _ _ ?_
  rw [length_wordsOf, h, entrySize, Nat.mul_left_comm, Nat.mul_div_cancel_left _ (by decide)]

theorem exec_writeTable {s : State} (hs : s.serves) (tb ix n : Byte) (es : List Byte) :
    exec (.writeTable tb ix n es) s = .next (answer 0x41 (writeTable tb ix n es s)) :=
  congrArg Host.Outcome.next (asked_of_serves hs _ _)

section

variable {tb ix n : Byte} {es : List Byte} {s : State} {x : TableId} {i : Nat}

theorem writeTable_busy (hf : writeFormatGood tb n es = true) {j : ImageId} (htx : s.storeTx = .saving j) :
    writeTable tb ix n es s = refuse .busy s := by
  simp [writeTable, hf, htx]

/-! The tests of a WRITE TABLE after its format and outside a SAVE (R180, tests 3 to 5). -/

theorem writeTable_badTable (hf : writeFormatGood tb n es = true) (htx : ∀ j, s.storeTx ≠ .saving j)
    (hx : tableOf tb.toNat = none) : writeTable tb ix n es s = refuse .badTable s := by
  unfold writeTable
  cases h : s.storeTx with
  | saving j => exact absurd h (htx j)
  | idle | restoring j => simp [hf, hx]

theorem writeTable_badIndex (hf : writeFormatGood tb n es = true) (htx : ∀ j, s.storeTx ≠ .saving j)
    (hx : tableOf tb.toNat = some x) (hi : firstEntry s.cursor x ix n.toNat = none) :
    writeTable tb ix n es s = refuse .badIndex s := by
  unfold writeTable
  cases h : s.storeTx with
  | saving j => exact absurd h (htx j)
  | idle | restoring j => simp [hf, hx, hi]

theorem writeTable_admitted (hf : writeFormatGood tb n es = true) (htx : ∀ j, s.storeTx ≠ .saving j)
    (hx : tableOf tb.toNat = some x) (hi : firstEntry s.cursor x ix n.toNat = some i) :
    writeTable tb ix n es s
      = if s.admits x then writeChecked x i (entryWords x n.toNat es) s else refuse .wrongState s := by
  unfold writeTable
  cases h : s.storeTx with
  | saving j => exact absurd h (htx j)
  | idle | restoring j => simp [hf, hx, hi]

/-- A write that passes the tests 6 and 7 is made (R180). -/
theorem writeChecked_written {ws : List (List Nat)} (hr : rangeFailure x s.tables i ws = none)
    (hc : s.writeConflict x i ws = none) : writeChecked x i ws s
      = (setCursor x (i + ws.length - 1) (writeTables x i ws s), some (.ok, .written (tableCode x) i ws.length)) := by
  simp only [writeChecked, hr, hc]

theorem admits_iff (hs : s.serves) : s.admits x = true ↔ s.engine = .standby ∨ structural x = false := by
  obtain ⟨-, -, hengine⟩ := hs
  cases he : s.engine <;> simp_all [State.admits]

end

/-- Settles O33: `writeTable` makes its tests in R180's order, and a write that passes them leaves the tables as
written. -/
theorem writeTests : Obligations.WriteTests := by
  intro tb ix n es s hs
  have hexec := exec_writeTable hs tb ix n es
  refine ⟨fun hnot => ?_, fun hformed => ?_⟩
  · have hf : writeFormatGood tb n es = false := by
      rw [Bool.eq_false_iff, ne_eq, writeFormatGood_iff]; exact hnot
    rw [hexec]; simp [writeTable, hf]
  have hf := (writeFormatGood_iff tb n es).mpr hformed
  obtain ⟨-, -, hlength⟩ := hformed
  refine ⟨fun j hj => by rw [hexec, writeTable_busy hf hj]; rfl,
    fun htx => ⟨fun hnone => by rw [hexec, writeTable_badTable hf htx hnone]; rfl, fun x hx =>
      ⟨fun hnone => by rw [hexec, writeTable_badIndex hf htx hx hnone]; rfl, ?_⟩⟩⟩
  intro i hi ws new
  have hcode := tableCode_of_tableOf hx
  have hws : ws.length = n.toNat := length_entryWords (hlength x hx)
  rw [hexec, writeTable_admitted hf htx hx hi, ← hcode]
  refine ⟨fun hrun hstruct => ?_, fun hadmits => ?_⟩
  · have ha : s.admits x = false := by simp [State.admits, hrun, hstruct]
    simp [ha]
  have ha := (admits_iff hs).mpr hadmits
  rw [if_pos ha]
  refine ⟨fun f hr => by simp [writeChecked, ws, hr], fun hr => ⟨fun f hrun hc => ?_, fun hc => ?_⟩⟩
  · have hconflict : s.writeConflict x i ws = some f := by rw [State.writeConflict, if_pos hrun, hws]; exact hc
    simp [writeChecked, ws, hr, hconflict]
  · have hconflict : s.writeConflict x i ws = none := by
      unfold State.writeConflict
      split
      · next hrun => rw [hws]; exact hc.resolve_left (by rw [hrun]; decide)
      · rfl
    rw [writeChecked_written hr hconflict, hws]
    refine ⟨setCursor x (i + n.toNat - 1) (writeTables x i ws s), rfl, tables_writeTables ha i ws, rfl, fun hplan => ?_⟩
    rw [writeTables_plan hplan]
    rfl

end Sys2Proof.Machine

/-! ## An accepted structural write (R12, R13, R59) -/

namespace Sys2Proof.Machine

/-! ### The state the effects leave -/

section

variable {P : PumpId → Prop} {H : HouseId → Prop} {s : State} {first : Nat} {ws : List (List Nat)}

theorem res_watchAll_of_not_estimated {r : ResId} (h : (s.res r).source ≠ .estimated) :
    (watchAll s).res r = s.res r := res_watchEach_of_not_estimated allRes h

theorem watchAll_level (r : ResId) (s : State) : ((watchAll s).res r).level = (s.res r).level
    ∧ ((watchAll s).res r).residue = (s.res r).residue := watchEach_level r s allRes

/-- A structural write keeps the modes and last_start_tx of the houses, the service state of every pump, and its run seconds
brought up to date (R12, R61). -/
theorem afterEntries_keeps (he : s.engine ≠ .run) (x : TableId) (first : Nat) (ws : List (List Nat)) :
    (∀ h, ((afterEntries x first ws s).house h).mode = (s.house h).mode
      ∧ ((afterEntries x first ws s).house h).lastStartTx = (s.house h).lastStartTx)
    ∧ ∀ p, ((afterEntries x first ws s).pump p).service = (s.pump p).service
      ∧ ((afterEntries x first ws s).pump p).runSeconds = s.runSecondsNow p := by
  obtain ⟨hhouses, hpumps⟩ :=
    entriesWritten_keeps (s := rewritten (writeEntries x first ws s.tables) s) he x s.tables first ws.length
  have hw := touches_watchAll (P := noRecord) (H := noRecord)
    (entriesWritten x s.tables first ws.length (rewritten (writeEntries x first ws s.tables) s))
  refine ⟨fun h => ?_, fun p => ?_⟩
  · unfold afterEntries
    rw [hw.house h id]
    exact hhouses h
  · unfold afterEntries
    rw [hw.pump p id]
    obtain ⟨hservice, hseconds⟩ := hpumps p
    rw [pump_rewritten] at hservice hseconds
    exact ⟨hservice, hseconds⟩

/-- A RESERVOIR entry whose station and channel stand outside a write stands as it was. -/
theorem written_of_ne {α : Type} {k : Nat} {parse : List Nat → Option α} {v : Vector α k} {j : Fin k} {β : Type}
    {f : α → β} (hne : f (v.get j) ≠ f ((putEach parse first ws v).get j)) :
    j ∈ writtenIn k first ws.length := by
  by_contra hout
  rw [mem_writtenIn] at hout
  exact hne (by rw [get_putEach_outside _ _ hout])

theorem reservoir_written (first : Nat) (ws : List (List Nat)) (ts : Tables) :
    (writeEntries .reservoir first ws ts).reservoir = putEach parseRes first ws ts.reservoir := by
  simp [writeEntries_reservoir]

theorem house_written (first : Nat) (ws : List (List Nat)) (ts : Tables) :
    (writeEntries .house first ws ts).house = putEach parseHouse first ws ts.house := by
  simp [writeEntries_house]

theorem pump_written (first : Nat) (ws : List (List Nat)) (ts : Tables) :
    (writeEntries .pump first ws ts).pump = putEach parsePump first ws ts.pump := by
  simp [writeEntries_pump]

/-! ### Reservoirs -/

/-- The houses concerned are read from the HOUSE table, which a RESERVOIR write leaves. -/
theorem concerned_rewritten (first : Nat) (ws : List (List Nat)) (r : ResId) :
    (rewritten (writeEntries .reservoir first ws s.tables) s).concerned r = s.concerned r := by
  have hhouse : (writeEntries .reservoir first ws s.tables).house = s.tables.house := by simp [writeEntries_house]
  unfold State.concerned State.houseE rewritten
  rw [hhouse]

theorem afterEntries_resBegins {r : ResId}
    (hmoved : (s.resE r).station ≠ ((writeEntries .reservoir first ws s.tables).reservoir.get r).station
      ∨ (s.resE r).channel ≠ ((writeEntries .reservoir first ws s.tables).reservoir.get r).channel) :
    (afterEntries .reservoir first ws s).res r = .fresh s.now
      ∧ ((s.res r).source ≠ .noData → ∀ h ∈ s.concerned r, h ∈ (afterEntries .reservoir first ws s).marks) := by
  have hmem : r ∈ writtenIn 16 first ws.length := by
    rw [reservoir_written] at hmoved
    rcases hmoved with hne | hne
    · exact written_of_ne (f := ResEntry.station) hne
    · exact written_of_ne (f := ResEntry.channel) hne
  obtain ⟨v, hv, hafter⟩ := res_entriesWritten hmem s.tables
    (rewritten (writeEntries .reservoir first ws s.tables) s)
  have hbegins : resWritten (s.tables.reservoir.get r) r v = resBegins r v := by
    have hentry : v.resE r = (writeEntries .reservoir first ws s.tables).reservoir.get r := resE_eq_of_tables hv.tables r
    rw [resWritten, if_pos (by rw [hentry]; exact hmoved)]
  obtain ⟨hres, hmarks⟩ := resBegins_effect r v
  rw [hbegins] at hafter
  have hentries : (entriesWritten .reservoir s.tables first ws.length
      (rewritten (writeEntries .reservoir first ws s.tables) s)).res r = .fresh s.now := by
    rw [show s.now = v.now from hv.now.symm, ← hres]
    exact hafter.res r (fun e => e rfl)
  rw [afterEntries_eq]
  constructor
  · rw [res_watchAll_of_not_estimated (by rw [hentries]; simp [Reservoir.fresh]), hentries]
  · intro hsource h hh
    refine (touches_watchAll (P := noRecord) (H := noRecord) _).marks h (hafter.marks h (hmarks ?_ h ?_))
    · rw [hv.res r fun e => e rfl]; exact hsource
    · rw [concerned_eq_of_tables hv.tables, concerned_rewritten]; exact hh

/-- A reservoir written with its station and channel as they were, and an estimate step not shortened, is refitted; a
source that is not ESTIMATED stands so. -/
theorem afterEntries_resRefits {r : ResId} (hr : r ∈ writtenIn 16 first ws.length)
    (hstation : (s.resE r).station = ((writeEntries .reservoir first ws s.tables).reservoir.get r).station)
    (hchannel : (s.resE r).channel = ((writeEntries .reservoir first ws s.tables).reservoir.get r).channel)
    (hstep : (s.resE r).estStep ≤ ((writeEntries .reservoir first ws s.tables).reservoir.get r).estStep) :
    let e := (writeEntries .reservoir first ws s.tables).reservoir.get r
    let fitted : Reservoir := { fitReservoir e (s.res r) with
      emergLow := if (s.res r).level ≤ e.height then (s.res r).emergLow
        else (s.res r).source.usable && decide (e.height ≤ e.emerg) }
    ((afterEntries .reservoir first ws s).res r).level = fitted.level
      ∧ ((afterEntries .reservoir first ws s).res r).residue = fitted.residue
      ∧ ((s.res r).source ≠ .estimated → (afterEntries .reservoir first ws s).res r = fitted) := by
  intro e fitted
  obtain ⟨v, hv, hafter⟩ := res_entriesWritten hr s.tables
    (rewritten (writeEntries .reservoir first ws s.tables) s)
  have hentry : v.resE r = e := resE_eq_of_tables hv.tables r
  have hrefit := resWritten_refits (s := v) (r := r) (old := s.tables.reservoir.get r)
    (by rw [hentry]; exact hstation) (by rw [hentry]; exact hchannel) (by rw [hentry]; exact hstep)
  have hentries : (entriesWritten .reservoir s.tables first ws.length
      (rewritten (writeEntries .reservoir first ws s.tables) s)).res r = fitted := by
    have hres : v.res r = s.res r := hv.res r fun e => e rfl
    have hown := (hafter.res r fun e => e rfl).trans (congrArg (fun t : State => t.res r) hrefit)
    rw [res_refitRes, hentry, hres] at hown
    exact hown
  rw [afterEntries_eq, ← hentries]
  refine ⟨(watchAll_level r _).1, (watchAll_level r _).2, fun hsource => res_watchAll_of_not_estimated ?_⟩
  rw [hentries]
  exact hsource

/-! ### Houses -/

theorem afterEntries_houseBegins {h : HouseId}
    (hmoved : (s.houseE h).station ≠ ((writeEntries .house first ws s.tables).house.get h).station) :
    (afterEntries .house first ws s).station h = .fresh s.now
      ∧ (afterEntries .house first ws s).house h = .fresh (s.house h).mode (s.house h).lastStartTx
      ∧ ∀ p, (s.pumpE p).house = some h → (afterEntries .house first ws s).pump p =
        { Pump.fresh .unknown (s.runSecondsNow p) (s.pump p).service with history := (s.pump p).history } := by
  have hmem : h ∈ writtenIn 12 first ws.length := by
    rw [house_written] at hmoved
    exact written_of_ne (f := HouseEntry.station) hmoved
  have hpumps : (writeEntries .house first ws s.tables).pump = s.tables.pump := by simp [writeEntries_pump]
  have hpumpE (p) : (rewritten (writeEntries .house first ws s.tables) s).pumpE p = s.pumpE p := by
    unfold State.pumpE rewritten
    rw [hpumps]
  obtain ⟨v, hv, hafter⟩ := house_entriesWritten hmem s.tables
    (rewritten (writeEntries .house first ws s.tables) s)
  have hentry : v.houseE h = (writeEntries .house first ws s.tables).house.get h := houseE_eq_of_tables hv.tables h
  obtain ⟨hstation, hhouse, hown⟩ := houseWritten_moved (s := v) (h := h) (old := s.tables.house.get h)
    (by rw [hentry]; exact hmoved)
  have hw := touches_watchAll (P := noRecord) (H := noRecord) (entriesWritten .house s.tables first ws.length
    (rewritten (writeEntries .house first ws s.tables) s))
  have hnow : v.now = s.now := hv.now
  have hrecord : v.house h = s.house h := hv.house h fun e => e rfl
  refine ⟨(hw.station h id).trans ((hafter.station h fun e => e rfl).trans (hstation.trans (by rw [hnow]))),
    (hw.house h id).trans ((hafter.house h fun e => e rfl).trans (hhouse.trans (by rw [hrecord]))), fun p hp => ?_⟩
  have hin : ¬((rewritten (writeEntries .house first ws s.tables) s).pumpE p).house ≠ some h :=
    fun e => e (by rw [hpumpE, hp])
  have hpump : v.pump p = (s.pump p).accruedAt s.now := (hv.pump p hin).trans (pump_rewritten _ _ _)
  have hbegun := hown p (by rw [pumpE_eq_of_tables hv.tables, hpumpE, hp])
  rw [hpump] at hbegun
  exact (hw.pump p id).trans ((hafter.pump p hin).trans hbegun)

/-! ### Pumps -/

/-- A pump written, seen from a state with the records that it reads. -/
theorem afterEntries_pump {p : PumpId} (he : s.engine ≠ .run) (hp : p ∈ writtenIn 32 first ws.length) :
    ∃ v : State, v.tables = writeEntries .pump first ws s.tables ∧ v.now = s.now ∧ v.engine ≠ .run
      ∧ v.pump p = (s.pump p).accruedAt s.now
      ∧ (afterEntries .pump first ws s).pump p = (pumpWritten (s.pumpE p) p v).pump p
      ∧ ∀ h ∈ (pumpWritten (s.pumpE p) p v).marks, h ∈ (afterEntries .pump first ws s).marks := by
  obtain ⟨v, hv, hafter⟩ := pump_entriesWritten (s := rewritten (writeEntries .pump first ws s.tables) s)
    hp s.tables he
  have hw := touches_watchAll (P := noRecord) (H := noRecord) (entriesWritten .pump s.tables first ws.length
    (rewritten (writeEntries .pump first ws s.tables) s))
  exact ⟨v, hv.tables, hv.now, by rw [hv.engine]; exact he,
    (hv.pump p fun e => e rfl).trans (pump_rewritten _ _ _), (hw.pump p id).trans (hafter.pump p fun e => e rfl),
    fun h hh => hw.marks h (hafter.marks h hh)⟩

theorem afterEntries_pumpBegins {p : PumpId} (he : s.engine ≠ .run)
    (hmoved : (s.pumpE p).house ≠ ((writeEntries .pump first ws s.tables).pump.get p).house
      ∨ (s.pumpE p).slot ≠ ((writeEntries .pump first ws s.tables).pump.get p).slot) :
    let q := (afterEntries .pump first ws s).pump p
    q.run = (if ((writeEntries .pump first ws s.tables).pump.get p).house = none then .unused else .unknown)
      ∧ q.panel = none ∧ q.fault = none ∧ q.confirmMark = none
      ∧ (((writeEntries .pump first ws s.tables).pump.get p).house = none → q.history = []) := by
  have hmem : p ∈ writtenIn 32 first ws.length := by
    rw [pump_written] at hmoved
    rcases hmoved with hne | hne
    · exact written_of_ne (f := PumpEntry.house) hne
    · exact written_of_ne (f := PumpEntry.slot) hne
  obtain ⟨v, htables, -, hev, -, hpump, -⟩ := afterEntries_pump he hmem
  have hentry : v.pumpE p = (writeEntries .pump first ws s.tables).pump.get p := by unfold State.pumpE; rw [htables]
  obtain ⟨l, hl, hempty⟩ := pump_placeWritten_moved (s := v) (old := s.pumpE p) p (by rw [hentry]; exact hmoved)
  rw [hentry] at hl hempty
  intro q
  have hq : q = (pumpWritten (s.pumpE p) p v).pump p := hpump
  rw [pumpWritten_eq, pump_limitsWritten p (engine_placeWritten p hev _), hl] at hq
  rw [hq]
  refine ⟨?_, rfl, rfl, rfl, fun hnone => hempty (by simp [PumpEntry.used, hnone])⟩
  cases hh : ((writeEntries .pump first ws s.tables).pump.get p).house <;> simp [Pump.fresh, PumpEntry.used, hh]

/-- The motor limits that a write of a pump in its place leaves (R59). -/
theorem afterEntries_limits {p : PumpId} (he : s.engine ≠ .run) (hp : p ∈ writtenIn 32 first ws.length)
    (hhouse : (s.pumpE p).house = ((writeEntries .pump first ws s.tables).pump.get p).house)
    (hslot : (s.pumpE p).slot = ((writeEntries .pump first ws s.tables).pump.get p).slot) :
    let q := s.pump p
    let e := (writeEntries .pump first ws s.tables).pump.get p
    let u := afterEntries .pump first ws s
    (q.run = .stopped → ∀ m, q.stopMark = some m →
      ((u.pump p).minOffOpen = if s.since m < e.minOff then true
        else if e.minOff < (s.pumpE p).minOff then false else q.minOffOpen)
      ∧ (q.minOffOpen = true → e.minOff < (s.pumpE p).minOff → e.minOff ≤ s.since m →
        ∀ h, e.house = some h → h ∈ u.marks))
    ∧ (q.run = .running → q.commanded = true →
      ((u.pump p).minRunOpen = if s.since q.runStart < e.minRun then true
        else if e.minRun < (s.pumpE p).minRun then false else q.minRunOpen)
      ∧ (q.minRunOpen = true → e.minRun < (s.pumpE p).minRun → e.minRun ≤ s.since q.runStart →
        ∀ h, e.house = some h → h ∈ u.marks)) := by
  obtain ⟨v, htables, hnow, hev, hown, hpump, hmarks⟩ := afterEntries_pump he hp
  intro q e u
  have hentry : v.pumpE p = e := by unfold State.pumpE; rw [htables]
  have hplace := pump_placeWritten_kept (s := v) (old := s.pumpE p) p (by rw [hentry]; exact hhouse)
    (by rw [hentry]; exact hslot)
  have ht := touches_placeWritten (R := noRecord) (H := noRecord) p v (s.pumpE p)
  have hentry' : (placeWritten (s.pumpE p) p v).pumpE p = e := by rw [pumpE_eq_of_tables ht.tables, hentry]
  have hreached (m : Second) (l : Nat) : (placeWritten (s.pumpE p) p v).reached m l = s.reached m l :=
    reached_eq_of_now (ht.now.trans hnow) m l
  have hlimits := pump_limitsWritten p (engine_placeWritten p hev (s.pumpE p)) (s.pumpE p)
  rw [← pumpWritten_eq, ← hpump] at hlimits
  have hmark := fun h hh hdue => hmarks h (limitsWritten_marks (h := h) p
    (engine_placeWritten p hev (s.pumpE p)) (old := s.pumpE p) (by rw [hentry']; exact hh) hdue)
  rw [hown] at hplace
  refine ⟨fun hrun m hm => ?_, fun hrun hcommanded => ?_⟩
  · have hdone : (placeWritten (s.pumpE p) p v).minOffDone p = s.reached m e.minOff := by
      simp [State.minOffDone, hplace, Pump.accruedAt, hm, q, hentry', hreached]
    have hdue : (placeWritten (s.pumpE p) p v).minOffDue p = (q.minOffOpen && s.reached m e.minOff) := by
      simp [State.minOffDue, hdone, hplace, Pump.accruedAt, hrun, q]
    refine ⟨?_, fun hopen hlt hle h hh => hmark h hh (.inr ?_)⟩
    · have : (u.pump p).minOffOpen = (q.minOffOpen && !(decide (e.minOff < (s.pumpE p).minOff)
          && (q.minOffOpen && s.reached m e.minOff)) || !s.reached m e.minOff) := by
        rw [show u.pump p = _ from hlimits]
        simp [hdue, hdone, hentry', hplace, Pump.accruedAt, hrun, q]
      rw [this]
      unfold State.reached
      split_ifs <;> cases q.minOffOpen <;> simp <;> omega
    · rw [hentry', hdue, hopen]
      exact ⟨hlt, by simpa [State.reached] using hle⟩
  · have hdone : (placeWritten (s.pumpE p) p v).minRunDone p = s.reached q.runStart e.minRun := by
      simp [State.minRunDone, hplace, Pump.accruedAt, q, hentry', hreached]
    have hdue : (placeWritten (s.pumpE p) p v).minRunDue p = (q.minRunOpen && s.reached q.runStart e.minRun) := by
      simp [State.minRunDue, hdone, hplace, Pump.accruedAt, Pump.commandedRunning, hrun, hcommanded, q]
    refine ⟨?_, fun hopen hlt hle h hh => hmark h hh (.inl ?_)⟩
    · have : (u.pump p).minRunOpen = (q.minRunOpen && !(decide (e.minRun < (s.pumpE p).minRun)
          && (q.minRunOpen && s.reached q.runStart e.minRun)) || !s.reached q.runStart e.minRun) := by
        rw [show u.pump p = _ from hlimits]
        simp [hdue, hdone, hentry', hplace, Pump.accruedAt, Pump.commandedRunning, hrun, hcommanded, q]
      rw [this]
      unfold State.reached
      split_ifs <;> cases q.minRunOpen <;> simp <;> omega
    · rw [hentry', hdue, hopen]
      exact ⟨hlt, by simpa [State.reached] using hle⟩

end

/-! ### The request -/

/-- An absolute index names its entry, where the count fits (R178). -/
theorem firstEntry_absolute {x : TableId} {ix : Byte} {count : Nat} (cursor : TableRef) (hpos : 1 ≤ count)
    (hroom : ix.toNat + count ≤ entryCount x) : firstEntry cursor x ix count = some ix.toNat := by
  have hmost : entryCount x ≤ 36 := by cases x <;> decide
  have hix : ix.toNat < entryCount x := by omega
  have h255 : ix.toNat ≠ 255 := by omega
  have h254 : ix.toNat ≠ 254 := by omega
  have h253 : ix.toNat ≠ 253 := by omega
  simp [firstEntry, entryAt, h255, h254, h253, hix, hroom]

/-- Settles O35: the write is made by `afterEntries`, record by record of each table, and what follows moves the arbiter and
the alarms alone. -/
theorem structuralWrite : Obligations.StructuralWrite := by
  intro tb ix n es x s hs hstandby htx hpos hmost hx hstruct hlength hroom hrange new
  have he : s.engine ≠ .run := by rw [hstandby]; decide
  have hws : (entryWords x n.toNat es).length = n.toNat := length_entryWords hlength
  have hf := (writeFormatGood_iff tb n es).mpr ⟨hpos, hmost, fun y hy => by
    obtain rfl := Option.some.inj (hx.symm.trans hy); exact hlength⟩
  have hconflict : s.writeConflict x ix.toNat (entryWords x n.toNat es) = none := if_neg he
  have htaken := writeTable_admitted hf htx hx (firstEntry_absolute s.cursor hpos hroom)
  rw [if_pos ((admits_iff hs).mpr (.inl hstandby)), writeChecked_written hrange hconflict, hws,
    tableCode_of_tableOf hx] at htaken
  have ht := touches_afterEntries he x ix.toNat (entryWords x n.toNat es)
  obtain ⟨hhouses, hpumps⟩ := afterEntries_keeps he x ix.toNat (entryWords x n.toNat es)
  have hsame := (sameRecords_writeTables hstruct he ix.toNat (entryWords x n.toNat es)).setCursor x
    (ix.toNat + n.toNat - 1)
  refine ⟨_, by rw [exec_writeTable hs, htaken]; rfl, ?_⟩
  generalize setCursor x (ix.toNat + n.toNat - 1) (writeTables x ix.toNat (entryWords x n.toNat es) s) = u at hsame ⊢
  refine ⟨hsame.tables.trans ht.tables, hsame.levelMap.trans ht.levelMap, hsame.pumpMap.trans ht.pumpMap,
    hsame.engine.trans (ht.engine.trans hstandby), ?_⟩
  simp only [hsame.house, hsame.pump, hsame.res, hsame.station, hsame.marks]
  refine ⟨hhouses, hpumps, ?_, ?_, ?_, ?_, ?_⟩
  · rintro rfl r hmoved
    obtain ⟨hres, hmarks⟩ := afterEntries_resBegins hmoved
    exact ⟨hres, fun hsource h hused hnamed => hmarks hsource h (mem_concerned.mpr ⟨hused, hnamed⟩)⟩
  · rintro rfl r hlow hhigh hstation hchannel hstep
    obtain ⟨hlevel, hresidue, hrest⟩ :=
      afterEntries_resRefits (mem_writtenIn.mpr ⟨hlow, by rwa [hws]⟩) hstation hchannel hstep
    refine ⟨hlevel, hresidue, fun hsource => (hrest hsource).trans ?_⟩
    have husable : (s.res r).source.usable = decide ((s.res r).source = .live) := by
      cases hsrc : (s.res r).source <;> simp_all [Source.usable]
    simp [fitReservoir, husable, new]
  · rintro rfl h hmoved
    exact afterEntries_houseBegins hmoved
  · rintro rfl p hmoved
    exact afterEntries_pumpBegins he hmoved
  · rintro rfl p hlow hhigh hhouse hslot
    exact afterEntries_limits he (mem_writtenIn.mpr ⟨hlow, by rwa [hws]⟩) hhouse hslot

end Sys2Proof.Machine

/-! ## Stations (R63, R64) -/

namespace Sys2Proof.Machine

/-! ### Whole vectors and other parts that an operation leaves -/

theorem vector_eq_of_get {α : Type} {n : Nat} {v w : Vector α n} (h : ∀ i : Fin n, v.get i = w.get i) : v = w :=
  Vector.ext fun i hi => h ⟨i, hi⟩

namespace Touches

variable {R : ResId → Prop} {P : PumpId → Prop} {H : HouseId → Prop} {s t : State}

theorem houses (h : Touches R P noRecord s t) : t.houses = s.houses := vector_eq_of_get fun g => h.house g id

theorem stations (h : Touches R P noRecord s t) : t.stations = s.stations := vector_eq_of_get fun g => h.station g id

theorem pumps (h : Touches R noRecord H s t) : t.pumps = s.pumps := vector_eq_of_get fun p => h.pump p id

theorem reservoirs (h : Touches noRecord P H s t) : t.reservoirs = s.reservoirs := vector_eq_of_get fun r => h.res r id

theorem arbiter (h : Touches R P H s t) : t.arbiter = s.arbiter := by
  have e := congrArg (fun v : State => v.arbiter) h.apart; exact e

theorem dispatcher (h : Touches R P H s t) : t.dispatcher = s.dispatcher := by
  have e := congrArg (fun v : State => v.dispatcher) h.apart; exact e

theorem field (h : Touches R P H s t) : t.field = s.field := by
  have e := congrArg (fun v : State => v.field) h.apart; exact e

theorem period (h : Touches R P H s t) : t.period = s.period := by
  have e := congrArg (fun v : State => v.period) h.apart; exact e

end Touches

/-! ### The pumps of a house held and released -/

/-- A pump record held or released, with its run seconds brought up to date. -/
def Pump.heldAs (held : Bool) (now : Second) (q : Pump) : Pump := { q.accruedAt now with held := held }

/-- A house's pumps become held or cease to be, with run seconds brought up to date, and nothing else moves (R64). -/
theorem holdPumps_eq (held : Bool) (h : HouseId) (s : State) :
    holdPumps held h s = updatePumps (s.pumpsOf h) (Pump.heldAs held s.now) s := by
  have hsteps : ∀ (ps : List PumpId) (t : State), t.now = s.now →
      ps.foldl (fun u p => modPump p (fun q => { q with held := held }) (accrue p u)) t
        = ps.foldl (fun u p => modPump p (Pump.heldAs held s.now) u) t := by
    intro ps
    induction ps with
    | nil => intro _ _; rfl
    | cons p rest ih =>
      intro t ht
      have hstep : modPump p (fun q => { q with held := held }) (accrue p t) = modPump p (Pump.heldAs held s.now) t := by
        rw [accrue_eq, ← ht]
        simp [modPump, State.pump, Pump.heldAs]
      rw [List.foldl_cons, List.foldl_cons, hstep]
      exact ih _ ht
  unfold holdPumps
  rw [hsteps _ s rfl, foldl_modPump (nodup_pumpsOf s h)]

/-- The confirm timer of a transmitted order restarted (R64). -/
def Pump.restarted (now : Second) (q : Pump) : Pump :=
  { q with
    confirmMark := if (q.run = .startOrdered ∨ q.run = .stopOrdered) ∧ q.order = .transmitted then some now
      else q.confirmMark }

theorem restartConfirm_eq (p : PumpId) (s : State) : restartConfirm p s = modPump p (Pump.restarted s.now) s := by
  unfold restartConfirm Pump.restarted
  congr 1
  funext q
  split <;> rfl

theorem restartEach_eq {ps : List PumpId} (hn : ps.Nodup) (s : State) :
    ps.foldl (fun t p => restartConfirm p t) s = updatePumps ps (Pump.restarted s.now) s := by
  rw [← foldl_modPump hn]
  clear hn
  induction ps generalizing s with
  | nil => rfl
  | cons p rest ih => rw [List.foldl_cons, ih, List.foldl_cons, restartConfirm_eq]; rfl

/-- A HEARD station is heard again (R63). -/
theorem houseHeard_of_heard {h : HouseId} {s : State} (hh : (s.station h).state = .heard) :
    houseHeard h s = modStation h (fun _ => ⟨.heard, s.now⟩) s := if_pos hh

/-- The end of a silence (R64). -/
theorem houseHeard_of_silent {h : HouseId} {s : State} (hh : (s.station h).state = .silent) :
    houseHeard h s = { clear .stationSilent h.val (modStation h (fun _ => ⟨.heard, s.now⟩) s) with
      marks := s.marks ++ [h]
      pumps := Vector.ofFn fun p =>
        if (s.pumpE p).house = some h then Pump.restarted s.now (Pump.heldAs false s.now (s.pump p))
        else s.pump p } := by
  have hnot : ¬(s.station h).state = .heard := by rw [hh]; decide
  unfold houseHeard
  rw [if_neg hnot]
  have hclear := apartAlarms_clear (modStation h (fun _ => ⟨.heard, s.now⟩) s) .stationSilent h.val
  generalize clear .stationSilent h.val (modStation h (fun _ => ⟨.heard, s.now⟩) s) = t at hclear ⊢
  have htables : t.tables = s.tables := (tables_of_apartAlarms hclear).trans rfl
  have hpumpsOf : t.pumpsOf h = s.pumpsOf h := pumpsOf_eq_of_tables htables h
  have hnow : t.now = s.now := (now_of_apartAlarms hclear).trans rfl
  have hmarks : t.marks = s.marks := (marks_of_apartAlarms hclear).trans rfl
  have hpump (p) : t.pump p = s.pump p := (pump_of_apartAlarms hclear p).trans rfl
  dsimp only
  rw [holdPumps_eq]
  rw [pumpsOf_updatePumps, restartEach_eq (nodup_pumpsOf t h), updatePumps_updatePumps]
  simp only [mark, updatePumps, setPumps, hmarks, hpump, hpumpsOf, mem_pumpsOf, hnow]

/-! ### A station that falls silent -/

/-- An ESTIMATED reservoir of a used house whose station is SILENT is not estimable (R37). -/
theorem estimable_of_silent {s : State} {h : HouseId} {r : ResId} (hused : (s.houseE h).used = true)
    (hnamed : (s.houseE h).delivery = r ∨ (s.houseE h).suction = some r) (hsilent : (s.station h).state = .silent) :
    s.estimable r = false := by
  have hmem : h ∈ s.concerned r := mem_concerned.mpr ⟨hused, hnamed⟩
  have hall : ((s.concerned r).all fun g => (s.station g).state == .heard) = false :=
    List.all_eq_false.mpr ⟨h, hmem, by rw [hsilent]; decide⟩
  simp [State.estimable, hall]

theorem mem_reservoirsOf {s : State} {h : HouseId} {r : ResId} :
    r ∈ s.reservoirsOf h ↔ (s.houseE h).delivery = r ∨ (s.houseE h).suction = some r := by
  simp [State.reservoirsOf, allRes]

theorem nodup_reservoirsOf (s : State) (h : HouseId) : (s.reservoirsOf h).Nodup := (List.nodup_finRange 16).filter _

theorem touches_stationLost {P : PumpId → Prop} {H : HouseId → Prop} (h : HouseId) (s : State) :
    Touches (· ∈ s.reservoirsOf h) P H s (stationLost h s) := touches_watchEach s _

/-- A fold over watched reservoirs at one of them. -/
theorem watchEach_at {s : State} {rs : List ResId} {r : ResId} (hn : rs.Nodup) (hr : r ∈ rs) :
    ∃ v, Touches (· ≠ r) noRecord noRecord s v
      ∧ Touches (· ≠ r) noRecord noRecord (watchEstimate r v) (rs.foldl (fun t q => watchEstimate q t) s) := by
  obtain ⟨before, after, hb, ha, hfold⟩ := foldl_split hn hr (fun t q => watchEstimate q t) s
  rw [hfold]
  exact ⟨_, (touches_watchEach s before).mono (fun q hq e => hb (e ▸ hq)) (fun _ e => e) fun _ e => e,
    (touches_watchEach _ after).mono (fun q hq e => ha (e ▸ hq)) (fun _ e => e) fun _ e => e⟩

/-- The SILENT event makes each used ESTIMATED reservoir of the house LOST, with its level kept (R38). -/
theorem stationLost_loses {s : State} {h : HouseId} {r : ResId} (hengine : s.engine ≠ .startup)
    (hused : (s.houseE h).used = true) (hsilent : (s.station h).state = .silent) (hr : (s.resE r).used = true)
    (hsource : (s.res r).source = .estimated)
    (hnamed : (s.houseE h).delivery = r ∨ (s.houseE h).suction = some r) :
    (stationLost h s).res r = { s.res r with source := .lost, pending := none, emergLow := false } := by
  obtain ⟨v, hv, hafter⟩ := watchEach_at (nodup_reservoirsOf s h) (mem_reservoirsOf.mpr hnamed)
  have hres : v.res r = s.res r := hv.res r fun e => e rfl
  have hlose : watchEstimate r v = loseLevel r v := by
    refine if_pos ⟨?_, by rw [hres, hsource], ?_⟩
    · simp [State.resInService, resE_eq_of_tables hv.tables, hr, hv.engine, hengine]
    · exact estimable_of_silent (by rw [houseE_eq_of_tables hv.tables]; exact hused)
        (by rw [houseE_eq_of_tables hv.tables]; exact hnamed) (by rw [hv.station h id]; exact hsilent)
  rw [stationLost, hafter.res r fun e => e rfl, hlose, res_loseLevel, hres]

/-- A reservoir that is not ESTIMATED, or that the house does not name, stands. -/
theorem stationLost_keeps {s : State} {h : HouseId} {r : ResId} (hr : (s.res r).source ≠ .estimated
    ∨ ((s.houseE h).delivery ≠ r ∧ (s.houseE h).suction ≠ some r)) : (stationLost h s).res r = s.res r := by
  rcases hr with hsource | ⟨hdelivery, hsuction⟩
  · exact res_watchEach_of_not_estimated _ hsource
  · refine (touches_stationLost (P := noRecord) (H := noRecord) h s).res r fun hmem => ?_
    exact (mem_reservoirsOf.mp hmem).elim hdelivery hsuction

/-- The state in which a station that falls silent hands its event to the level monitor (R64, items 1 and 2). -/
def silencedPumps (h : HouseId) (s : State) : State :=
  holdPumps true h (raise .stationSilent h.val none .none (modStation h (fun x => { x with state := .silent }) s))

theorem stationSilenced_eq (h : HouseId) (s : State) :
    stationSilenced h s = mark h (stationLost h (silencedPumps h s)) := rfl

theorem holdPumps_keeps (held : Bool) (h : HouseId) (s : State) :
    (holdPumps held h s).stations = s.stations ∧ (holdPumps held h s).houses = s.houses := by
  rw [holdPumps_eq, updatePumps]
  generalize Vector.ofFn _ = v
  exact ⟨rfl, rfl⟩

theorem touches_setPumps {R : ResId → Prop} {H : HouseId → Prop} (v : Vector Pump 32) (s : State) :
    Touches R (fun _ => True) H s (setPumps v s) :=
  ⟨rfl, fun _ _ => rfl, fun _ hp => absurd trivial hp, fun _ _ => rfl, fun _ _ => rfl, fun _ hm => hm⟩

theorem touches_silencedPumps {R : ResId → Prop} (h : HouseId) (s : State) :
    Touches R (fun _ => True) (· = h) s (silencedPumps h s) := by
  have hhold (t : State) : Touches R (fun _ => True) (· = h) t (holdPumps true h t) := by
    rw [holdPumps_eq]
    exact touches_setPumps _ t
  exact ((Touches.modStation (H := (· = h)) (fun x => { x with state := .silent }) rfl s).trans (.raise ..)).trans
    (hhold _)

/-- The station is SILENT with last_heard kept, and the pumps of the house are held with run seconds brought up to date. -/
theorem silencedPumps_records (h : HouseId) (s : State) :
    (silencedPumps h s).stations = s.stations.set h ⟨.silent, (s.station h).lastHeard⟩
      ∧ (silencedPumps h s).houses = s.houses
      ∧ ∀ p, (silencedPumps h s).pump p = if (s.pumpE p).house = some h then
        { s.pump p with held := true, runSeconds := s.runSecondsNow p, accrualMark := s.now } else s.pump p := by
  have hraise := apartAlarms_raise (modStation h (fun x => { x with state := .silent }) s) .stationSilent h.val none .none
  unfold silencedPumps
  generalize raise .stationSilent h.val none .none (modStation h (fun x => { x with state := .silent }) s) = t
    at hraise ⊢
  have hstations : t.stations = (modStation h (fun x => { x with state := .silent }) s).stations := by
    have e := congrArg State.stations hraise; exact e
  have htables : t.tables = s.tables := (tables_of_apartAlarms hraise).trans rfl
  have hpumpE (p) : t.pumpE p = s.pumpE p := pumpE_eq_of_tables htables p
  have hnow : t.now = s.now := (now_of_apartAlarms hraise).trans rfl
  have hpump (p) : t.pump p = s.pump p := (pump_of_apartAlarms hraise p).trans rfl
  have hhouses : t.houses = s.houses := (houses_of_apartAlarms hraise).trans rfl
  obtain ⟨hkstations, hkhouses⟩ := holdPumps_keeps true h t
  refine ⟨hkstations.trans hstations, hkhouses.trans hhouses, fun p => ?_⟩
  rw [holdPumps_eq, pump_updatePumps]
  simp only [mem_pumpsOf, hpumpE, hpump, hnow]
  rfl

theorem reached_iff {s : State} {m : Second} {l : Nat} : s.reached m l = true ↔ l ≤ (s.now - m).toNat :=
  decide_eq_true_iff

theorem stationDue_iff (s : State) (h : HouseId) : s.stationDue h = true ↔ s.engine ≠ .startup
    ∧ (s.houseE h).used = true ∧ (s.station h).state = .heard
    ∧ s.site.stationSilence ≤ (s.now - (s.station h).lastHeard).toNat := by
  simp only [State.stationDue, Bool.and_eq_true, bne_iff_ne, beq_iff_eq, reached_iff, and_assoc]

/-- Settles O21: the silence in its three steps, each by its lemma, and the return of the station by
`houseHeard_of_silent`. -/
theorem stationSilence : Obligations.StationSilence := by
  intro h s
  have hexec : exec (.stationSilenceExpiry h) s = .next (whenDue (s.stationDue h) (stationSilenced h) s) := rfl
  refine ⟨fun hengine hused hheard hlength => ?_, fun hnot => ?_, houseHeard_of_heard, fun hsilent => ?_,
    fun src => ⟨fun hengine => if_pos hengine, fun hengine => if_neg hengine⟩⟩
  · have hdue := (stationDue_iff s h).mpr ⟨hengine, hused, hheard, hlength⟩
    refine ⟨stationSilenced h s, by rw [hexec, whenDue, if_pos hdue], rfl, ?_⟩
    obtain ⟨hstations, hhouses, hpumps⟩ := silencedPumps_records h s
    have hv := touches_silencedPumps (R := noRecord) h s
    rw [stationSilenced_eq]
    generalize silencedPumps h s = v at hstations hhouses hpumps hv ⊢
    have hsilent : (v.station h).state = .silent := by
      unfold State.station
      rw [hstations, getSet_same]
    have hhouseE : v.houseE h = s.houseE h := houseE_eq_of_tables hv.tables h
    have hres (r) : v.res r = s.res r := hv.res r id
    have hloses (r) (hr : (s.resE r).used = true) (hsource : (s.res r).source = .estimated)
        (hnamed : (s.houseE h).delivery = r ∨ (s.houseE h).suction = some r) :=
      stationLost_loses (s := v) (r := r) (by rwa [hv.engine]) (by rwa [hhouseE]) hsilent
        (by rwa [resE_eq_of_tables hv.tables]) (by rwa [hres]) (by rwa [hhouseE])
    have hkeeps (r) (hr : (s.res r).source ≠ .estimated
        ∨ ((s.houseE h).delivery ≠ r ∧ (s.houseE h).suction ≠ some r)) :=
      stationLost_keeps (s := v) (h := h) (r := r) (by rwa [hres, hhouseE])
    have hlost := touches_stationLost (P := noRecord) (H := noRecord) h v
    generalize stationLost h v = w at hloses hkeeps hlost ⊢
    refine ⟨List.mem_append_right _ (List.mem_singleton_self h), hlost.stations.trans hstations,
      fun p => (hlost.pump p id).trans (hpumps p), fun r hr hsource hnamed => ?_,
      fun r hr => (hkeeps r hr).trans (hres r), hlost.houses.trans hhouses, hlost.arbiter.trans hv.arbiter,
      hlost.dispatcher.trans hv.dispatcher, hlost.field.trans hv.field, hlost.tables.trans hv.tables,
      hlost.period.trans hv.period, hlost.engine.trans hv.engine, hlost.now.trans hv.now⟩
    have hrecord : (mark h w).res r = _ := hloses r hr hsource hnamed
    rw [hrecord, hres]
    exact ⟨rfl, rfl, rfl⟩
  · have hdue : s.stationDue h = false := by
      rw [Bool.eq_false_iff, ne_eq, stationDue_iff]
      rintro ⟨-, hused, hheard, hlength⟩
      rcases hnot with hunused | hsilent | hshort
      · rw [hunused] at hused; cases hused
      · rw [hsilent] at hheard; cases hheard
      · omega
    rw [hexec, whenDue, hdue]; rfl
  · exact houseHeard_of_silent hsilent

end Sys2Proof.Machine

/-! ## TELEMETRY (R26, R44, R55, R56, R162) -/

namespace Sys2Proof.Machine

/-! ### A frame judged and its records taken -/

/-- The field port after the CHECK byte of a good frame: in HUNT, with the frame counted (R165, R172). -/
def countedFrame (s : State) : State :=
  modPort .field (fun q => { q with
    rx := .hunt, buf := [], counters := { q.counters with good := min (q.counters.good + 1) 65535 } }) s

/-- A good TELEMETRY frame: the stations of its source are heard, its records are taken in order, and it is forwarded. -/
theorem exec_telemetry {check : Byte} {rs : List Rec} {s : State} (hrx : s.field.rx = .check)
    (hsum : byteSum ((s.field.buf ++ [check]).drop 1) % 256 = 0) (hkind : (s.field.buf ++ [check]).getD 4 0 = 0x01)
    (hwalk : walkRecords (((s.field.buf ++ [check]).drop 5).dropLast) = some rs) :
    exec (.frameArrival .field check) s = .next (forward .field (s.field.buf ++ [check])
      (rs.foldl (takeRecord ((s.field.buf ++ [check]).getD 3 0).toNat)
        (stationHeardFrom ((s.field.buf ++ [check]).getD 3 0).toNat (countedFrame s)))) := by
  have hgood : checkGood (s.field.buf ++ [check]) = true := by rw [checkGood, hsum]; rfl
  have htelemetry : frameByte (s.field.buf ++ [check]) 4 = kindTelemetry := hkind
  have hreceive : receiveByte .field check s
      = judgeFrame .field (s.field.buf ++ [check]) (setRx .field .hunt [] s) := by
    simp [receiveByte, State.port, hrx]
  have hjudge : judgeFrame .field (s.field.buf ++ [check]) (setRx .field .hunt [] s)
      = routeGood .field (s.field.buf ++ [check]) rs (countedFrame s) := by
    have hrecords : walkRecords (frameRecords (s.field.buf ++ [check])) = some rs := hwalk
    simp only [judgeFrame, hrecords, hgood, if_true]
    rfl
  show Host.Outcome.next (receiveByte .field check s) = _
  rw [hreceive, hjudge, routeGood, routeField, if_pos htelemetry]
  rfl

/-- A house heard touches its own record and its pumps. -/
theorem touches_houseHeard (h : HouseId) (s : State) :
    Touches noRecord (fun _ => True) (fun _ => True) s (houseHeard h s) := by
  cases hstate : (s.station h).state with
  | heard => rw [houseHeard_of_heard hstate]; exact .modStation _ trivial s
  | silent =>
    have hclear : Touches noRecord (fun _ => True) (fun _ => True) s
        (clear .stationSilent h.val (modStation h (fun _ => ⟨.heard, s.now⟩) s)) :=
      (Touches.modStation _ trivial s).trans (.clear ..)
    unfold houseHeard
    rw [if_neg (by rw [hstate]; decide)]
    dsimp only
    rw [holdPumps_eq, pumpsOf_updatePumps, restartEach_eq (nodup_pumpsOf _ h)]
    exact ((hclear.trans (touches_setPumps _ _)).trans (touches_setPumps _ _)).trans (.addMarks [h] _)

theorem touches_stationHeardFrom (src : Nat) (s : State) :
    Touches noRecord (fun _ => True) (fun _ => True) s (stationHeardFrom src s) := by
  unfold stationHeardFrom
  split
  · exact .refl s
  · exact .foldl fun v h _ _ => touches_houseHeard h v

/-- A LEVEL record of four bytes (R26). -/
theorem takeRecord_level (src : Nat) (s : State) (a b c d : Byte) : takeRecord src s ⟨0x20, [a, b, c, d]⟩
    = takeLevel src a.toNat (b.toNat * 256 + c.toNat) (d.getLsbD 0) s := by
  simp [takeRecord, tagLevel, numOf]

/-- A PUMP record of four bytes (R44). -/
theorem takeRecord_pump (src : Nat) (s : State) (a b c d : Byte) : takeRecord src s ⟨0x21, [a, b, c, d]⟩
    = takePump src a.toNat b.toNat c.toNat d.toNat s := by
  simp [takeRecord, tagLevel, tagPump]

/-- A record of another tag, or of another size, is stepped over (R162). -/
theorem takeRecord_other {src : Nat} {s : State} {r : Rec}
    (h : (r.tag ≠ 0x20 ∧ r.tag ≠ 0x21) ∨ r.content.length ≠ 4) : takeRecord src s r = s := by
  unfold takeRecord
  split
  · next hcontent =>
    obtain ⟨hlevel, hpump⟩ := h.resolve_right (by simp [hcontent])
    exact (if_neg hlevel).trans (if_neg hpump)
  · rfl

theorem takeLevel_eq (src channel raw : Nat) (flag : Bool) (s : State) : takeLevel src channel raw flag s
    = (s.levelMap.find? fun k => k.station == src && k.channel == channel).elim s
        fun k => levelRecord k.reservoir raw flag s := by
  unfold takeLevel
  cases s.levelMap.find? fun k => k.station == src && k.channel == channel <;> rfl

theorem takePump_eq (src slot run panel fault : Nat) (s : State) : takePump src slot run panel fault s
    = (s.pumpMap.find? fun k => k.station == src && k.slot.val == slot).elim s
        fun k => pumpRecord .live k.pump run panel fault s := by
  unfold takePump
  cases s.pumpMap.find? fun k => k.station == src && k.slot.val == slot <;> rfl

/-! ### A PUMP record at its pump -/

section

variable {p : PumpId} {s : State}

@[simp] theorem now_markPump (q : PumpId) (t : State) : (markPump q t).now = t.now := by rw [markPump_eq]
@[simp] theorem pumps_markPump (q : PumpId) (t : State) : (markPump q t).pumps = t.pumps := by rw [markPump_eq]
@[simp] theorem pumpE_markPump (q p : PumpId) (t : State) : (markPump q t).pumpE p = t.pumpE p := by
  rw [markPump_eq]; rfl

theorem pumpRecord_outside {run panel : Nat} (h : 1 < run ∨ 2 < panel) (k : Ctx) (fault : Nat) :
    pumpRecord k p run panel fault s = s := by
  unfold pumpRecord
  cases hm : panelOf panel with
  | none => rfl
  | some m =>
    have hpanel : panel ≤ 2 := by
      unfold panelOf at hm
      split at hm <;> first | omega | cases hm
    simp [h.resolve_right (by omega)]

theorem pumpRecord_inside {run panel : Nat} {m : Panel} (hrun : run ≤ 1) (hm : panelOf panel = some m) (k : Ctx)
    (fault : Nat) : pumpRecord k p run panel fault s
      = applyFeedback k p (run == 1) (applyFault p fault (applyPanel k p m s)) := by
  simp [pumpRecord, hm, Nat.not_lt.mpr hrun]

/-- A pump whose record takes a panel mode, with the mark of its house (R55). -/
def panelTaken (p : PumpId) (m : Panel) (s : State) : State :=
  markPump p (modPump p (fun q => { q with panel := some m }) s)

theorem pump_panelTaken (m : Panel) : (panelTaken p m s).pump p = { s.pump p with panel := some m } := by
  simp [panelTaken]

theorem applyPanel_same {m : Panel} (h : (s.pump p).panel = some m) (k : Ctx) : applyPanel k p m s = s := if_pos h

theorem applyPanel_first {m : Panel} (h : (s.pump p).panel = none) (k : Ctx) :
    applyPanel k p m s = derivePump k p (panelTaken p m s) := by
  simp [applyPanel, h, panelTaken]

theorem applyPanel_fromRemote {m : Panel} (h : (s.pump p).panel = some .remote) (hne : (s.pump p).panel ≠ some m)
    (k : Ctx) : applyPanel k p m s = derivePump k p (leaveRemote k p (panelTaken p m s)) := by
  unfold applyPanel
  dsimp only
  rw [if_neg hne, if_pos h]
  rfl

theorem applyPanel_fromLocal {m : Panel} (h : (s.pump p).panel = some .hand ∨ (s.pump p).panel = some .off)
    (hne : (s.pump p).panel ≠ some m) (k : Ctx) : applyPanel k p m s
      = derivePump k p (if m = .remote then enterRemote k p (panelTaken p m s) else panelTaken p m s) := by
  have hremote : (s.pump p).panel ≠ some .remote := by rcases h with h | h <;> rw [h] <;> decide
  have hsome : (s.pump p).panel.isSome = true := by rcases h with h | h <;> rw [h] <;> rfl
  unfold applyPanel
  dsimp only
  rw [if_neg hne, if_neg hremote, hsome]
  cases m <;> rfl

/-- The run-on record, written out (R53, R55). -/
theorem runOnCore_eq (p : PumpId) (s : State) : runOnCore p s = { s with pumps := s.pumps.set p { s.pump p with
    run := .running, commanded := false, order := .none, orderTx := none, confirmMark := none, stopExpired := false
    runSeconds := s.runSecondsNow p, accrualMark := s.now } } := by
  simp [runOnCore, accrue, modPump, State.pump]

/-- Ending a start in flight leaves the pumps. -/
theorem pumps_endFlight (p : PumpId) (s : State) : (endFlight p s).pumps = s.pumps := by
  unfold endFlight
  cases hp : (s.pumpE p).house with
  | none => rw [atHouseOf_none _ hp]
  | some h => rw [atHouseOf_some _ hp]; rfl

/-- The record of a start undone, written out (R50). -/
theorem pumps_undoCore (p : PumpId) (s : State) : (undoCore p s).pumps = s.pumps.set p { s.pump p with
    run := .stopped, commanded := false, order := .none, orderTx := none, confirmMark := none, admission := none
    runSeconds := s.runSecondsNow p, accrualMark := s.now } := by
  rw [undoCore, pumps_endFlight]
  simp [accrue, modPump, State.pump]

theorem runSecondsNow_panelTaken (m : Panel) : (panelTaken p m s).runSecondsNow p = s.runSecondsNow p := by
  simp [State.runSecondsNow, State.since, panelTaken]

/-- A STOP_ORDERED pump whose stop has expired runs on when its panel leaves REMOTE (R55). -/
theorem runOnCore_panelTaken (m : Panel) : runOnCore p (panelTaken p m s) = { panelTaken p m s with
    pumps := (panelTaken p m s).pumps.set p { s.pump p with
      panel := some m, run := .running, commanded := false, order := .none, orderTx := none
      confirmMark := none, stopExpired := false, runSeconds := s.runSecondsNow p, accrualMark := s.now } } := by
  rw [runOnCore_eq, runSecondsNow_panelTaken, pump_panelTaken]
  simp [panelTaken]

theorem pumpActive_panelTaken (m : Panel) : (panelTaken p m s).pumpActive p = s.pumpActive p := by
  rw [panelTaken, markPump_eq]; rfl

theorem pumpActive_iff : s.pumpActive p = true ↔ s.engine = .run
    ∧ ∃ h, (s.pumpE p).house = some h ∧ (s.houseE h).used = true ∧ (s.house h).mode = .auto := by
  unfold State.pumpActive State.active
  cases (s.pumpE p).house <;> simp [and_assoc]

/-- An adoption with the effects of a FAILED pump's service state (R48, R57). -/
theorem adopt_eq (k : Ctx) (p : PumpId) (s : State) : adopt k p s = derivePump k p
    (if (s.pump p).service = .failed then clear .startFail p.val (markPump p (adoptCore p s)) else adoptCore p s) := by
  unfold adopt clearStartFail onlyIf
  by_cases h : (s.pump p).service = .failed <;> simp [h]

/-- The adoption of a pump whose panel returns to REMOTE (R55). -/
theorem adoptCore_panelTaken (m : Panel) : adoptCore p (panelTaken p m s) = modPump p (fun x => { x with
    commanded := true, runStart := s.now, minRunOpen := decide (1 ≤ (s.pumpE p).minRun)
    service := if x.service = .failed then .inService else x.service }) (panelTaken p m s) := by
  simp only [adoptCore, panelTaken, pumpE_markPump, pumpE_modPump, now_markPump, modPump_now]
  rfl

/-- A fault code that neither begins nor ends is only held; one that begins raises PUMP_FAULT, one that ends clears it
(R56). -/
theorem applyFault_eq (p : PumpId) (f : Nat) (s : State) : applyFault p f s =
    (let u := modPump p (fun x => { x with fault := some f }) s
    if (s.pump p).fault = none ∨ (s.pump p).fault = some 0 then
      if f = 0 then u else raise .pumpFault p.val (some (s.pumpE p).power) .none (markPump p u)
    else if f = 0 then clear .pumpFault p.val (markPump p u) else u) := by
  have hwas : (((s.pump p).fault.getD 0) != 0) = !decide ((s.pump p).fault = none ∨ (s.pump p).fault = some 0) := by
    cases (s.pump p).fault <;> simp [bne, BEq.beq]
  unfold applyFault onlyIf raisePump
  dsimp only
  rw [hwas]
  by_cases hz : (s.pump p).fault = none ∨ (s.pump p).fault = some 0 <;> by_cases hf : f = 0 <;> simp [hz, hf]

end

/-- Settles O17: the frame by `exec_telemetry`, its records by their tags, and the panel mode and fault code of a PUMP
record by their own lemmas. -/
theorem telemetryRecords : Obligations.TelemetryRecords := by
  refine ⟨?_, ?_, fun src s c hlength => takeRecord_other (.inr hlength), fun p s => ?_⟩
  · intro check a b c d tag s bytes src u hrx hsum hkind hwalk
    have hexec : exec (.frameArrival .field check) s
        = .next (forward .field bytes ([⟨tag, [a, b, c, d]⟩].foldl (takeRecord src) u)) :=
      exec_telemetry hrx hsum hkind hwalk
    have hheard : Touches noRecord (fun _ => True) (fun _ => True) (countedFrame s) u :=
      touches_stationHeardFrom src (countedFrame s)
    have hlevelMap : u.levelMap = s.levelMap := hheard.levelMap
    have hpumpMap : u.pumpMap = s.pumpMap := hheard.pumpMap
    rw [hexec, List.foldl_cons, List.foldl_nil]
    refine ⟨?_, ?_, fun hlevel hpump => ?_⟩
    · rintro rfl
      rw [takeRecord_level, takeLevel_eq, hlevelMap]
      cases s.levelMap.find? fun k => k.station == src && k.channel == a.toNat <;> rfl
    · rintro rfl
      rw [takeRecord_pump, takePump_eq, hpumpMap]
      cases s.pumpMap.find? fun k => k.station == src && k.slot.val == a.toNat <;> rfl
    · rw [takeRecord_other (.inl ⟨hlevel, hpump⟩)]
  · intro check rs s bytes src hrx hsum hkind hwalk
    exact exec_telemetry hrx hsum hkind hwalk
  intro q power active
  have hactive : s.pumpActive p = true ↔ active := pumpActive_iff
  refine ⟨fun run panel fault h => pumpRecord_outside h _ _, fun run fault panel hrun => ?_,
    fun m hm => applyPanel_same hm _, fun m hne => ?_, pumps_undoCore p s, fun f => ?_⟩
  · fin_cases panel <;> exact pumpRecord_inside hrun rfl _ _
  · intro t becomes
    have hpump : t.pump p = { s.pump p with panel := some m } := pump_panelTaken m
    refine ⟨fun hnone => applyPanel_first hnone _, fun hremote => ?_, fun hlocal => ?_⟩
    · have hleave : ∀ {v}, leaveRemote .live p t = v → becomes v := fun hv =>
        (applyPanel_fromRemote hremote hne _).trans (congrArg _ hv)
      refine ⟨fun hrun => hleave ?_, fun hrun horder => hleave ?_, fun hrun horder => hleave ?_,
        fun hrun hexpired => hleave ?_, fun hrun hexpired => hleave ?_, fun hrun => hleave ?_⟩
      · simp [leaveRemote, hpump, hrun, q]
      · simp [leaveRemote, hpump, hrun, horder, q, withdrawStart, undoStart]
      · simp [leaveRemote, hpump, hrun, horder, q, withdrawStart]
      · have hruns : runOnCore p t = _ := runOnCore_panelTaken m
        have hleaves : leaveRemote .live p t = clear .stopFail p.val (markPump p (shed .live (runOnCore p t))) := by
          simp [leaveRemote, hpump, hrun, hexpired, q, clearStopFail, onlyIf]
        exact hleaves.trans (congrArg (fun v => clear .stopFail p.val (markPump p (shed .live v))) hruns)
      · simp [leaveRemote, hpump, hrun, hexpired, q]
      · rcases hrun with hrun | hrun | hrun <;> simp [leaveRemote, hpump, hrun, q]
    · have henter : ∀ {v}, (if m = .remote then enterRemote .live p t else t) = v → becomes v := fun hv =>
        (applyPanel_fromLocal hlocal hne _).trans (congrArg _ hv)
      have hsame : t.pumpActive p = s.pumpActive p := pumpActive_panelTaken m
      have hactive' : t.pumpActive p = true ↔ active := by rw [hsame]; exact hactive
      refine ⟨fun ⟨hm, hrun, hcommanded, hact⟩ => ?_, fun hnot => henter ?_⟩
      · intro v
        have hadopts : enterRemote .live p t = adopt .live p t :=
          if_pos ⟨by rw [hpump]; exact hrun, by rw [hpump]; exact hcommanded, hactive'.mpr hact⟩
        have hv : adoptCore p t = v := adoptCore_panelTaken m
        refine henter ?_
        rw [if_pos hm, hadopts, adopt_eq, hv, hpump]
      · by_cases hm : m = .remote
        · rw [if_pos hm]
          refine if_neg fun ⟨hrun, hcommanded, hact⟩ => hnot ⟨hm, ?_, ?_, hactive'.mp hact⟩
          · rw [hpump] at hrun; exact hrun
          · rw [hpump] at hcommanded; exact hcommanded
        · rw [if_neg hm]
  · intro u zero
    have hfault := applyFault_eq p f s
    refine ⟨fun hz hf => ?_, fun hz hf => ?_, fun hz hf => ?_, fun hz hf => ?_⟩
    · exact hfault.trans (by rw [if_pos hz, if_pos hf])
    · exact hfault.trans (by rw [if_pos hz, if_neg (by omega)])
    · exact hfault.trans (by rw [if_neg hz, if_neg (by omega)])
    · exact hfault.trans (by rw [if_neg hz, if_pos hf])

end Sys2Proof.Machine

/-! ## The end of STARTUP, and image 8 as SAVE makes it -/

namespace Sys2Proof.Machine

/-! ### The bytes of image 8 (R182) -/

theorem numOf_word16 (n : Nat) : numOf (word16 n) = n % 65536 := by
  simp only [numOf, word16, List.foldl_cons, List.foldl_nil, BitVec.toNat_ofNat]
  omega

theorem numOf_word32 (n : Nat) : numOf (word32 n) = n % 4294967296 := by
  simp only [numOf, word32, List.foldl_cons, List.foldl_nil, BitVec.toNat_ofNat]
  omega

theorem serviceOf_serviceCode (v : Service) : serviceOf (numOf [BitVec.ofNat 8 (serviceCode v)]) = v := by
  cases v <;> rfl

theorem runContent_cons (q : Pump) (qs : List Pump) :
    runContent (q :: qs) = word32 q.runSeconds ++ BitVec.ofNat 8 (serviceCode q.service) :: runContent qs := by
  simp [runContent]

theorem length_runContent (qs : List Pump) : (runContent qs).length = 5 * qs.length := by
  induction qs with
  | nil => rfl
  | cons q rest ih => rw [runContent_cons, List.length_append, List.length_cons, ih, List.length_cons]; simp [word32]; omega

/-- The content that SAVE makes of pump records reads back as their run seconds and service states. -/
theorem runEntries_runContent {qs : List Pump} (h : ∀ q ∈ qs, q.runSeconds ≤ 4294967295) :
    runEntries qs.length (runContent qs) = qs.map fun q => (q.runSeconds, q.service) := by
  induction qs with
  | nil => rfl
  | cons q rest ih =>
    obtain ⟨hq, hrest⟩ := List.forall_mem_cons.mp h
    have hseconds : numOf (word32 q.runSeconds) = q.runSeconds := by rw [numOf_word32]; omega
    rw [List.length_cons, runContent_cons, List.map_cons, ← ih hrest]
    show (numOf (word32 q.runSeconds), serviceOf (numOf [BitVec.ofNat 8 (serviceCode q.service)])) :: _ = _
    rw [hseconds, serviceOf_serviceCode]
    rfl

/-- An image is good and gives its content back where the content has the length of its number (R182). -/
theorem imageContent_imageBytes {c : List Byte} (hlen : c.length = 160) :
    imageContent 8 (imageBytes 8 c) = some c := by
  have hbytes : imageBytes 8 c = 8 :: 0 :: 160 :: (c ++ word16 (byteSum (8 :: 0 :: 160 :: c))) := by
    simp [imageBytes, hlen, word16]
  have hfront : (imageBytes 8 c).take 163 = 8 :: 0 :: 160 :: c := by
    rw [hbytes]; simp [← hlen]
  have hcheck : (imageBytes 8 c).drop 163 = word16 (byteSum (8 :: 0 :: 160 :: c)) := by
    rw [hbytes]; simp [← hlen]
  have hcontent : ((imageBytes 8 c).drop 3).take 160 = c := by
    rw [hbytes]; simp [← hlen]
  have hlength : (imageBytes 8 c).length = 165 := by
    rw [hbytes]; simp [hlen, word16]
  have hnumber : numOf ((imageBytes 8 c).take 1) = 8 := by rw [hbytes]; rfl
  have hsize : numOf (((imageBytes 8 c).drop 1).take 2) = 160 := by rw [hbytes]; rfl
  simp only [imageContent, contentLength, tableOf, hlength, hnumber, hsize, hfront, hcheck, hcontent, numOf_word16]
  simp

/-! ### Run seconds and service states loaded (R184) -/

section

variable {s : State}

/-- Loading run seconds and service states sets the records of the pumps named, and no other part. -/
theorem foldl_loadRun {l : List (PumpId × (Nat × Service))} (hn : (l.map Prod.fst).Nodup) :
    ∃ w, l.foldl loadRun s = setPumps w s
      ∧ ∀ p, (∀ v, (p, v) ∈ l → w.get p = { s.pump p with runSeconds := v.1, service := v.2 })
        ∧ (p ∉ l.map Prod.fst → w.get p = s.pump p) := by
  induction l generalizing s with
  | nil => exact ⟨s.pumps, rfl, fun p => ⟨by simp, fun _ => rfl⟩⟩
  | cons a rest ih =>
    obtain ⟨ha, hrest⟩ := List.nodup_cons.mp hn
    obtain ⟨w, hw, hget⟩ := ih (s := loadRun s a) hrest
    refine ⟨w, hw, fun p => ?_⟩
    obtain ⟨hin, hout⟩ := hget p
    by_cases hp : p = a.1
    · subst hp
      refine ⟨fun v hv => ?_, fun h => absurd (List.mem_cons_self) h⟩
      rcases List.mem_cons.mp hv with heq | hmem
      · rw [hout ha, ← heq]; exact pump_modPump_same ..
      · exact absurd (List.mem_map_of_mem (f := Prod.fst) hmem) ha
    · have hother : (loadRun s a).pump p = s.pump p := by rw [loadRun, pump_modPump, if_neg hp]
      rw [hother] at hin hout
      refine ⟨fun v hv => hin v ((List.mem_cons.mp hv).resolve_left fun e => hp (congrArg Prod.fst e)), fun h => ?_⟩
      exact hout fun hm => h (List.mem_cons_of_mem _ hm)

/-- The run seconds and service states that a read of image 8 gives the pumps (R184). -/
def runsRead (bytes : Option (List Byte)) : List (Nat × Service) :=
  ((bytes.bind (imageContent 8)).map (runEntries 32)).getD (.replicate 32 (0, .inService))

theorem length_runEntries (n : Nat) (bs : List Byte) : (runEntries n bs).length = n := by
  induction n generalizing bs with
  | zero => rfl
  | succ n ih => simp [runEntries, ih]

theorem length_runsRead (bytes : Option (List Byte)) : (runsRead bytes).length = 32 := by
  unfold runsRead
  cases bytes.bind (imageContent 8) with
  | none => simp
  | some c => simp [length_runEntries]

theorem restoreRuns_fold (bytes : Option (List Byte)) (s : State) :
    restoreRuns bytes s = (allPumps.zip (runsRead bytes)).foldl loadRun s := by
  unfold restoreRuns runsRead
  cases bytes.bind (imageContent 8) <;> rfl

/-- Image 8 judged sets every pump's run seconds and service state. -/
theorem restoreRuns_eq (bytes : Option (List Byte)) (s : State) : ∃ w, restoreRuns bytes s = setPumps w s
    ∧ ∀ (p : PumpId) v, (runsRead bytes)[p.val]? = some v →
      w.get p = { s.pump p with runSeconds := v.1, service := v.2 } := by
  have hlen : allPumps.length ≤ (runsRead bytes).length := by simp [length_runsRead, allPumps]
  have hkeys : (allPumps.zip (runsRead bytes)).map Prod.fst = allPumps := List.map_fst_zip hlen
  obtain ⟨w, hw, hget⟩ := foldl_loadRun (s := s) (l := allPumps.zip (runsRead bytes)) (by
    rw [hkeys]; exact nodup_allPumps)
  refine ⟨w, (restoreRuns_fold bytes s).trans hw, fun p v hv => (hget p).1 v ?_⟩
  have hp : allPumps[p.val]? = some p := by simp [allPumps]
  exact List.mem_of_getElem? (i := p.val) (List.getElem?_zip_eq_some.mpr ⟨hp, hv⟩)

/-! ### The end of STARTUP (R18, R73) -/

/-- Outside RUN a latch sets the period and moves the arbiter and the alarms beside. -/
theorem latch_eq {s : State} (he : s.engine ≠ .run) (k : Ctx) (source : Option CalId) (cause : LatchCause) :
    ∃ a b c d, latch k source cause s
      = { s with period := s.periodOf source cause, arbiter := a, alarms := b, responses := c, sup := d } := by
  have hlatch : latch k source cause s = recompute (setPeriod source cause s) := by
    have hset : (setPeriod source cause s).engine ≠ .run := he
    rw [latch, handLatch, if_neg hset, arbiterLatch_of_not_run hset]
  obtain ⟨a, b, c, d, h⟩ := recompute_eq (setPeriod source cause s)
  exact ⟨a, b, c, d, hlatch.trans h⟩

theorem endStartup_eq (he : s.engine ≠ .run) : ∃ a b c d, endStartup s = { s with
    storeTx := .idle, levelMap := levelMapOf s.tables, pumpMap := pumpMapOf s.tables, pumps := pumpsAfterReset s
    period := s.periodOf none .powerUp, arbiter := a, alarms := b, responses := c, sup := d
    engine := .standby, settleMark := s.now
    autoStart := if s.imagesGood ∧ s.site.autoRun = 1 then .pending else .none } := by
  obtain ⟨a, b, c, d, h⟩ := latch_eq (s := beginRecords (rebuildMaps { s with storeTx := .idle })) he .quiet none .powerUp
  refine ⟨a, b, c, d, ?_⟩
  rw [endStartup, h]
  rfl

theorem pump_pumpsAfterReset (s : State) (p : PumpId) : (pumpsAfterReset s).get p =
    .fresh (if (s.pumpE p).used then .unknown else .unused) (s.pump p).runSeconds (s.pump p).service := by
  simp [pumpsAfterReset, Vector.get_eq_getElem]

theorem exec_lastImage (r : StoreRead) (htx : s.storeTx = .restoring 8) :
    exec (.restoreImageRead r) s = .next (endStartup (restoreRuns (s.readBytes 8 r) s)) := by
  show Host.Outcome.next (imageRead r s) = _
  unfold imageRead
  rw [htx]
  rfl

/-- Settles O39: the engine is not in RUN, so the latch does no more than recompute the window (R117), and every pump
record begins with what image 8 gave it. -/
theorem endOfStartup : Obligations.EndOfStartup := by
  intro r s htx he
  obtain ⟨w, hw, hget⟩ := restoreRuns_eq (s.readBytes 8 r) s
  obtain ⟨a, b, c, d, hend⟩ := endStartup_eq (s := setPumps w s) (by rw [setPumps, he]; decide)
  refine ⟨_, (exec_lastImage r htx).trans (congrArg Host.Outcome.next ((congrArg endStartup hw).trans hend)), ?_⟩
  have hpump := pump_pumpsAfterReset (setPumps w s)
  refine ⟨rfl, rfl, rfl, rfl, rfl, rfl, rfl, rfl, rfl, rfl, rfl, fun p => ?_, fun hr p => ?_, fun ps hr hs hle p => ?_⟩
  · simp only [State.pump] at hpump ⊢
    rw [hpump]
    refine ⟨?_, rfl, rfl, rfl, rfl⟩
    show (if ((s.pumpE p).house).isSome = true then RunState.unknown else .unused) = _
    cases (s.pumpE p).house <;> rfl
  · have hruns : (runsRead (s.readBytes 8 r))[p.val]? = some (0, .inService) := by
      subst hr
      exact List.getElem?_replicate_of_lt p.isLt
    have hp : (setPumps w s).pump p = _ := hget p _ hruns
    simp only [State.pump] at hpump ⊢ hp
    rw [hpump, hp]
    exact ⟨rfl, rfl⟩
  · have hcontent : s.readBytes 8 r = some (imageBytes 8 (runContent ps.toList)) := by
      subst hr
      simp only [State.readBytes, hs]
    have hlen : (runContent ps.toList).length = 160 := by simp [length_runContent]
    have hentries : runEntries 32 (runContent ps.toList) = ps.toList.map fun q => (q.runSeconds, q.service) := by
      have h := runEntries_runContent (qs := ps.toList) (fun q hq => by
        obtain ⟨i, hi, rfl⟩ := Array.mem_iff_getElem.mp (Array.mem_def.mpr hq)
        exact hle ⟨i, by simpa using hi⟩)
      simpa using h
    have hruns : (runsRead (s.readBytes 8 r))[p.val]? = some ((ps.get p).runSeconds, (ps.get p).service) := by
      rw [hcontent, runsRead, Option.bind_some, imageContent_imageBytes hlen, Option.map_some, Option.getD_some,
        hentries]
      simp [Vector.get_eq_getElem]
    have hp : (setPumps w s).pump p = _ := hget p _ hruns
    simp only [State.pump] at hpump ⊢ hp
    rw [hpump, hp]
    exact ⟨rfl, rfl⟩

end

end Sys2Proof.Machine

/-! ## What the orders of a part of the station can move (R119-R138) -/

namespace Sys2Proof.Machine

/-! ### Orders confined to some houses and pumps -/

/-- The orders of a state reach these houses and pumps alone: pumps of the houses are among the pumps, an AUTO house in
RUN is among the houses, each request is for a house and a pump among them, and a queued entry of another house is a
RELEASE entry. -/
structure Confined (A : HouseId → Prop) (B : PumpId → Prop) (s : State) : Prop where
  placed : ∀ p h, (s.pumpE p).house = some h → A h → B p
  active : ∀ h, s.active h = true → A h
  requests : ∀ e ∈ s.arbiter.requests, A e.house ∧ B e.pump
  queue : ∀ e ∈ s.dispatcher.queue, ¬A e.house → e.released = e

/-- An ORDERS entry of a house is queued. -/
def State.Ordered (s : State) (h : HouseId) : Prop := ∃ e ∈ s.dispatcher.queue, e.house = h ∧ e.kind = .orders

/-- An ORDERS entry of a house is in transmission. -/
def State.Sending (s : State) (h : HouseId) : Prop := ∃ e, s.dispatcher.inTx = some e ∧ e.house = h ∧ e.kind = .orders

/-- From `s` to `t` no more than orders, marks, the arbiter and the queue have moved, and of the pumps, houses and entries
those of `B` and `A` alone; `T` says whether the field port may have taken an entry, where it was idle. -/
structure Moves (T : Prop) (A : HouseId → Prop) (B : PumpId → Prop) (s t : State) : Prop where
  apart : t.apartOrders = s.apartOrders
  pump : ∀ p, ¬B p → t.pump p = s.pump p
  house : ∀ h, ¬A h → t.house h = s.house h
  marks : ∀ h ∈ s.marks, h ∈ t.marks
  requests : ∀ e ∈ t.arbiter.requests, e ∈ s.arbiter.requests
  refresh : t.dispatcher.refresh = s.dispatcher.refresh
  queue : ∀ e ∈ t.dispatcher.queue, ¬A e.house → e ∈ s.dispatcher.queue
  port : ¬(T ∧ s.field.tx = none) → t.dispatcher.inTx = s.dispatcher.inTx ∧ t.field.tx = s.field.tx
  kept : ∀ e ∈ s.dispatcher.queue, ¬A e.house →
    e ∈ t.dispatcher.queue ∨ ((T ∧ s.field.tx = none) ∧ t.dispatcher.inTx = some e ∧ t.field.tx ≠ none)
  orders : ∀ h, s.Ordered h → t.Ordered h ∨ ((T ∧ s.field.tx = none) ∧ t.Sending h ∧ t.field.tx ≠ none)

/-- Confined orders make the step a move of their houses and pumps. -/
def Carries (T : Prop) (A : HouseId → Prop) (B : PumpId → Prop) (s t : State) : Prop :=
  Confined A B s → Moves T A B s t

section

variable {T : Prop} {A : HouseId → Prop} {B : PumpId → Prop} {s t u : State}

theorem tables_of_moves (h : Moves T A B s t) : t.tables = s.tables := tables_of_apartOrders h.apart

theorem active_of_apartOrders (h : t.apartOrders = s.apartOrders) (g : HouseId) : t.active g = s.active g := by
  unfold State.active
  rw [engine_of_apartOrders h, houseE_eq_of_tables (tables_of_apartOrders h), house_mode_of_apartOrders h]

theorem Moves.confined (h : Moves T A B s t) (hs : Confined A B s) : Confined A B t where
  placed p g := by rw [pumpE_eq_of_tables (tables_of_moves h)]; exact hs.placed p g
  active g := by rw [active_of_apartOrders h.apart]; exact hs.active g
  requests e he := hs.requests e (h.requests e he)
  queue e he hA := hs.queue e (h.queue e he hA) hA

theorem Moves.refl (s : State) : Moves T A B s s :=
  ⟨rfl, fun _ _ => rfl, fun _ _ => rfl, fun _ h => h, fun _ h => h, rfl, fun _ h _ => h, fun _ => ⟨rfl, rfl⟩,
    fun _ h _ => .inl h, fun _ h => .inl h⟩

/-- A port that may have taken an entry after a move could have taken one before it. -/
theorem Moves.idle_before (h : Moves T A B s t) (ht : T ∧ t.field.tx = none) : T ∧ s.field.tx = none := by
  by_contra hs
  exact hs ⟨ht.1, (h.port hs).2.symm.trans ht.2⟩

theorem Moves.trans (h₁ : Moves T A B s t) (h₂ : Moves T A B t u) : Moves T A B s u where
  apart := h₂.apart.trans h₁.apart
  pump p hp := (h₂.pump p hp).trans (h₁.pump p hp)
  house g hg := (h₂.house g hg).trans (h₁.house g hg)
  marks g hg := h₂.marks g (h₁.marks g hg)
  requests e he := h₁.requests e (h₂.requests e he)
  refresh := h₂.refresh.trans h₁.refresh
  queue e he hA := h₁.queue e (h₂.queue e he hA) hA
  port hs := by
    have ht := mt h₁.idle_before hs
    exact ⟨(h₂.port ht).1.trans (h₁.port hs).1, (h₂.port ht).2.trans (h₁.port hs).2⟩
  kept e he hA := by
    rcases h₁.kept e he hA with ht | ⟨hT, htx, hbusy⟩
    · exact (h₂.kept e ht hA).imp_right fun ⟨hT, h⟩ => ⟨h₁.idle_before hT, h⟩
    · have hport := h₂.port fun h => hbusy h.2
      exact .inr ⟨hT, hport.1.trans htx, by rwa [hport.2]⟩
  orders g hg := by
    rcases h₁.orders g hg with ht | ⟨hT, hsending, hbusy⟩
    · exact (h₂.orders g ht).imp_right fun ⟨hT, h⟩ => ⟨h₁.idle_before hT, h⟩
    · have hport := h₂.port fun h => hbusy h.2
      refine .inr ⟨hT, ?_, by rwa [hport.2]⟩
      unfold State.Sending
      rwa [hport.1]

/-- A move of the alarms, the marks, the arbiter and the records of orders, away from the queue and the port. -/
theorem Moves.ofRecords (hapart : t.apartOrders = s.apartOrders) (hpump : ∀ p, ¬B p → t.pump p = s.pump p)
    (hhouse : ∀ h, ¬A h → t.house h = s.house h) (hmarks : ∀ h ∈ s.marks, h ∈ t.marks)
    (hrequests : ∀ e ∈ t.arbiter.requests, e ∈ s.arbiter.requests) (hdispatcher : t.dispatcher = s.dispatcher)
    (hfield : t.field = s.field) : Moves T A B s t where
  apart := hapart
  pump := hpump
  house := hhouse
  marks := hmarks
  requests := hrequests
  refresh := by rw [hdispatcher]
  queue e he _ := by rwa [hdispatcher] at he
  port _ := by rw [hdispatcher, hfield]; exact ⟨rfl, rfl⟩
  kept e he _ := .inl (by rwa [hdispatcher])
  orders g hg := .inl (by unfold State.Ordered; rwa [hdispatcher])

theorem Carries.refl (s : State) : Carries T A B s s := fun _ => .refl s

theorem Carries.trans (h₁ : Carries T A B s t) (h₂ : Carries T A B t u) : Carries T A B s u := fun hs =>
  (h₁ hs).trans (h₂ ((h₁ hs).confined hs))

theorem Carries.foldl {α : Type} {f : State → α → State} (hf : ∀ v a, Carries T A B v (f v a)) (l : List α) (s : State) :
    Carries T A B s (l.foldl f s) := by
  induction l generalizing s with
  | nil => exact .refl s
  | cons a rest ih => exact (hf s a).trans (ih _)

theorem Carries.onlyIf (b : Bool) {f : State → State} (hf : ∀ v, Carries T A B v (f v)) (s : State) :
    Carries T A B s (onlyIf b f s) := by
  unfold Machine.onlyIf
  split
  · exact hf s
  · exact .refl s

/-! ### Single operations -/

theorem moves_of_apartAlarms (h : t.apartAlarms = s.apartAlarms) : Moves T A B s t :=
  .ofRecords (by have e := congrArg State.apartOrders h; exact e) (fun p _ => pump_of_apartAlarms h p)
    (fun g _ => house_of_apartAlarms h g) (fun _ hg => by rwa [marks_of_apartAlarms h])
    (fun _ he => by rwa [arbiter_of_apartAlarms h] at he) (dispatcher_of_apartAlarms h) (field_of_apartAlarms h)

theorem moves_modArbiter {f : Arbiter → Arbiter} (hf : ∀ e ∈ (f s.arbiter).requests, e ∈ s.arbiter.requests) :
    Moves T A B s (modArbiter f s) :=
  .ofRecords rfl (fun _ _ => rfl) (fun _ _ => rfl) (fun _ h => h) hf rfl rfl

theorem moves_mark (h : HouseId) (s : State) : Moves T A B s (mark h s) :=
  .ofRecords rfl (fun _ _ => rfl) (fun _ _ => rfl) (fun _ hg => List.mem_append_left _ hg) (fun _ he => he) rfl rfl

theorem moves_markPump (p : PumpId) (s : State) : Moves T A B s (markPump p s) := by
  rw [markPump_eq]
  exact .ofRecords rfl (fun _ _ => rfl) (fun _ _ => rfl) (fun _ hg => List.mem_append_left _ hg) (fun _ he => he) rfl rfl

theorem moves_modPump {p : PumpId} {f : Pump → Pump} (hp : B p)
    (hf : (f (s.pump p)).apartOrder = (s.pump p).apartOrder) : Moves T A B s (modPump p f s) :=
  .ofRecords (apartOrders_modPump s p f hf) (fun q hq => by rw [pump_modPump, if_neg fun e : q = p => hq (e ▸ hp)])
    (fun _ _ => rfl) (fun _ h => h) (fun _ h => h) rfl rfl

theorem moves_modHouse {h : HouseId} {f : House → House} (hh : A h)
    (hf : (f (s.house h)).apartStart = (s.house h).apartStart) : Moves T A B s (modHouse h f s) :=
  .ofRecords (apartOrders_modHouse s h f hf) (fun _ _ => rfl)
    (fun g hg => by rw [house_modHouse, if_neg fun e : g = h => hg (e ▸ hh)]) (fun _ h => h) (fun _ h => h) rfl rfl

theorem moves_accrue {p : PumpId} (hp : B p) (s : State) : Moves T A B s (accrue p s) := moves_modPump hp rfl

theorem moves_recompute (s : State) : Moves T A B s (recompute s) := by
  have hover : ∀ v, Moves T A B v (testOver v) := fun v => by
    unfold testOver Machine.onlyIf
    repeat' split
    · exact (moves_modArbiter (f := fun a => { a with overBudget := true }) fun _ h => h).trans
        (moves_of_apartAlarms (apartAlarms_raise _ _ _ _ _))
    · exact .refl v
    · exact (moves_modArbiter (f := fun a => { a with overBudget := false }) fun _ h => h).trans
        (moves_of_apartAlarms (apartAlarms_clear _ _ _))
    · exact .refl v
  unfold recompute
  exact (moves_modArbiter fun _ h => h).trans (hover _)

theorem moves_stopCore {p : PumpId} (hp : B p) (s : State) : Moves T A B s (stopCore p s) :=
  (moves_accrue hp s).trans (moves_modPump hp rfl)

theorem moves_startCore {p : PumpId} (hp : B p) (u : Urgency) (s : State) : Moves T A B s (startCore p u s) :=
  (moves_accrue hp s).trans (moves_modPump hp rfl)

/-- Ending a start in flight of a pump whose house is among the houses. -/
theorem moves_endFlight {p : PumpId} (hA : ∀ h, (s.pumpE p).house = some h → A h) : Moves T A B s (endFlight p s) := by
  unfold endFlight
  cases hp : (s.pumpE p).house with
  | none => rw [atHouseOf_none _ hp]; exact .refl s
  | some h =>
    rw [atHouseOf_some _ hp]
    refine moves_modHouse (hA h hp) ?_
    split <;> rfl

theorem moves_undoCore {p : PumpId} (hp : B p) (hA : ∀ h, (s.pumpE p).house = some h → A h) :
    Moves T A B s (undoCore p s) :=
  ((moves_accrue hp s).trans (moves_modPump hp rfl)).trans (moves_endFlight hA)

theorem moves_failCore {p : PumpId} (hp : B p) (hA : ∀ h, (s.pumpE p).house = some h → A h) :
    Moves T A B s (failCore p s) :=
  ((moves_accrue hp s).trans (moves_modPump hp rfl)).trans (moves_endFlight hA)

theorem moves_dropRequest (h : HouseId) (s : State) : Moves T A B s (dropRequest h s) :=
  moves_modArbiter fun _ he => (List.mem_filter.mp he).1

theorem moves_recordGrant {e : Request} (hA : A e.house) (s : State) : Moves T A B s (recordGrant e s) :=
  (moves_modArbiter (f := fun a => { a with lastGrantMark := s.now, lastGrant := some (e.house, e.pump) })
    fun _ h => h).trans (moves_modHouse hA rfl)

/-- A house's queued entries updated in place to ORDERS, or another ORDERS entry of it at the end. -/
theorem moves_placeOrders {h : HouseId} (hA : A h) (forced : Bool) (s : State) :
    Moves T A B s (placeOrders forced h s) := by
  have hkeeps : ∀ q : List DispEntry, (∀ e ∈ q, ¬A e.house → e ∈ s.dispatcher.queue) →
      (∀ e ∈ s.dispatcher.queue, e ∈ q ∨ (e.house = h ∧ ∃ x ∈ q, x.house = h ∧ x.kind = .orders)) →
      Moves T A B s (modDispatcher (fun d => { d with queue := q }) s) := fun q hnew hold =>
    { apart := rfl, pump := fun _ _ => rfl, house := fun _ _ => rfl, marks := fun _ h => h, requests := fun _ h => h,
      refresh := rfl, queue := hnew, port := fun _ => ⟨rfl, rfl⟩
      kept := fun e he hne => .inl ((hold e he).resolve_right fun hx => hne (hx.1 ▸ hA))
      orders := fun g ⟨e, he, hg, hkind⟩ => .inl <| (hold e he).elim (fun hq => ⟨e, hq, hg, hkind⟩) fun hx =>
        have ⟨heh, x, hx, hxh, hxkind⟩ := hx
        ⟨x, hx, hxh.trans (heh.symm.trans hg), hxkind⟩ }
  unfold placeOrders
  split
  · refine hkeeps (s.dispatcher.queue.map fun e => if e.house = h then refreshEntry s e else e) ?_ ?_
    · intro e he hne
      obtain ⟨x, hx, rfl⟩ := List.mem_map.mp he
      split at hne
      · next hxh => exact absurd (hxh ▸ hA) hne
      · next hxh => rw [if_neg hxh]; exact hx
    · intro e he
      by_cases heh : e.house = h
      · have hmem : refreshEntry s e ∈ s.dispatcher.queue.map fun e => if e.house = h then refreshEntry s e else e :=
          List.mem_map.mpr ⟨e, he, if_pos heh⟩
        exact .inr ⟨heh, _, hmem, heh, rfl⟩
      · exact .inl (List.mem_map.mpr ⟨e, he, if_neg heh⟩)
  · dsimp only
    split
    · refine hkeeps (s.dispatcher.queue ++ [newEntry s h]) (fun e he hne => ?_) fun e he => ?_
      · exact (List.mem_append.mp he).resolve_right fun hx => hne (by rw [List.mem_singleton.mp hx]; exact hA)
      · exact .inl (List.mem_append_left _ he)
    · exact .refl s

/-! ### Shedding, grants and load changes -/

/-- A context whose take moves confined orders alone. -/
def Ctx.Carries (k : Ctx) (T : Prop) (A : HouseId → Prop) (B : PumpId → Prop) : Prop :=
  ∀ s, Machine.Carries T A B s (k.take s)

theorem carries_quiet : Ctx.quiet.Carries T A B := .refl

section

variable {k : Ctx} (hk : k.Carries T A B) (s)
include hk

theorem carries_derive (forced : Bool) (h : HouseId) : Carries T A B s (derive k forced h s) := by
  unfold derive
  split
  · next hact =>
    obtain ⟨-, hact⟩ := Bool.and_eq_true_iff.mp hact
    exact fun hs => Carries.trans (fun _ => moves_placeOrders (hs.active h hact) forced s) (hk _) hs
  · exact .refl s

theorem carries_derivePump (p : PumpId) : Carries T A B s (derivePump k p s) := by
  unfold derivePump
  cases hp : (s.pumpE p).house with
  | none => rw [atHouseOf_none _ hp]; exact .refl s
  | some h => rw [atHouseOf_some _ hp]; exact carries_derive s hk false h

omit hk in
theorem mem_foldl_pick {α : Type} {f : Option α → α → Option α} (hf : ∀ b a, f b a = some a ∨ f b a = b)
    (l : List α) (b : Option α) {a : α} (h : l.foldl f b = some a) : a ∈ l ∨ b = some a := by
  induction l generalizing b with
  | nil => exact .inr h
  | cons x rest ih =>
    rcases ih _ h with hmem | hx
    · exact .inl (List.mem_cons_of_mem _ hmem)
    · rcases hf b x with hfx | hfx
      · rw [hfx, Option.some.injEq] at hx; exact .inl (hx ▸ List.mem_cons_self)
      · exact .inr (hfx ▸ hx)

omit hk in
theorem shedable_of_shedNext {p : PumpId} (h : s.shedNext = some p) : s.shedable p = true := by
  have hpick : ∀ b q, s.shedPick b q = some q ∨ s.shedPick b q = b := fun b q => by
    unfold State.shedPick
    repeat' split
    all_goals simp
  have hmem := (mem_foldl_pick hpick _ none h).resolve_right (by simp)
  have hboth := (List.mem_filter.mp hmem).2
  exact (Bool.and_eq_true_iff.mp hboth).1

omit hk in
theorem Confined.shedable (hs : Confined A B s) (he : s.engine = .run) {p : PumpId} (h : s.shedable p = true) : B p := by
  unfold State.shedable at h
  split at h
  · cases h
  · next g hp =>
    refine hs.placed p g hp (hs.active g ?_)
    unfold State.active
    simp only [Bool.and_eq_true] at h
    obtain ⟨⟨⟨-, hused⟩, hmode⟩, -⟩ := h
    rw [he, hused, hmode]
    rfl

theorem carries_shedLoop (fuel : Nat) (he : s.engine = .run) : Carries T A B s (shedLoop k fuel s) := by
  induction fuel generalizing s with
  | zero => exact .refl s
  | succ n ih =>
    unfold shedLoop
    split
    · exact fun _ => moves_modArbiter fun _ h => h
    · split
      · exact fun _ => moves_modArbiter fun _ h => h
      · next p hp =>
        intro hs
        have hB := hs.shedable s he (shedable_of_shedNext s hp)
        have hmoves : Moves T A B s (markPump p (stopCore p s)) := (moves_stopCore hB s).trans (moves_markPump p _)
        refine Carries.trans (Carries.trans (fun _ => hmoves) (carries_derivePump _ hk p)) (fun hc => ?_) hs
        have hmoved := carries_derivePump _ hk p (hmoves.confined hs)
        exact ih _ ((engine_of_apartOrders (hmoved.apart.trans hmoves.apart)).trans he) hc

theorem carries_shed : Carries T A B s (shed k s) := by
  unfold shed
  split
  · next he => exact carries_shedLoop s hk 33 he
  · exact .refl s

omit hk in
theorem mem_of_winner {e : Request} (h : s.winner = some e) : e ∈ s.arbiter.requests := by
  have hpick : ∀ b x, betterRequest b x = some x ∨ betterRequest b x = b := fun b x => by
    unfold betterRequest
    repeat' split
    all_goals simp
  exact List.mem_of_mem_filter ((mem_foldl_pick hpick _ none h).resolve_right (by simp))

theorem carries_grant {e : Request} (hA : A e.house) (hB : B e.pump) : Carries T A B s (grant k e s) := by
  have hstart : Moves T A B s (recordGrant e (startCore e.pump e.effective (dropRequest e.house s))) :=
    ((moves_dropRequest e.house s).trans (moves_startCore hB _ _)).trans (moves_recordGrant hA _)
  have hload : Moves T A B s (recompute (recordGrant e (startCore e.pump e.effective (dropRequest e.house s)))) :=
    hstart.trans (moves_recompute _)
  exact (Carries.trans (fun _ => hload) (carries_shed _ hk)).trans
    (Carries.trans (fun _ => moves_mark e.house _) (carries_derive _ hk false e.house))

theorem carries_consider : Carries T A B s (consider k s) := by
  unfold consider
  split
  · split
    · exact .refl s
    · next e he =>
      intro hs
      obtain ⟨hA, hB⟩ := hs.requests e (mem_of_winner s he)
      exact carries_grant s hk hA hB hs
  · exact .refl s

theorem carries_loadFell : Carries T A B s (loadFell k s) :=
  Carries.trans (fun _ => moves_recompute s) (carries_consider _ hk)

theorem carries_loadRose : Carries T A B s (loadRose k s) :=
  (Carries.trans (fun _ => moves_recompute s) (.onlyIf _ (fun v => carries_consider v hk) _)).trans (carries_shed _ hk)

theorem carries_loadChanged (before : Nat) : Carries T A B s (loadChanged k before s) := by
  unfold loadChanged
  split
  · exact carries_loadRose s hk
  · split
    · exact carries_loadFell s hk
    · exact .refl s

end

/-! ### The suction guard and the take (R138, R139) -/

theorem house_of_pumpAt {h : HouseId} {c : SlotId} {p : PumpId} (hp : s.pumpAt h c = some p) :
    (s.pumpE p).house = some h := by
  have hmatch := List.find?_some hp
  have hboth := Bool.and_eq_true_iff.mp hmatch
  exact beq_iff_eq.mp hboth.1

theorem Confined.pumpAt (hs : Confined A B s) {h : HouseId} (hA : A h) {c : SlotId} {p : PumpId}
    (hp : s.pumpAt h c = some p) : B p := hs.placed p h (house_of_pumpAt hp) hA

theorem carries_guardPump {h : HouseId} (hA : A h) {p : PumpId} (hp : (s.pumpE p).house = some h) :
    Carries T A B s (guardPump p s) := by
  intro hs
  have hB : B p := hs.placed p h hp hA
  have hown : ∀ g, (s.pumpE p).house = some g → A g := fun g hg => by
    rw [hp, Option.some.injEq] at hg; exact hg ▸ hA
  have hfell : ∀ {v}, Moves T A B s v → Moves T A B s (markPump p (loadFell .quiet v)) := fun hv =>
    (hv.trans (carries_loadFell _ carries_quiet (hv.confined hs))).trans (moves_markPump p _)
  unfold guardPump
  split
  · exact hfell (moves_undoCore hB hown)
  · exact hfell (moves_failCore hB hown)
  · split
    · have hstop : Moves T A B s (stopCore p s) := moves_stopCore hB s
      exact (hstop.trans (carries_shed _ carries_quiet (hstop.confined hs))).trans (moves_markPump p _)
    · exact .refl s
  · exact .refl s

theorem carries_guardPass {h : HouseId} (hA : A h) (o : Vector Order 4) (s : State) :
    Carries T A B s (guardPass h o s) := by
  refine .foldl (fun v c => ?_) _ s
  unfold guardSlot
  split
  · split
    · exact .refl v
    · next p hp => exact carries_guardPump hA (house_of_pumpAt hp)
  · exact .refl v

/-- The guard leaves house and kind of the entry it derives again. -/
theorem guardEntry_entry (e : DispEntry) (s : State) :
    (guardEntry e s).2.house = e.house ∧ (guardEntry e s).2.kind = e.kind ∧ (e.kind = .release → (guardEntry e s).2 = e) := by
  unfold guardEntry
  split
  · next h =>
    obtain ⟨hkind, -⟩ := h
    exact ⟨rfl, rfl, fun hr => absurd (hkind.symm.trans hr) (by decide)⟩
  · exact ⟨rfl, rfl, fun _ => rfl⟩

/-- A RELEASE entry is not guarded. -/
theorem guardEntry_release {e : DispEntry} (he : e.kind = .release) (s : State) : guardEntry e s = (s, e) :=
  if_neg fun h => absurd (h.1.symm.trans he) (by decide)

theorem carries_guardEntry {e : DispEntry} (he : ¬A e.house → e.released = e) (s : State) :
    Carries T A B s (guardEntry e s).1 := by
  by_cases hA : A e.house
  · unfold guardEntry
    split
    · have hagain : ∀ v, Carries T A B v (guardAgain e.house v) := fun v => carries_guardPass hA _ v
      dsimp only
      exact ((carries_guardPass hA e.orders s).trans (hagain _)).trans (hagain _)
    · exact .refl s
  · have hkind : e.kind = .release := by rw [← he hA]; rfl
    rw [guardEntry_release hkind]
    exact .refl s

/-- An entry without marks takes no pump's order. -/
theorem takeMarked_unmarked {e : DispEntry} (hstart : e.startMarks = .replicate 4 false)
    (hstop : e.stopMarks = .replicate 4 false) (s : State) : takeMarked e s = s := by
  have hslot : ∀ (v : State) (c : SlotId), takeSlot e v c = v := fun v c => by
    have hfalse : (Vector.replicate 4 false).get c = false := get_replicate ..
    simp [takeSlot, State.markedPump, hstart, hstop, hfalse]
  unfold takeMarked
  induction allSlots with
  | nil => rfl
  | cons c rest ih => rw [List.foldl_cons, hslot, ih]

theorem pumpAt_of_markedPump {h : HouseId} {m : Vector Bool 4} {r : RunState} {o : OrderState} {c : SlotId} {p : PumpId}
    (hp : s.markedPump h m r o c = some p) : s.pumpAt h c = some p := by
  unfold State.markedPump at hp
  split at hp
  · exact (Option.filter_eq_some_iff.mp hp).1
  · cases hp

theorem carries_takeMarked {e : DispEntry} (hA : A e.house) (s : State) : Carries T A B s (takeMarked e s) := by
  refine .foldl (fun v c hs => ?_) _ s
  unfold takeSlot
  split
  · next p hp => exact moves_modPump (hs.pumpAt hA (pumpAt_of_markedPump hp)) rfl
  · split
    · next p hp => exact moves_modPump (hs.pumpAt hA (pumpAt_of_markedPump hp)) rfl
    · exact .refl v

/-- The queue without its head, which the port begins to send. -/
def dequeue (e : DispEntry) (rest : List DispEntry) (s : State) : State :=
  modDispatcher (fun d => { d with queue := rest, inTx := some e }) s

/-- What a take does before the frame goes out. -/
def prepare (e : DispEntry) (rest : List DispEntry) (s : State) : State :=
  let g := guardEntry e (dequeue e rest s)
  derive .quiet false e.house (takeMarked g.2 (setLastSent e.house (some g.2.orders) g.1))

theorem takeDispatch_eq_prepare (e : DispEntry) (rest : List DispEntry) (s : State) :
    takeDispatch e rest s = beginSend .field (.dispatch (prepare e rest s).ownAddr (guardEntry e (dequeue e rest s)).2)
      (setInTx (some (guardEntry e (dequeue e rest s)).2) (prepare e rest s)) := rfl

theorem confined_dequeue {e : DispEntry} {rest : List DispEntry} (hs : Confined A B s)
    (hqueue : s.dispatcher.queue = e :: rest) : Confined A B (dequeue e rest s) where
  placed := hs.placed
  active := hs.active
  requests := hs.requests
  queue x hx := hs.queue x (by rw [hqueue]; exact List.mem_cons_of_mem _ hx)

/-- Before its frame goes out a take moves confined orders, with the head of the queue gone. -/
theorem moves_prepare {e : DispEntry} {rest : List DispEntry} (hs : Confined A B s)
    (hqueue : s.dispatcher.queue = e :: rest) : Moves False A B (dequeue e rest s) (prepare e rest s) := by
  have he : ¬A e.house → e.released = e := hs.queue e (by rw [hqueue]; exact List.mem_cons_self)
  have hc := confined_dequeue hs hqueue
  have hguard := carries_guardEntry (T := False) (B := B) he (dequeue e rest s) hc
  have hsent : Moves False A B (dequeue e rest s) (setLastSent e.house (some (guardEntry e (dequeue e rest s)).2.orders)
      (guardEntry e (dequeue e rest s)).1) :=
    ⟨hguard.apart, hguard.pump, hguard.house, hguard.marks, hguard.requests, hguard.refresh, hguard.queue,
      hguard.port, hguard.kept, hguard.orders⟩
  have htake : Moves False A B (dequeue e rest s) (takeMarked (guardEntry e (dequeue e rest s)).2
      (setLastSent e.house (some (guardEntry e (dequeue e rest s)).2.orders) (guardEntry e (dequeue e rest s)).1)) := by
    by_cases hA : A e.house
    · refine hsent.trans (carries_takeMarked ?_ _ (hsent.confined hc))
      rw [(guardEntry_entry e _).1]; exact hA
    · have hkind : e.kind = .release := by rw [← he hA]; rfl
      rw [takeMarked_unmarked (by rw [(guardEntry_entry e _).2.2 hkind, ← he hA]; rfl)
        (by rw [(guardEntry_entry e _).2.2 hkind, ← he hA]; rfl)]
      exact hsent
  exact htake.trans (carries_derive _ carries_quiet false e.house (htake.confined hc))

/-- A move of the queue without its head, and the head's entry sent, is a move in which the head was taken. -/
theorem Moves.sent {e g : DispEntry} {rest : List DispEntry} {f : TxFrame} (hidle : s.field.tx = none)
    (hqueue : s.dispatcher.queue = e :: rest) (hmoves : Moves False A B (dequeue e rest s) u)
    (hhouse : g.house = e.house) (hkind : g.kind = e.kind) (hother : ¬A e.house → g = e) :
    Moves True A B s (beginSend .field f (setInTx (some g) u)) where
  apart := hmoves.apart
  pump := hmoves.pump
  house := hmoves.house
  marks := hmoves.marks
  requests := hmoves.requests
  refresh := hmoves.refresh
  queue x hx hA := by rw [hqueue]; exact List.mem_cons_of_mem _ (hmoves.queue x hx hA)
  port h := absurd ⟨trivial, hidle⟩ h
  kept x hx hA := by
    rw [hqueue] at hx
    rcases List.mem_cons.mp hx with rfl | hx
    · exact .inr ⟨⟨trivial, hidle⟩, congrArg some (hother hA), Option.some_ne_none _⟩
    · exact .inl ((hmoves.kept x hx hA).resolve_right fun h => h.1.1)
  orders c hc := by
    obtain ⟨x, hx, hxc, hxkind⟩ := hc
    rw [hqueue] at hx
    rcases List.mem_cons.mp hx with rfl | hx
    · exact .inr ⟨⟨trivial, hidle⟩, ⟨g, rfl, hhouse.trans hxc, hkind.trans hxkind⟩, Option.some_ne_none _⟩
    · exact .inl ((hmoves.orders c ⟨x, hx, hxc, hxkind⟩).resolve_right fun h => h.1.1)

theorem carries_takeDispatch {e : DispEntry} {rest : List DispEntry} (hidle : s.field.tx = none)
    (hqueue : s.dispatcher.queue = e :: rest) : Carries True A B s (takeDispatch e rest s) := by
  intro hs
  obtain ⟨hhouse, hkind, hrelease⟩ := guardEntry_entry e (dequeue e rest s)
  rw [takeDispatch_eq_prepare]
  refine (moves_prepare hs hqueue).sent hidle hqueue hhouse hkind fun hA => hrelease ?_
  rw [← hs.queue e (by rw [hqueue]; exact List.mem_cons_self) hA]
  rfl

/-- A take of the field port moves confined orders, and may take the head of the queue where the port was idle. -/
theorem carries_fieldTake (s : State) : Carries True A B s (fieldTake s) := by
  have hrun : ∀ n, Moves True A B s (setFieldRun n s) := fun n =>
    ⟨rfl, fun _ _ => rfl, fun _ _ => rfl, fun _ h => h, fun _ h => h, rfl, fun _ h _ => h, fun _ => ⟨rfl, rfl⟩,
      fun _ h _ => .inl h, fun _ h => .inl h⟩
  have hforward : ∀ f fs, s.field.tx = none → Moves True A B s (takeForwarded f fs s) := fun f fs hidle =>
    ⟨rfl, fun _ _ => rfl, fun _ _ => rfl, fun _ h => h, fun _ h => h, rfl, fun _ h _ => h,
      fun h => absurd ⟨trivial, hidle⟩ h, fun _ h _ => .inl h, fun _ h => .inl h⟩
  have hdispatch : ∀ {e rest} n, s.field.tx = none → s.dispatcher.queue = e :: rest →
      Carries True A B s (takeDispatch e rest (setFieldRun n s)) := fun n hidle hqueue =>
    Carries.trans (fun _ => hrun n) (carries_takeDispatch hidle hqueue)
  unfold fieldTake
  split
  · exact .refl s
  · next hbusy =>
    have hidle : s.field.tx = none := by simpa using hbusy
    split
    · exact .refl s
    · next hqueue _ => exact hdispatch _ hidle hqueue
    · exact fun _ => hforward _ _ hidle
    · next hqueue _ =>
      split
      · exact hdispatch _ hidle hqueue
      · exact fun _ => hforward _ _ hidle

theorem carries_live : Ctx.live.Carries True A B := carries_fieldTake

end

end Sys2Proof.Machine

/-! ## Starting the engine: the adoptions, and the ORDERS entries (R20, R21, R23) -/

namespace Sys2Proof.Machine

section

variable {P : PumpId → Prop} {s t : State}

/-! ### Adoption at ENGINE START and at a change to AUTO (R21, R97) -/

/-- A pump record adopted (R48, R57, R59). -/
def State.adoptedPump (s : State) (p : PumpId) : Pump :=
  { s.pump p with
    commanded := true
    runStart := s.now
    minRunOpen := decide (0 < (s.pumpE p).minRun)
    service := if (s.pump p).service = .failed then .inService else (s.pump p).service }

theorem derivePump_starting (p : PumpId) (s : State) : derivePump .starting p s = s := by
  unfold derivePump
  cases hp : (s.pumpE p).house with
  | none => rw [atHouseOf_none _ hp]
  | some h => rw [atHouseOf_some _ hp]; rfl

theorem touches_adopt (p : PumpId) (s : State) : Touches noRecord (· = p) noRecord s (adopt .starting p s) := by
  rw [adopt_eq, derivePump_starting]
  have hcore : Touches noRecord (· = p) noRecord s (adoptCore p s) := .onPump p _ s
  split
  · exact (hcore.trans (.markPump p _)).trans (.clear _ _ _)
  · exact hcore

theorem pump_adopt (p : PumpId) (s : State) : (adopt .starting p s).pump p = s.adoptedPump p := by
  have hcore : (adoptCore p s).pump p = s.adoptedPump p := pump_modPump_same ..
  rw [adopt_eq, derivePump_starting]
  split <;> simp [hcore]

theorem adoptedPump_of_touches (h : Touches noRecord P noRecord s t) {p : PumpId} (hp : ¬P p) :
    t.adoptedPump p = s.adoptedPump p := by
  unfold State.adoptedPump
  rw [h.pump p hp, h.now, pumpE_eq_of_tables h.tables]

/-- From `s` to `t` the pumps of `P` have been adopted, with the marks and alarms that this brings. -/
structure Adopts (P : PumpId → Prop) (s t : State) : Prop where
  touches : Touches noRecord P noRecord s t
  pump : ∀ p, P p → t.pump p = s.adoptedPump p

theorem Adopts.trans {P₁ P₂ : PumpId → Prop} {u : State} (h₁ : Adopts P₁ s t) (h₂ : Adopts P₂ t u)
    (hdisjoint : ∀ p, P₁ p → ¬P₂ p) : Adopts (fun p => P₁ p ∨ P₂ p) s u where
  touches := (h₁.touches.mono (fun _ h => h) (fun _ h => .inl h) fun _ h => h).trans
    (h₂.touches.mono (fun _ h => h) (fun _ h => .inr h) fun _ h => h)
  pump p hp := by
    rcases hp with hp | hp
    · exact (h₂.touches.pump p (hdisjoint p hp)).trans (h₁.pump p hp)
    · exact (h₂.pump p hp).trans (adoptedPump_of_touches h₁.touches fun h => hdisjoint p h hp)

theorem Adopts.congr {P' : PumpId → Prop} (h : Adopts P s t) (hP : ∀ p, P p ↔ P' p) : Adopts P' s t := by
  obtain rfl : P = P' := funext fun p => propext (hP p)
  exact h

theorem adopts_fold {ps : List PumpId} (hn : ps.Nodup) (s : State) :
    Adopts (· ∈ ps) s (ps.foldl (fun t p => adopt .starting p t) s) := by
  induction ps generalizing s with
  | nil => exact ⟨.refl s, fun p hp => absurd hp List.not_mem_nil⟩
  | cons a rest ih =>
    obtain ⟨ha, hrest⟩ := List.nodup_cons.mp hn
    have hone : Adopts (· = a) s (adopt .starting a s) := ⟨touches_adopt a s, fun p hp => by rw [hp]; exact pump_adopt a s⟩
    refine (hone.trans (ih hrest _) fun p hp => ?_).congr fun p => List.mem_cons.symm
    rwa [hp]

theorem mem_adoptable {h : HouseId} {p : PumpId} : p ∈ s.adoptable h ↔ (s.pumpE p).house = some h
    ∧ ((s.pump p).run == .running && !(s.pump p).commanded && (s.pump p).panel == some .remote) = true := by
  rw [State.adoptable, List.mem_filter, mem_pumpsOf]

theorem adopts_adoptHouse (h : HouseId) (s : State) : Adopts (· ∈ s.adoptable h) s (adoptHouse .starting h s) :=
  adopts_fold ((nodup_pumpsOf s h).filter _) s

/-- The adoptions of one house leave the pumps that another adopts. -/
theorem mem_adoptable_adoptHouse {g h : HouseId} (hne : g ≠ h) (p : PumpId) :
    p ∈ (adoptHouse .starting h s).adoptable g ↔ p ∈ s.adoptable g := by
  have hadopts := (adopts_adoptHouse h s).touches
  rw [mem_adoptable, mem_adoptable, pumpE_eq_of_tables hadopts.tables]
  refine and_congr_right fun hp => ?_
  rw [hadopts.pump p fun hin => hne ?_]
  have hhouse := (mem_adoptable.mp hin).1
  rwa [hp, Option.some.injEq] at hhouse

theorem adopts_houses {hs : List HouseId} (hn : hs.Nodup) (s : State) :
    Adopts (fun p => ∃ h ∈ hs, p ∈ s.adoptable h) s (hs.foldl (fun t h => adoptHouse .starting h t) s) := by
  induction hs generalizing s with
  | nil => exact ⟨.refl s, fun p ⟨h, hh, _⟩ => absurd hh List.not_mem_nil⟩
  | cons a rest ih =>
    obtain ⟨ha, hrest⟩ := List.nodup_cons.mp hn
    have hstands : ∀ h ∈ rest, ∀ p, p ∈ (adoptHouse .starting a s).adoptable h ↔ p ∈ s.adoptable h := fun h hh p =>
      mem_adoptable_adoptHouse (ne_of_mem_of_not_mem hh ha) p
    refine ((adopts_adoptHouse a s).trans (ih hrest _) ?_).congr fun p => ?_
    · rintro p hp ⟨h, hh, hph⟩
      have hhouse := (mem_adoptable.mp hp).1
      rw [(mem_adoptable.mp ((hstands h hh p).mp hph)).1, Option.some.injEq] at hhouse
      exact ha (hhouse ▸ hh)
    · rw [List.exists_mem_cons_iff]
      exact or_congr_right (exists_congr fun h => and_congr_right fun hh => hstands h hh p)

/-- A state whose pumps alone have moved, apart from its orders. -/
theorem apartOrders_of_touches (h : Touches noRecord P noRecord s t) {v : Vector Pump 32}
    (hv : ∀ p, (t.pump p).apartOrder = (v.get p).apartOrder) : t.apartOrders = (setPumps v s).apartOrders := by
  have hpumps : t.pumps.map Pump.apartOrder = v.map Pump.apartOrder :=
    vector_eq_of_get fun p => by rw [getMap, getMap]; exact hv p
  have hres := h.reservoirs
  have hhouses := h.houses
  have hstations := h.stations
  have happart := h.apart
  have hkey : ∀ u : State, u.apartOrders = { u.apartRecords with
      arbiter := .fresh, dispatcher := .fresh, field := u.apartRecords.field.apartOut
      reservoirs := u.reservoirs, stations := u.stations, houses := u.houses.map House.apartStart
      pumps := u.pumps.map Pump.apartOrder } := fun _ => rfl
  rw [hkey t, hkey (setPumps v s), hpumps, hres, hhouses, hstations, happart]
  rfl

theorem Adopts.apartOrders (h : Adopts P s t) {f : PumpId → Bool} (hf : ∀ p, f p = true ↔ P p) :
    t.apartOrders = (setPumps (s.pumpsAdopted f) s).apartOrders := by
  refine apartOrders_of_touches h.touches fun p => ?_
  have hget : (s.pumpsAdopted f).get p = _ := pump_ofFn s _ p
  rw [hget]
  by_cases hp : f p = true
  · rw [h.pump p ((hf p).mp hp), if_pos hp]; rfl
  · rw [h.touches.pump p (mt (hf p).mpr hp), if_neg hp]

/-! ### Steps of ENGINE START (R20) -/

theorem mem_autoHouses {h : HouseId} : h ∈ s.autoHouses ↔ (s.houseE h).used = true ∧ (s.house h).mode = .auto := by
  simp [State.autoHouses, mem_allHouses]

theorem nodup_autoHouses (s : State) : s.autoHouses.Nodup := nodup_allHouses.filter _

/-- The forced placing of orders leaves an ORDERS entry of the house in the queue. -/
theorem ordered_placeOrders (h : HouseId) (s : State) : (placeOrders true h s).Ordered h := by
  unfold placeOrders
  split
  · next hsome =>
    obtain ⟨e, he⟩ := Option.isSome_iff_exists.mp hsome
    have hfind : s.dispatcher.queue.find? (fun x => decide (x.house = h)) = some e := he
    have hfound := List.find?_some hfind
    have hhouse : e.house = h := of_decide_eq_true hfound
    exact ⟨refreshEntry s e, List.mem_map.mpr ⟨e, List.mem_of_find?_eq_some hfind, if_pos hhouse⟩, hhouse, rfl⟩
  · simp only [Bool.true_or, if_true]
    exact ⟨newEntry s h, List.mem_append_right _ (List.mem_singleton_self _), rfl, rfl⟩

theorem confined_all (s : State) : Confined (fun _ => True) (fun _ => True) s :=
  ⟨fun _ _ _ _ => trivial, fun _ _ => trivial, fun _ _ => ⟨trivial, trivial⟩, fun _ _ h => absurd trivial h⟩

theorem ordered_placeEach {h : HouseId} {hs : List HouseId} (hh : h ∈ hs) (s : State) :
    (hs.foldl (fun t g => placeOrders true g t) s).Ordered h := by
  have hkeeps : ∀ (gs : List HouseId) (t : State), t.Ordered h →
      (gs.foldl (fun u g => placeOrders true g u) t).Ordered h := by
    intro gs
    induction gs with
    | nil => exact fun _ ht => ht
    | cons g rest ih =>
      intro t ht
      have hplaced : Moves False (fun _ => True) (fun _ => True) t (placeOrders true g t) := moves_placeOrders trivial true t
      exact ih _ ((hplaced.orders h ht).resolve_right fun hT => hT.1.1)
  induction hs generalizing s with
  | nil => exact absurd hh List.not_mem_nil
  | cons g rest ih =>
    rcases List.mem_cons.mp hh with rfl | hh
    · exact hkeeps rest _ (ordered_placeOrders h s)
    · exact ih hh _

theorem adopts_adoptAll (s : State) :
    Adopts (fun p => ∃ h ∈ s.autoHouses, p ∈ s.adoptable h) s (adoptAll s) := adopts_houses (nodup_autoHouses s) s

/-- A pump that ENGINE START adopts (R21). -/
def State.starts (s : State) (p : PumpId) : Bool :=
  (s.pump p).run == .running && !(s.pump p).commanded && (s.pump p).panel == some .remote
    && allHouses.any fun h => (s.pumpE p).house == some h && (s.houseE h).used && (s.house h).mode == .auto

theorem starts_iff (s : State) (p : PumpId) : s.starts p = true ↔ ∃ h ∈ s.autoHouses, p ∈ s.adoptable h := by
  simp only [mem_autoHouses, mem_adoptable, State.starts, Bool.and_eq_true, List.any_eq_true, beq_iff_eq]
  constructor
  · rintro ⟨hpump, h, -, ⟨hhouse, hused⟩, hmode⟩
    exact ⟨h, ⟨hused, hmode⟩, hhouse, hpump⟩
  · rintro ⟨h, ⟨hused, hmode⟩, hhouse, hpump⟩
    exact ⟨hpump, h, mem_allHouses h, ⟨hhouse, hused⟩, hmode⟩

theorem apartOrders_adoptAll (s : State) : (adoptAll s).apartOrders = (setPumps (s.pumpsAdopted s.starts) s).apartOrders :=
  (adopts_adoptAll s).apartOrders (starts_iff s)

/-- ENGINE START moves no more than orders and house records beside the engine and the pumps adopted (R20). -/
theorem apartHouses_startEngine (s : State) :
    (startEngine s).apartHouses = (setPumps (s.pumpsAdopted s.starts) (enterRun s)).apartHouses := by
  have hqueued : ∀ v, (queueAll v).apartOrders = v.apartOrders := fun v =>
    apartOrders_foldl v _ (fun t h => apartOrders_placeOrders t true h) _
  have hgrant : ∀ v, (fieldTake (grantPass v)).apartOrders = v.apartOrders := fun v => by
    rw [apartOrders_fieldTake, grantPass, apartOrders_consider _ keeps_quiet, apartOrders_shed _ keeps_quiet,
      apartOrders_recompute]
  have heval : ∀ v, (evaluateAll v).apartHouses = v.apartHouses := fun v =>
    apartHouses_evaluateEach v keeps_starting v.autoHouses
  rw [startEngine, apartHouses_of_apartOrders ((hgrant _).trans (hqueued _)), heval]
  exact apartHouses_of_apartOrders (apartOrders_adoptAll (enterRun s))

/-- ENGINE START leaves an ORDERS entry of each AUTO house, queued or taken by the idle port. -/
theorem ordered_startEngine {h : HouseId} (hused : (s.houseE h).used = true) (hmode : (s.house h).mode = .auto) :
    (startEngine s).Ordered h ∨ (startEngine s).Sending h := by
  have hframe : (evaluateAll (adoptAll (enterRun s))).apartHouses
      = (setPumps ((enterRun s).pumpsAdopted (enterRun s).starts) (enterRun s)).apartHouses :=
    (apartHouses_evaluateEach _ keeps_starting _).trans (apartHouses_of_apartOrders (apartOrders_adoptAll (enterRun s)))
  have hauto : h ∈ (evaluateAll (adoptAll (enterRun s))).autoHouses := mem_autoHouses.mpr
    ⟨by rw [houseE_eq_of_tables (tables_of_apartHouses hframe)]; exact hused,
      by rw [house_mode_of_apartHouses hframe]; exact hmode⟩
  have hqueued : (queueAll (evaluateAll (adoptAll (enterRun s)))).Ordered h := ordered_placeEach hauto _
  have hmoves : ∀ v, Moves True (fun _ => True) (fun _ => True) v (fieldTake (grantPass v)) := fun v =>
    (((Carries.trans (fun _ => moves_recompute v) (carries_shed _ carries_quiet)).trans
      (carries_consider _ carries_quiet)).trans (carries_fieldTake _)) (confined_all v)
  exact ((hmoves _).orders h hqueued).imp_right fun hsent => hsent.2.1

/-! ### ENGINE_START and AUTOMATIC_START -/

theorem cancelAuto_eq (s : State) :
    cancelAuto s = { s with autoStart := if s.autoStart = .pending then .cancelled else s.autoStart } := by
  unfold cancelAuto
  split <;> rfl

theorem exec_engineStart (hs : s.serves) : exec .engineStart s = .next (answer 0x44 (askStart s)) :=
  congrArg Host.Outcome.next (asked_of_serves hs _ _)

theorem askStart_run (he : s.engine = .run) : askStart s = refuse .wrongState s := by
  rw [askStart, if_pos (by rw [he]; decide)]

theorem checkFailure_cancelAuto (s : State) : (cancelAuto s).checkFailure = s.tables.firstFailure s.ownAddr.toNat := by
  rw [cancelAuto_eq]; rfl

theorem askStart_refused {f : TableRef} (he : s.engine = .standby)
    (hf : s.tables.firstFailure s.ownAddr.toNat = some f) :
    askStart s = refuseAt f.table f.index { cancelAuto s with lastRefusal := some f } := by
  rw [askStart, if_neg (by rw [he]; decide)]
  dsimp only
  rw [checkFailure_cancelAuto, hf]

theorem askStart_taken (he : s.engine = .standby) (hf : s.tables.firstFailure s.ownAddr.toNat = none) :
    askStart s = done (startEngine (cancelAuto s)) := by
  rw [askStart, if_neg (by rw [he]; decide)]
  dsimp only
  rw [checkFailure_cancelAuto, hf]

/-- Settles O44: the adoptions by `adopts_adoptAll`, and the ORDERS entries placed in step 5 by `ordered_startEngine`. -/
theorem engineStart : Obligations.EngineStart := by
  intro s hs auto adopted
  rw [exec_engineStart hs]
  refine ⟨fun he => ?_, fun f he hf => ?_, fun he hf => ?_⟩
  · rw [askStart_run he, answer_refuse]
  · rw [askStart_refused he hf, answer_refuseAt, cancelAuto_eq]
  · rw [askStart_taken he hf, answer_done]
    refine ⟨startEngine (cancelAuto s), rfl, fun h hused hmode => ?_, ?_⟩
    · exact ordered_startEngine (by rw [cancelAuto_eq]; exact hused) (by rw [cancelAuto_eq]; exact hmode)
    · have hadopted : (cancelAuto s).pumpsAdopted (cancelAuto s).starts = s.pumpsAdopted adopted := by
        rw [cancelAuto_eq]; rfl
      rw [apartHouses_startEngine, hadopted, cancelAuto_eq]
      rfl

theorem autoDue_iff : s.autoDue = true ↔
    s.autoStart = .pending ∧ s.engine = .standby ∧ s.site.settle ≤ (s.now - s.settleMark).toNat := by
  simp only [State.autoDue, Bool.and_eq_true, beq_iff_eq, and_assoc]
  exact and_congr_right fun _ => and_congr_right fun _ => decide_eq_true_iff

/-- Settles O45: the branches of `autoRun`, with the frame of ENGINE START. -/
theorem automaticStart : Obligations.AutomaticStart := by
  intro s due
  have hexec : exec .automaticStart s = .next (if s.autoDue then autoRun s else s) := rfl
  have hdue : s.autoDue = true ↔ due := autoDue_iff
  refine ⟨fun h => ?_, fun h hauto => ?_, fun h hauto f hf => ?_, fun h hauto hf => ?_⟩
  · rw [hexec, if_neg (mt hdue.mp h)]
  · rw [hexec, if_pos (hdue.mpr h), autoRun, if_pos hauto]
  · rw [hexec, if_pos (hdue.mpr h), autoRun, if_neg hauto, State.checkFailure, hf]
  · rw [hexec, if_pos (hdue.mpr h), autoRun, if_neg hauto, State.checkFailure, hf]
    have hframe := apartHouses_startEngine { s with autoStart := .done }
    generalize State.pumpsAdopted _ _ = v at hframe
    exact ⟨_, rfl, engine_of_apartHouses hframe, autoStart_of_apartHouses hframe, lastRefusal_of_apartHouses hframe,
      (tables_of_apartHouses hframe).trans rfl, (now_of_apartHouses hframe).trans rfl,
      (period_of_apartHouses hframe).trans rfl, (reservoirs_of_apartHouses hframe).trans rfl⟩

end

end Sys2Proof.Machine

/-! ## The queue released, and a take that no house answers (R22, R143, R146) -/

namespace Sys2Proof.Machine

section

variable {s : State}

/-! ### The queue turned into RELEASE entries (R143) -/

/-- A new RELEASE entry of a house (R134). -/
def State.releaseEntry (s : State) (h : HouseId) : DispEntry :=
  ⟨h, (s.houseE h).station, .release, .replicate 4 .localControl, 0, .replicate 4 false, .replicate 4 false, s.now⟩

/-- The queue as ENGINE STOP leaves it: every entry released, and an entry for each AUTO house that had none. -/
def State.releasedQueue (s : State) : List DispEntry :=
  s.dispatcher.queue.map DispEntry.released
    ++ (s.autoHouses.filter fun h => !s.dispatcher.queue.any fun e => e.house == h).map s.releaseEntry

/-- The dispatch queue replaced. -/
def setQueue (q : List DispEntry) (s : State) : State := modDispatcher (fun d => { d with queue := q }) s

theorem queuedEntry_isSome (s : State) (h : HouseId) :
    (s.queuedEntry h).isSome = s.dispatcher.queue.any fun e => e.house == h := by
  rw [Bool.eq_iff_iff, State.queuedEntry, List.find?_isSome, List.any_eq_true]
  simp

theorem any_released (q : List DispEntry) (h : HouseId) :
    (q.map DispEntry.released).any (fun e => e.house == h) = q.any fun e => e.house == h := by
  rw [List.any_map]; rfl

/-- RELEASE entries joined for the houses of a list that have none. -/
theorem foldl_releaseHouse {hs : List HouseId} (hn : hs.Nodup) (q : List DispEntry) (s : State) :
    hs.foldl (fun u h => if (u.queuedEntry h).isSome then u else releaseHouse h u) (setQueue q s)
      = setQueue (q ++ (hs.filter fun h => !q.any fun e => e.house == h).map s.releaseEntry) s := by
  induction hs generalizing q with
  | nil => simp
  | cons a rest ih =>
    obtain ⟨ha, hrest⟩ := List.nodup_cons.mp hn
    have hentry : ((setQueue q s).queuedEntry a).isSome = q.any fun e => e.house == a := queuedEntry_isSome _ a
    rw [List.foldl_cons, List.filter_cons]
    cases hq : q.any fun e => e.house == a with
    | true => rw [hq] at hentry; rw [if_pos hentry, ih hrest]; rfl
    | false =>
      rw [hq] at hentry
      have hnew : releaseHouse a (setQueue q s) = setQueue (q ++ [s.releaseEntry a]) s := by
        rw [releaseHouse, if_neg (by rw [hentry]; decide)]; rfl
      have hothers : (rest.filter fun h => !(q ++ [s.releaseEntry a]).any fun e => e.house == h)
          = rest.filter fun h => !q.any fun e => e.house == h := by
        refine List.filter_congr fun h hh => ?_
        have hne : (a == h) = false := beq_false_of_ne fun e => ha (e ▸ hh)
        rw [List.any_append]
        simp [State.releaseEntry, hne]
      rw [if_neg (by rw [hentry]; decide), hnew, ih hrest, hothers]
      simp

theorem releaseAll_eq (s : State) : releaseAll s = setQueue s.releasedQueue s := by
  have hfold := foldl_releaseHouse (nodup_autoHouses s) (s.dispatcher.queue.map DispEntry.released) s
  have hnone : (s.autoHouses.filter fun h => !(s.dispatcher.queue.map DispEntry.released).any fun e => e.house == h)
      = s.autoHouses.filter fun h => !s.dispatcher.queue.any fun e => e.house == h :=
    List.filter_congr fun h _ => by rw [any_released]
  rw [hnone] at hfold
  exact hfold

theorem released_of_mem {e : DispEntry} (he : e ∈ s.releasedQueue) : e.released = e := by
  rcases List.mem_append.mp he with he | he
  · obtain ⟨x, -, rfl⟩ := List.mem_map.mp he; rfl
  · obtain ⟨h, -, rfl⟩ := List.mem_map.mp he; rfl

/-- Every AUTO house has an entry in the queue as ENGINE STOP leaves it. -/
theorem exists_mem_releasedQueue {h : HouseId} (hh : h ∈ s.autoHouses) : ∃ e ∈ s.releasedQueue, e.house = h := by
  cases hq : s.dispatcher.queue.any fun e => e.house == h with
  | true =>
    obtain ⟨e, he, heh⟩ := List.any_eq_true.mp hq
    exact ⟨e.released, List.mem_append_left _ (List.mem_map_of_mem he), beq_iff_eq.mp heh⟩
  | false =>
    refine ⟨s.releaseEntry h, List.mem_append_right _ (List.mem_map_of_mem (List.mem_filter.mpr ⟨hh, ?_⟩)), rfl⟩
    rw [hq]; rfl

/-! ### A take outside RUN that no pump answers (R139) -/

/-- The state after a take of an entry that goes out as `g` and moves no pump. -/
def afterTake (e g : DispEntry) (rest : List DispEntry) (n : Nat) (s : State) : State :=
  { s with
    dispatcher := { s.dispatcher with
      queue := rest, inTx := some g, lastSent := s.dispatcher.lastSent.set e.house (some g.orders) }
    field := { s.field with tx := some (.dispatch s.ownAddr g), runCount := n } }

/-- An entry that the suction guard and the take of marks leave with every pump as it stands. -/
def Still (e : DispEntry) (s : State) : Prop :=
  ∀ t : State, t.pumps = s.pumps → (guardEntry e t).1 = t
    ∧ ∀ u : State, u.pumps = s.pumps → takeMarked (guardEntry e t).2 u = u

theorem takeDispatch_still {e : DispEntry} (he : s.engine ≠ .run) (hstill : Still e s) (rest : List DispEntry) (n : Nat) :
    takeDispatch e rest (setFieldRun n s)
      = afterTake e (guardEntry e (dequeue e rest (setFieldRun n s))).2 rest n s := by
  obtain ⟨hguard, hmarked⟩ := hstill (dequeue e rest (setFieldRun n s)) rfl
  rw [takeDispatch_eq_prepare]
  generalize hg : guardEntry e (dequeue e rest (setFieldRun n s)) = g at hguard hmarked ⊢
  have hsent := hmarked (setLastSent e.house (some g.2.orders) (dequeue e rest (setFieldRun n s))) rfl
  have hprepare : prepare e rest (setFieldRun n s)
      = setLastSent e.house (some g.2.orders) (dequeue e rest (setFieldRun n s)) := by
    have hactive : (setLastSent e.house (some g.2.orders) (dequeue e rest (setFieldRun n s))).active e.house = false :=
      active_of_not_run he _
    unfold prepare
    dsimp only
    rw [hg, hguard, hsent, derive_of_not_active hactive]
  rw [hprepare]
  simp only [beginSend, modPort, setInTx, setLastSent, dequeue, modDispatcher, setFieldRun, afterTake]

/-- What a take of the field port can do outside RUN, where no queued entry moves a pump: nothing, a forwarded frame, or
the head of the queue. -/
theorem fieldTake_still (he : s.engine ≠ .run) (hstill : ∀ e ∈ s.dispatcher.queue, Still e s) :
    (∃ f, fieldTake s = { s with field := f } ∧ (s.field.tx ≠ none ∨ s.dispatcher.queue = [] ∨ s.field.fwd ≠ []))
    ∨ ∃ e rest n, s.field.tx = none ∧ s.dispatcher.queue = e :: rest
      ∧ fieldTake s = afterTake e (guardEntry e (dequeue e rest (setFieldRun n s))).2 rest n s := by
  have hhead : ∀ {e rest} n, s.dispatcher.queue = e :: rest → takeDispatch e rest (setFieldRun n s)
      = afterTake e (guardEntry e (dequeue e rest (setFieldRun n s))).2 rest n s := fun n hqueue =>
    takeDispatch_still he (hstill _ (by rw [hqueue]; exact List.mem_cons_self)) _ n
  unfold fieldTake
  split
  · next hbusy => exact .inl ⟨_, rfl, .inl fun h => by rw [h] at hbusy; cases hbusy⟩
  · next hbusy =>
    have hidle : s.field.tx = none := by simpa using hbusy
    split
    · next hqueue _ => exact .inl ⟨_, rfl, .inr (.inl hqueue)⟩
    · next hqueue _ => exact .inr ⟨_, _, _, hidle, hqueue, hhead 0 hqueue⟩
    · next hqueue _ => exact .inl ⟨_, rfl, .inr (.inl hqueue)⟩
    · next hqueue hfwd =>
      split
      · exact .inr ⟨_, _, _, hidle, hqueue, hhead _ hqueue⟩
      · exact .inl ⟨_, rfl, .inr (.inr (by rw [hfwd]; exact List.cons_ne_nil _ _))⟩

theorem still_of_released {e : DispEntry} (he : e.released = e) (s : State) : Still e s := by
  intro t _
  have hkind : e.kind = .release := by rw [← he]; rfl
  rw [guardEntry_release hkind]
  exact ⟨rfl, fun u _ => takeMarked_unmarked (by rw [← he]; rfl) (by rw [← he]; rfl) u⟩

end

end Sys2Proof.Machine

/-! ## ENGINE STOP (R22) -/

namespace Sys2Proof.Machine

section

variable {R : ResId → Prop} {P : PumpId → Prop} {H : HouseId → Prop} {s : State}

/-! ### The release of pumps and of house records (R22, R50, R53, R96) -/

/-- A pump record as a release leaves it: a start not yet taken undone, a stop not yet taken or expired run on, and a
running pump no longer commanded. -/
def State.releasedPump (s : State) (p : PumpId) : Pump :=
  let q := s.pump p
  if q.run = .startOrdered ∧ q.order = .queued then
    { q with
      run := .stopped, commanded := false, order := .none, orderTx := none, confirmMark := none, admission := none
      runSeconds := s.runSecondsNow p, accrualMark := s.now }
  else if q.run = .stopOrdered ∧ (q.order = .queued ∨ q.stopExpired = true) then
    { q with
      run := .running, commanded := false, order := .none, orderTx := none, confirmMark := none, stopExpired := false
      runSeconds := s.runSecondsNow p, accrualMark := s.now }
  else if q.run = .running then { q with commanded := false }
  else q

section

variable {p : PumpId}

theorem releasePump_undone (hrun : (s.pump p).run = .startOrdered) (horder : (s.pump p).order = .queued) :
    releasePump p s = markPump p (undoCore p s) := by
  simp [releasePump, hrun, horder]

theorem releasePump_runsOn (hrun : (s.pump p).run = .stopOrdered)
    (h : (s.pump p).order = .queued ∨ (s.pump p).stopExpired = true) : releasePump p s = markPump p (runOnCore p s)
      ∨ releasePump p s = clear .stopFail p.val (markPump p (runOnCore p s)) := by
  by_cases hexpired : (s.pump p).stopExpired = true
  · exact .inr (by simp [releasePump, hrun, hexpired, clearStopFail, onlyIf])
  · exact .inl (by simp [releasePump, hrun, hexpired, h.resolve_right hexpired])

theorem releasePump_running (hrun : (s.pump p).run = .running) :
    releasePump p s = modPump p (fun x => { x with commanded := false }) s := by
  simp [releasePump, hrun]

theorem releasePump_other (hstart : ¬((s.pump p).run = .startOrdered ∧ (s.pump p).order = .queued))
    (hstop : ¬((s.pump p).run = .stopOrdered ∧ ((s.pump p).order = .queued ∨ (s.pump p).stopExpired = true)))
    (hrun : (s.pump p).run ≠ .running) : releasePump p s = s := by
  unfold releasePump
  cases h : (s.pump p).run <;> simp_all

theorem pump_runOnCore (p : PumpId) (s : State) : (runOnCore p s).pump p = { s.pump p with
    run := .running, commanded := false, order := .none, orderTx := none, confirmMark := none, stopExpired := false
    runSeconds := s.runSecondsNow p, accrualMark := s.now } := by
  unfold runOnCore
  rw [pump_modPump_same, accrue, pump_modPump_same]

theorem pump_undoCore (p : PumpId) (s : State) : (undoCore p s).pump p = { s.pump p with
    run := .stopped, commanded := false, order := .none, orderTx := none, confirmMark := none, admission := none
    runSeconds := s.runSecondsNow p, accrualMark := s.now } := by
  have h : (undoCore p s).pump p = (modPump p _ (accrue p s)).pump p :=
    congrArg (fun v : Vector Pump 32 => v.get p) (pumps_endFlight p _)
  rw [h, pump_modPump_same, accrue, pump_modPump_same]

theorem pump_releasePump (p : PumpId) (s : State) : (releasePump p s).pump p = s.releasedPump p := by
  unfold State.releasedPump
  dsimp only
  split
  · next h =>
    rw [releasePump_undone h.1 h.2, pump_markPump, pump_undoCore]
  · next hstart =>
    split
    · next h =>
      rcases releasePump_runsOn h.1 h.2 with e | e <;> rw [e]
      · rw [pump_markPump, pump_runOnCore]
      · rw [pump_clear, pump_markPump, pump_runOnCore]
    · next hstop =>
      split
      · next h => rw [releasePump_running h, pump_modPump_same]
      · next h => rw [releasePump_other hstart hstop h]

theorem touches_endFlight (p : PumpId) (s : State) :
    Touches R P (fun h => (s.pumpE p).house = some h) s (endFlight p s) := by
  unfold endFlight
  cases hp : (s.pumpE p).house with
  | none => rw [atHouseOf_none _ hp]; exact .refl s
  | some h => rw [atHouseOf_some _ hp]; exact .modHouse (H := fun g => some h = some g) _ rfl s

theorem touches_runOnCore (p : PumpId) (s : State) : Touches R (· = p) H s (runOnCore p s) :=
  (Touches.onPump p _ s).trans (.onPump p _ _)

theorem touches_releasePump (p : PumpId) (s : State) :
    Touches R (· = p) (fun h => (s.pumpE p).house = some h) s (releasePump p s) := by
  by_cases hstart : (s.pump p).run = .startOrdered ∧ (s.pump p).order = .queued
  · rw [releasePump_undone hstart.1 hstart.2]
    exact (((Touches.onPump p _ s).trans (.onPump p _ _)).trans (touches_endFlight p _)).trans (.markPump p _)
  by_cases hstop : (s.pump p).run = .stopOrdered ∧ ((s.pump p).order = .queued ∨ (s.pump p).stopExpired = true)
  · have hruns := (touches_runOnCore (R := R) (H := fun h => (s.pumpE p).house = some h) p s).trans (.markPump p _)
    rcases releasePump_runsOn hstop.1 hstop.2 with e | e <;> rw [e]
    · exact hruns
    · exact hruns.trans (.clear _ _ _)
  by_cases hrun : (s.pump p).run = .running
  · rw [releasePump_running hrun]; exact .onPump p _ s
  · rw [releasePump_other hstart hstop hrun]; exact .refl s

end

theorem tables_of_apartRecords {t : State} (h : t.apartRecords = s.apartRecords) : t.tables = s.tables := by
  have e := congrArg (fun v : State => v.tables) h; exact e

theorem releasedPump_of_touches {t : State} (h : Touches R P H s t) {p : PumpId} (hp : ¬P p) :
    t.releasedPump p = s.releasedPump p := by
  unfold State.releasedPump State.runSecondsNow State.since
  rw [h.pump p hp, h.now]

theorem touches_releaseEach (ps : List PumpId) (s : State) :
    Touches R (· ∈ ps) (fun h => ∃ p ∈ ps, (s.pumpE p).house = some h) s (ps.foldl (fun t p => releasePump p t) s) := by
  refine Touches.foldl fun v p hp hv => (touches_releasePump p v).mono (fun _ h => h) (fun q hq => ?_) fun h hh => ?_
  · exact hq.symm ▸ hp
  · exact ⟨p, hp, by rwa [pumpE_eq_of_tables (tables_of_apartRecords hv)] at hh⟩

/-- Each pump of a release has the record that its own gives. -/
theorem pump_releaseEach {ps : List PumpId} (hn : ps.Nodup) {p : PumpId} (hp : p ∈ ps) (s : State) :
    (ps.foldl (fun t p => releasePump p t) s).pump p = s.releasedPump p := by
  obtain ⟨before, after, hb, ha, hfold⟩ := foldl_split hn hp (fun t p => releasePump p t) s
  rw [hfold, (touches_releaseEach (R := noRecord) after _).pump p ha, pump_releasePump]
  exact releasedPump_of_touches (touches_releaseEach (R := noRecord) before s) hb

theorem apartOrders_releaseEach (ps : List PumpId) (s : State) :
    (ps.foldl (fun t p => releasePump p t) s).apartOrders = s.apartOrders :=
  apartOrders_foldl s _ (fun t p => apartOrders_releasePump t p) ps

theorem apartAlarms_clearHouseAlarms (h : HouseId) (s : State) : (clearHouseAlarms h s).apartAlarms = s.apartAlarms := by
  unfold clearHouseAlarms
  dsimp only
  rw [apartAlarms_onlyIf _ _ _ fun t => apartAlarms_clear t _ _, apartAlarms_onlyIf _ _ _ fun t => apartAlarms_clear t _ _,
    apartAlarms_onlyIf _ _ _ fun t => apartAlarms_clear t _ _]

theorem touches_releaseRecord (h : HouseId) (s : State) : Touches R P (· = h) s (releaseRecord h s) := by
  rw [releaseRecord, houseBegins]
  exact (Touches.of_apartAlarms (apartAlarms_clearHouseAlarms h s)).trans (.modHouse (H := (· = h)) _ rfl _)

theorem house_releaseRecord (h : HouseId) (s : State) :
    (releaseRecord h s).house h = .fresh (s.house h).mode (s.house h).lastStartTx := by
  rw [releaseRecord, houseBegins, house_modHouse_same, house_of_apartAlarms (apartAlarms_clearHouseAlarms h s)]

theorem touches_releaseRecords (hs : List HouseId) (s : State) :
    Touches R P (· ∈ hs) s (hs.foldl (fun t h => releaseRecord h t) s) :=
  Touches.foldl fun v h hh _ => (touches_releaseRecord h v).mono (fun _ e => e) (fun _ e => e) fun _ e => e.symm ▸ hh

theorem house_releaseRecords {hs : List HouseId} (hn : hs.Nodup) {h : HouseId} (hh : h ∈ hs) (s : State) :
    (hs.foldl (fun t h => releaseRecord h t) s).house h = .fresh (s.house h).mode (s.house h).lastStartTx := by
  obtain ⟨before, after, hb, ha, hfold⟩ := foldl_split hn hh (fun t h => releaseRecord h t) s
  rw [hfold, (touches_releaseRecords (R := noRecord) (P := noRecord) after _).house h ha, house_releaseRecord,
    (touches_releaseRecords (R := noRecord) (P := noRecord) before s).house h hb]

/-! ### Load changes and takes outside RUN -/

/-- Outside RUN the load changes of a release move the arbiter's window and the alarms alone. -/
theorem handRelease_standby (he : s.engine ≠ .run) (before : State) : ∃ w o b c d, handRelease before s = { s with
    arbiter := { s.arbiter with window := w, overBudget := o }, alarms := b, responses := c, sup := d } := by
  have hload : ∃ w o b c d, loadChanged .live before.siteLoad s = { s with
      arbiter := { s.arbiter with window := w, overBudget := o }, alarms := b, responses := c, sup := d } := by
    rcases loadChanged_of_not_run he .live before.siteLoad with h | h
    · exact ⟨_, _, _, _, _, h⟩
    · obtain ⟨o, b, c, d, hw⟩ := recompute_window s
      exact ⟨_, o, b, c, d, h.trans hw⟩
  obtain ⟨w, o, b, c, d, h⟩ := hload
  refine ⟨w, o, b, c, d, Eq.trans ?_ h⟩
  have hengine : (loadChanged .live before.siteLoad s).engine ≠ .run := by rw [h]; exact he
  unfold handRelease onlyIf
  split
  · exact shed_of_not_run hengine .live
  · rfl

/-- Outside RUN a take with RELEASE entries alone queued moves the dispatcher and the field port: it takes no entry, or
the head at an idle port. -/
theorem fieldTake_released (he : s.engine ≠ .run) (hq : ∀ e ∈ s.dispatcher.queue, e.released = e) :
    ∃ d f, fieldTake s = { s with dispatcher := d, field := f } ∧ d.refresh = s.dispatcher.refresh
      ∧ (∀ e ∈ d.queue, e ∈ s.dispatcher.queue)
      ∧ ∀ e ∈ s.dispatcher.queue, e ∈ d.queue ∨ s.field.tx = none ∧ d.inTx = some e := by
  rcases fieldTake_still he fun e hmem => still_of_released (hq e hmem) s with ⟨f, h, -⟩ | ⟨e, rest, n, hidle, hqueue, h⟩
  · exact ⟨s.dispatcher, f, h, rfl, fun _ hx => hx, fun _ hx => .inl hx⟩
  · have hkind : e.kind = .release := by rw [← hq e (by rw [hqueue]; exact List.mem_cons_self)]; rfl
    rw [guardEntry_release hkind] at h
    refine ⟨_, _, h, rfl, fun x hx => by rw [hqueue]; exact List.mem_cons_of_mem _ hx, fun x hx => ?_⟩
    rw [hqueue] at hx
    exact (List.mem_cons.mp hx).symm.imp_right fun hxe => ⟨hidle, by rw [hxe]⟩

/-! ### ENGINE_STOP -/

/-- The engine in STANDBY with no request, no refresh and the queue released. -/
def withdrawn (s : State) : State :=
  { s with
    engine := .standby
    arbiter := { s.arbiter with requests := [], shedWait := none }
    dispatcher := { s.dispatcher with queue := s.releasedQueue, refresh := .replicate 12 none } }

/-- The pumps and then the houses of a withdrawn state released. -/
def releasedAll (s : State) : State :=
  allHouses.foldl (fun t h => releaseRecord h t) (allPumps.foldl (fun t p => releasePump p t) (withdrawn s))

theorem stopEngine_eq (s : State) : stopEngine s = fieldTake (handRelease s (releasedAll s)) := by
  unfold stopEngine releasedAll
  rw [releaseAll_eq]
  rfl

theorem touches_releasedAll (s : State) : Touches noRecord (fun _ => True) (fun _ => True) (withdrawn s) (releasedAll s) :=
  ((touches_releaseEach allPumps (withdrawn s)).mono (fun _ h => h) (fun _ _ => trivial) fun _ _ => trivial).trans
    ((touches_releaseRecords allHouses _).mono (fun _ h => h) (fun _ h => h) fun _ _ => trivial)

theorem pump_releasedAll (s : State) (p : PumpId) : (releasedAll s).pump p = s.releasedPump p := by
  have h := (touches_releaseRecords (R := noRecord) (P := noRecord) allHouses
    (allPumps.foldl (fun t p => releasePump p t) (withdrawn s))).pump p id
  exact h.trans (pump_releaseEach nodup_allPumps (mem_allPumps p) (withdrawn s))

theorem house_releasedAll (s : State) (h : HouseId) :
    (releasedAll s).house h = .fresh (s.house h).mode (s.house h).lastStartTx := by
  have happart := apartOrders_releaseEach allPumps (withdrawn s)
  rw [releasedAll, house_releaseRecords nodup_allHouses (mem_allHouses h), house_mode_of_apartOrders happart,
    house_lastStartTx_of_apartOrders happart]
  rfl

theorem engine_releasedAll (s : State) : (releasedAll s).engine = .standby := (touches_releasedAll s).engine

/-- ENGINE STOP leaves the released state with the window, the alarms and the output moved, and the head of the queue
taken where the field port was idle. -/
theorem stopEngine_released (s : State) : ∃ w o b c m d f, stopEngine s = { releasedAll s with
      arbiter := { s.arbiter with requests := [], shedWait := none, window := w, overBudget := o }
      alarms := b, responses := c, sup := m, dispatcher := d, field := f }
    ∧ d.refresh = .replicate 12 none ∧ (∀ e ∈ d.queue, e ∈ s.releasedQueue)
    ∧ ∀ e ∈ s.releasedQueue, e ∈ d.queue ∨ s.field.tx = none ∧ d.inTx = some e := by
  have htouches := touches_releasedAll s
  have harbiter : (releasedAll s).arbiter = { s.arbiter with requests := [], shedWait := none } := htouches.arbiter
  have hdispatcher : (releasedAll s).dispatcher
      = { s.dispatcher with queue := s.releasedQueue, refresh := .replicate 12 none } := htouches.dispatcher
  have hfield : (releasedAll s).field = s.field := htouches.field
  have he : (releasedAll s).engine ≠ .run := by rw [engine_releasedAll]; decide
  rw [stopEngine_eq]
  generalize releasedAll s = v at harbiter hdispatcher hfield he ⊢
  obtain ⟨w, o, b, c, m, hload⟩ := handRelease_standby he s
  have hqueue : v.dispatcher.queue = s.releasedQueue := by rw [hdispatcher]
  have hrefresh : v.dispatcher.refresh = .replicate 12 none := by rw [hdispatcher]
  rw [hload, harbiter]
  obtain ⟨d, f, htake, hrefreshes, hin, hout⟩ := fieldTake_released
    (s := { v with
      arbiter := { s.arbiter with requests := [], shedWait := none, window := w, overBudget := o }
      alarms := b, responses := c, sup := m }) he fun e hmem => released_of_mem (s := s) (by rwa [← hqueue])
  refine ⟨w, o, b, c, m, d, f, htake, hrefreshes.trans hrefresh, fun e hmem => ?_, fun e hmem => ?_⟩
  · rw [← hqueue]; exact hin e hmem
  · rw [← hqueue] at hmem; rw [← hfield]; exact hout e hmem

/-- The cases of a released pump record. -/
theorem releasedPump_cases (s : State) (p : PumpId) :
    let q := s.pump p
    (q.run = .startOrdered → q.order = .queued → s.releasedPump p = { q with
      run := .stopped, commanded := false, order := .none, orderTx := none, confirmMark := none, admission := none
      accrualMark := s.now })
    ∧ (q.run = .stopOrdered → (q.order = .queued ∨ q.stopExpired = true) → s.releasedPump p = { q with
      run := .running, commanded := false, order := .none, orderTx := none, confirmMark := none, stopExpired := false
      runSeconds := s.runSecondsNow p, accrualMark := s.now })
    ∧ (q.run = .running → s.releasedPump p = { q with commanded := false })
    ∧ ((q.run = .startOrdered ∧ q.order ≠ .queued) ∨ (q.run = .stopOrdered ∧ q.order ≠ .queued ∧ q.stopExpired = false)
        ∨ q.run = .stopped ∨ q.run = .unknown ∨ q.run = .unused → s.releasedPump p = q) := by
  intro q
  refine ⟨fun hrun horder => ?_, fun hrun h => ?_, fun hrun => ?_, fun h => ?_⟩
  · have hseconds : s.runSecondsNow p = q.runSeconds := by simp [State.runSecondsNow, q, hrun]
    have hreleased : s.releasedPump p = { q with
        run := .stopped, commanded := false, order := .none, orderTx := none, confirmMark := none, admission := none
        runSeconds := s.runSecondsNow p, accrualMark := s.now } := if_pos ⟨hrun, horder⟩
    rw [hreleased, hseconds]
  · unfold State.releasedPump
    simp only [show s.pump p = q from rfl, hrun, h, and_true, if_true, reduceCtorEq, false_and, if_false]
  · unfold State.releasedPump
    simp [show s.pump p = q from rfl, hrun]
  · unfold State.releasedPump
    rcases h with ⟨hrun, horder⟩ | ⟨hrun, horder, hexpired⟩ | hrun | hrun | hrun <;>
      simp_all [show s.pump p = q from rfl]

/-- Settles O46: in RUN by `stopEngine_released`, with the pumps and house records of `releasedAll`. -/
theorem engineStop : Obligations.EngineStop := by
  intro s hs
  have hexec : exec .engineStop s = .next (answer 0x45 (askStop s)) := congrArg Host.Outcome.next (asked_of_serves hs _ _)
  rw [hexec]
  refine ⟨fun he => ?_, fun he => ?_⟩
  · rw [askStop, if_neg (by rw [he]; decide), answer_done, cancelAuto_eq]
  · rw [askStop, if_pos he, answer_done]
    obtain ⟨w, o, b, c, m, d, f, hstop, hrefresh, hin, hout⟩ := stopEngine_released s
    have htouches := touches_releasedAll s
    have hpump := pump_releasedAll s
    have hhouse := house_releasedAll s
    have he := engine_releasedAll s
    have htables : (releasedAll s).tables = s.tables := htouches.tables
    have hperiod : (releasedAll s).period = s.period := htouches.period
    have hreservoirs : (releasedAll s).reservoirs = s.reservoirs := htouches.reservoirs
    generalize releasedAll s = v at hstop hpump hhouse he htables hperiod hreservoirs
    refine ⟨_, rfl, ?_⟩
    rw [hstop]
    refine ⟨he, htables, hperiod, hreservoirs, rfl, rfl, rfl, rfl, fun e hmem => ?_, fun h => ?_, fun h hused hmode => ?_,
      hhouse, fun p => ?_⟩
    · rw [← released_of_mem (hin e hmem)]; rfl
    · show d.refresh.get h = none
      rw [hrefresh]; exact get_replicate ..
    · obtain ⟨e, hmem, heh⟩ := exists_mem_releasedQueue (mem_autoHouses.mpr ⟨hused, hmode⟩)
      have hkind : e.kind = .release := by rw [← released_of_mem hmem]; rfl
      exact (hout e hmem).imp (fun hq => ⟨e, hq, heh, hkind⟩) fun ⟨hidle, htx⟩ => ⟨hidle, e, htx, heh, hkind⟩
    · intro q
      obtain ⟨hstart, hstopped, hrunning, hother⟩ := releasedPump_cases s p
      have hp : (v.pump p) = s.releasedPump p := hpump p
      refine ⟨fun hrun horder => ?_, fun hrun h => ?_, fun hrun => hp.trans (hrunning hrun), fun h => hp.trans (hother h)⟩
      · have e := hp.trans (hstart hrun horder)
        show (v.pump p).run = _ ∧ (v.pump p).order = _ ∧ (v.pump p).stopMark = _ ∧ (v.pump p).history = _
          ∧ (v.pump p).admission = _
        rw [e]; exact ⟨rfl, rfl, rfl, rfl, rfl⟩
      · have e := hp.trans (hstopped hrun h)
        show (v.pump p).run = _ ∧ (v.pump p).commanded = _ ∧ (v.pump p).order = _ ∧ (v.pump p).runStart = _
        rw [e]; exact ⟨rfl, rfl, rfl, rfl⟩

end

end Sys2Proof.Machine

/-! ## RESTART (R185) -/

namespace Sys2Proof.Machine

section

variable {s : State}

/-! ### Pumps that neither load nor hold an order -/

/-- Every pump is as after power-up, but for its run seconds and service state. -/
def State.resting (s : State) : Prop := ∀ p, (s.pump p).run = .unknown ∨ (s.pump p).run = .unused

theorem resting_of_pumps {t : State} (hs : s.resting) (h : t.pumps = s.pumps) : t.resting := by
  intro p
  have hp : t.pump p = s.pump p := congrArg (fun v : Vector Pump 32 => v.get p) h
  rw [hp]; exact hs p

theorem siteLoad_resting (hs : s.resting) : s.siteLoad = 0 := by
  have hzero : ∀ p ∈ allPumps, (if (s.pumpE p).used && (s.pump p).run.loads then (s.pumpE p).power else 0) = 0 :=
    fun p _ => by rcases hs p with h | h <;> simp [h, RunState.loads]
  rw [State.siteLoad, List.map_congr_left hzero]
  simp

theorem guardPump_resting (hs : s.resting) (p : PumpId) : guardPump p s = s := by
  unfold guardPump
  rcases hs p with h | h <;> rw [h]

theorem guardPass_resting (hs : s.resting) (h : HouseId) (o : Vector Order 4) : guardPass h o s = s := by
  have hslot : ∀ c, guardSlot h o s c = s := fun c => by
    unfold guardSlot
    split
    · split
      · rfl
      · exact guardPump_resting hs _
    · rfl
  unfold guardPass
  induction allSlots with
  | nil => rfl
  | cons c rest ih => rw [List.foldl_cons, hslot, ih]

theorem takeMarked_resting (hs : s.resting) (e : DispEntry) : takeMarked e s = s := by
  have hmarked : ∀ (m : Vector Bool 4) (r : RunState) (c : SlotId), r = .startOrdered ∨ r = .stopOrdered →
      s.markedPump e.house m r .queued c = none := fun m r c hr => by
    unfold State.markedPump
    split
    · refine Option.filter_eq_none_iff.mpr fun p _ => ?_
      rcases hr with rfl | rfl <;> rcases hs p with h | h <;> simp [h]
    · rfl
  have hslot : ∀ c, takeSlot e s c = s := fun c => by
    rw [takeSlot, hmarked _ _ c (.inl rfl), hmarked _ _ c (.inr rfl)]
  unfold takeMarked
  induction allSlots with
  | nil => rfl
  | cons c rest ih => rw [List.foldl_cons, hslot, ih]

/-- No entry moves a resting pump. -/
theorem still_of_resting (hs : s.resting) (e : DispEntry) : Still e s := by
  intro t ht
  have hrest := resting_of_pumps hs ht
  refine ⟨?_, fun u hu => takeMarked_resting (resting_of_pumps hs hu) _⟩
  unfold guardEntry guardAgain
  split
  · dsimp only
    rw [guardPass_resting hrest, guardPass_resting hrest, guardPass_resting hrest]
  · rfl

/-- Where no pump loads and BUDGET_OVER does not hold, a recompute of the window raises and clears nothing (R132). -/
theorem recompute_resting (hs : s.resting) (hover : s.arbiter.overBudget = false) : recompute s
    = { s with arbiter := { s.arbiter with window := windowFor 0 s.budget s.site.budgetMargin s.arbiter.window } } := by
  have htest : ∀ v : State, v.resting → v.arbiter.overBudget = false → testOver v = v := fun v hv ho => by
    rw [testOver, siteLoad_resting hv, if_neg (Nat.not_lt_zero _), ho]
    rfl
  rw [recompute, siteLoad_resting hs]
  exact htest _ hs hover

/-! ### The field port's take -/

theorem fieldTake_busy (h : s.field.tx ≠ none) : fieldTake s = s :=
  if_pos (Option.isSome_iff_ne_none.mpr h)

theorem fieldTake_nothing (hqueue : s.dispatcher.queue = []) (hfwd : s.field.fwd = []) : fieldTake s = s := by
  simp [fieldTake, hqueue, hfwd]

theorem fieldTake_head {e : DispEntry} {rest : List DispEntry} (h : s.field.tx = none)
    (hqueue : s.dispatcher.queue = e :: rest) (hfwd : s.field.fwd = []) :
    fieldTake s = takeDispatch e rest (setFieldRun 0 s) := by
  simp [fieldTake, h, hqueue, hfwd]

/-! ### The state after RESTART -/

/-- Live state as after power-up around the records given (R185). -/
def resetState (d : Dispatcher) (a : Arbiter) (period : Period) (pumps : Vector Pump 32) (houses : Vector House 12)
    (s : State) : State :=
  { s with
    engine := .standby
    autoStart := .none
    settleMark := 0
    lastRefusal := none
    cursor := ⟨0, 0⟩
    responses := []
    lastSave := none
    storeTx := .idle
    now := 0
    period := period
    reservoirs := .replicate 16 (.fresh 0)
    pumps := pumps
    stations := .replicate 12 (.fresh 0)
    houses := houses
    marks := []
    arbiter := a
    dispatcher := d
    alarms := .fresh
    field := s.field.restarted
    sup := s.sup.restarted }

/-- The queue that RESTART keeps: released where the engine was in RUN, with every enqueue mark 0 (R146). -/
def State.keptQueue (s : State) : List DispEntry :=
  (if s.engine = .run then s.releasedQueue else s.dispatcher.queue).map fun e => { e with enqueue := 0 }

/-- The dispatcher after RESTART. -/
def State.restartedDispatcher (s : State) (q : List DispEntry) : Dispatcher :=
  { Dispatcher.fresh with queue := q, inTx := s.dispatcher.inTx }

/-- The pump records that RESTART leaves. -/
def State.restartedPumps (s : State) : Vector Pump 32 :=
  Vector.ofFn fun p =>
    .fresh (if (s.pumpE p).used then .unknown else .unused) (s.runSecondsNow p) (s.pump p).service

/-- The house records that RESTART leaves. -/
def State.restartedHouses (s : State) : Vector House 12 := Vector.ofFn fun h => .fresh (s.house h).mode 0

/-- The period record latched at a RESTART. -/
def State.restartedPeriod (s : State) : Period := ({ s with now := 0 } : State).periodOf s.lookup .restart

/-- The arbiter after RESTART: no pump loads, so the window follows from the budget (R123). -/
def State.restartedArbiter (s : State) : Arbiter :=
  { Arbiter.fresh with
    window := windowFor 0 (min s.restartedPeriod.budget s.site.siteLimit) s.site.budgetMargin .closed }

/-- The state after RESTART, before the field port's take. -/
def restarted (s : State) : State :=
  resetState (s.restartedDispatcher s.keptQueue) s.restartedArbiter s.restartedPeriod s.restartedPumps
    s.restartedHouses s

theorem pump_restartedPumps (s : State) (p : PumpId) : s.restartedPumps.get p
    = .fresh (if (s.pumpE p).used then .unknown else .unused) (s.runSecondsNow p) (s.pump p).service :=
  pump_ofFn s _ p

section

variable (d : Dispatcher) (a : Arbiter) (pd : Period) (v : Vector Pump 32) (hs : Vector House 12) (s : State)

theorem resetLive_eq : resetLive s = resetState
    (s.restartedDispatcher (s.dispatcher.queue.map fun e => { e with enqueue := 0 })) .fresh s.period
    (pumpsAfterReset s) s.restartedHouses s := rfl

theorem resetState_setPumps (w : Vector Pump 32) :
    resetState d a pd v hs (setPumps w s) = resetState d a pd v hs s := rfl

theorem resetState_setQueue (q : List DispEntry) : resetState d a pd v hs (setQueue q s) = resetState d a pd v hs s := rfl

theorem resting_resetState (p : PumpId → RunState) (hv : ∀ i, (v.get i).run = p i)
    (hp : ∀ i, p i = .unknown ∨ p i = .unused) : (resetState d a pd v hs s).resting := by
  intro i
  have hpump : (resetState d a pd v hs s).pump i = v.get i := rfl
  rw [hpump, hv]
  exact hp i

theorem resting_restartedPumps : (resetState d a pd s.restartedPumps hs s).resting := by
  refine resting_resetState d a pd _ hs s (fun p => if (s.pumpE p).used then .unknown else .unused) (fun p => ?_)
    fun p => ?_
  · rw [pump_restartedPumps]; rfl
  · cases (s.pumpE p).used
    · exact .inr rfl
    · exact .inl rfl

end

theorem pump_setPumps (w : Vector Pump 32) (s : State) (p : PumpId) : (setPumps w s).pump p = w.get p := rfl

theorem accrueAll_setPumps (s : State) : ∃ w, accrueAll allPumps s = setPumps w s
    ∧ ∀ p, w.get p = (s.pump p).accruedAt s.now :=
  ⟨_, accrueAll_allPumps s, fun p => pump_ofFn s _ p⟩

/-- The records that a RESTART begins from, with the queue released and the pumps' run seconds brought up to date. -/
theorem resetLive_accrueAll (q : List DispEntry) (s : State) : resetLive (accrueAll allPumps (setQueue q s))
    = resetState (s.restartedDispatcher (q.map fun e => { e with enqueue := 0 })) .fresh s.period s.restartedPumps
      s.restartedHouses s := by
  obtain ⟨w, haccrued, hw⟩ := accrueAll_setPumps (setQueue q s)
  have hpumps : pumpsAfterReset (setPumps w (setQueue q s)) = s.restartedPumps := by
    refine vector_eq_of_get fun p => ?_
    rw [pump_pumpsAfterReset, pump_restartedPumps, pump_setPumps, hw]
    rfl
  rw [haccrued, resetLive_eq, hpumps, resetState_setPumps, resetState_setQueue]
  rfl

/-- Outside RUN, where no pump loads, a latch sets the period and the window alone. -/
theorem latchNow_resting (he : s.engine ≠ .run) (hs : s.resting) (hover : s.arbiter.overBudget = false) (k : Ctx)
    (cause : LatchCause) : latchNow k cause s = { s with
      period := s.periodOf s.lookup cause
      arbiter := { s.arbiter with
        window := windowFor 0 (min (s.periodOf s.lookup cause).budget s.site.siteLimit) s.site.budgetMargin
          s.arbiter.window } } := by
  have hset : (setPeriod s.lookup cause s).engine ≠ .run := he
  have hrecompute := recompute_resting (s := setPeriod s.lookup cause s) hs hover
  rw [latchNow, latch, handLatch, if_neg hset, arbiterLatch_of_not_run hset, hrecompute]
  rfl

theorem restartEngine_eq (s : State) : restartEngine s = fieldTake (restarted s) := by
  have hqueue : (if s.engine = .run then releaseAll s else s)
      = setQueue (if s.engine = .run then s.releasedQueue else s.dispatcher.queue) s := by
    split
    · exact releaseAll_eq s
    · rfl
  have hreset := resetLive_accrueAll (if s.engine = .run then s.releasedQueue else s.dispatcher.queue) s
  have hrest := resting_restartedPumps (s.restartedDispatcher s.keptQueue) .fresh s.period s.restartedHouses s
  unfold restartEngine restarted
  dsimp only
  rw [hqueue, hreset]
  change fieldTake (latchNow .quiet .restart (resetState (s.restartedDispatcher s.keptQueue) .fresh s.period
    s.restartedPumps s.restartedHouses s)) = _
  generalize s.restartedPumps = v at hrest ⊢
  generalize s.restartedHouses = hs at hrest ⊢
  generalize s.restartedDispatcher s.keptQueue = d at hrest ⊢
  rw [latchNow_resting (by simp [resetState]) hrest rfl]
  rfl

/-- What the field port's take leaves after RESTART: the kept queue where the port is busy or nothing is queued, and the
queue without its head otherwise (log 10). -/
theorem fieldTake_restarted (s : State) : ∃ d tx, fieldTake (restarted s)
      = { restarted s with dispatcher := d, field := { s.field.restarted with tx := tx } }
    ∧ d.refresh = .replicate 12 none ∧ (∀ e ∈ d.queue, e ∈ s.keptQueue)
    ∧ (s.field.tx ≠ none ∨ s.keptQueue = [] → d = s.restartedDispatcher s.keptQueue ∧ tx = s.field.tx)
    ∧ ∀ e rest, s.field.tx = none → s.keptQueue = e :: rest → ∃ g, g.house = e.house ∧ (e.kind = .release → g = e)
      ∧ tx = some (.dispatch s.ownAddr g)
      ∧ d = ⟨rest, some g, (Vector.replicate 12 none).set e.house (some g.orders), .replicate 12 none⟩ := by
  have hqueue : (restarted s).dispatcher.queue = s.keptQueue := rfl
  have hfwd : (restarted s).field.fwd = [] := rfl
  have htx : (restarted s).field.tx = s.field.tx := rfl
  have hrest : (restarted s).resting := resting_restartedPumps _ _ _ _ s
  by_cases h : s.field.tx ≠ none ∨ s.keptQueue = []
  · have hstands : fieldTake (restarted s) = restarted s := 
      h.elim (fun hbusy => fieldTake_busy (htx.symm ▸ hbusy)) fun hk => fieldTake_nothing hk hfwd
    refine ⟨_, _, hstands, rfl, fun _ he => he, fun _ => ⟨rfl, rfl⟩, fun e rest hidle hk => ?_⟩
    exact absurd h (by rw [hk]; simp [hidle])
  · obtain ⟨hidle, hkept⟩ := not_or.mp h
    obtain ⟨e, rest, hk⟩ := List.exists_cons_of_ne_nil hkept
    have hhead := fieldTake_head (s := restarted s) (not_not.mp hidle) hk hfwd
    rw [takeDispatch_still (by simp [restarted, resetState]) (still_of_resting hrest e)] at hhead
    obtain ⟨hhouse, -, hrelease⟩ := guardEntry_entry e (dequeue e rest (setFieldRun 0 (restarted s)))
    generalize (guardEntry e (dequeue e rest (setFieldRun 0 (restarted s)))).2 = g at hhead hhouse hrelease
    refine ⟨_, _, hhead, rfl, fun x hx => by rw [hk]; exact List.mem_cons_of_mem _ hx, fun hn => absurd hn h,
      fun x xs _ hx => ?_⟩
    rw [hk] at hx
    obtain ⟨rfl, rfl⟩ := List.cons.inj hx
    exact ⟨g, hhouse, hrelease, rfl, rfl⟩

theorem keptQueue_release (he : s.engine = .run) {e : DispEntry} (h : e ∈ s.keptQueue) :
    e.kind = .release ∧ e.enqueue = 0 := by
  rw [State.keptQueue, if_pos he] at h
  obtain ⟨x, hx, rfl⟩ := List.mem_map.mp h
  have hkind : x.kind = .release := by rw [← released_of_mem hx]; rfl
  exact ⟨hkind, rfl⟩

theorem keptQueue_run (he : s.engine = .run) : s.keptQueue
    = (s.dispatcher.queue.map fun e => { e.released with enqueue := 0 })
      ++ (allHouses.filter fun h => (s.houseE h).used && (s.house h).mode == .auto
          && !s.dispatcher.queue.any fun e => e.house == h).map fun h => { s.releaseEntry h with enqueue := 0 } := by
  have hautos : (s.autoHouses.filter fun h => !s.dispatcher.queue.any fun e => e.house == h)
      = allHouses.filter fun h => (s.houseE h).used && (s.house h).mode == .auto
          && !s.dispatcher.queue.any fun e => e.house == h := by
    rw [State.autoHouses, List.filter_filter]
    exact List.filter_congr fun h _ => Bool.and_comm _ _
  rw [State.keptQueue, if_pos he, State.releasedQueue, hautos, List.map_append, List.map_map, List.map_map]
  rfl

theorem restartedPeriod_eq (s : State) : s.restartedPeriod
    = ({ s with now := 0 } : State).periodOf (if s.timeSet = true then s.activeEntry (s.sod / 60) else none) .restart :=
  rfl

theorem askRestart_saving {i : ImageId} (h : s.storeTx = .saving i) : askRestart s = refuse .busy s := by
  simp [askRestart, h]

theorem askRestart_done (h : ∀ i, s.storeTx ≠ .saving i) : askRestart s = done (restartEngine s) := by
  unfold askRestart
  split
  · next i htx => exact absurd htx (h i)
  · rfl
  · rfl

/-- Settles O48: the records of `restarted`, and the field port's take by `fieldTake_restarted`. -/
theorem restart : Obligations.Restart := by
  intro s hs released kept
  have hexec : exec .restart s = .next (answer 0x4C (askRestart s)) := congrArg Host.Outcome.next (asked_of_serves hs _ _)
  rw [hexec]
  refine ⟨fun i htx => by rw [askRestart_saving htx, answer_refuse], fun hnot => ⟨restartEngine s, ?_, ?_⟩⟩
  · rw [askRestart_done hnot, answer_done]
  have hkept : kept = s.keptQueue := by
    by_cases he : s.engine = .run
    · rw [keptQueue_run he]; exact if_pos he
    · rw [State.keptQueue, if_neg he]; exact if_neg he
  clear_value kept
  subst hkept
  obtain ⟨d, tx, htake, hrefresh, hin, hstands, hhead⟩ := fieldTake_restarted s
  rw [restartEngine_eq, htake]
  have hpumps := pump_restartedPumps s
  refine ⟨rfl, rfl, rfl, rfl, rfl, rfl, rfl, rfl, rfl, rfl, rfl, rfl, rfl, rfl, rfl, rfl, rfl, ?_, fun r => ?_,
    fun h => ?_, fun h => ?_, fun p => ?_, rfl, rfl, rfl, rfl, rfl, ?_, rfl, fun h => ?_, fun he e hmem => ?_,
    fun h => ?_, fun e rest hidle hk => ?_, rfl, rfl, rfl, rfl, rfl, rfl, rfl, rfl, rfl, rfl, rfl, rfl, rfl, fun f hf => ?_⟩
  · rw [show ({ restarted s with dispatcher := d, field := { s.field.restarted with tx := tx } } : State).period
      = s.restartedPeriod from rfl, restartedPeriod_eq]
    cases (if s.timeSet = true then s.activeEntry (s.sod / 60) else none) <;> rfl
  · exact get_replicate _ r
  · exact get_replicate _ h
  · show s.restartedHouses.get h = _
    simp [State.restartedHouses, Vector.get_eq_getElem]
  · show s.restartedPumps.get p = _
    rw [hpumps, PumpEntry.used]
    cases (s.pumpE p).house <;> rfl
  · show windowFor 0 (min s.restartedPeriod.budget s.site.siteLimit) s.site.budgetMargin .closed
      = if s.site.budgetMargin < min s.restartedPeriod.budget s.site.siteLimit then .isOpen else .closed
    unfold windowFor
    split
    · next hzero => rw [if_neg (by omega)]
    · rw [Nat.zero_add]
  · show d.refresh.get h = none
    rw [hrefresh]; exact get_replicate _ h
  · exact keptQueue_release he (hin e hmem)
  · obtain ⟨rfl, -⟩ := hstands h
    exact ⟨rfl, rfl, fun g => get_replicate _ g⟩
  · obtain ⟨g, hhouse, hrelease, rfl, rfl⟩ := hhead e rest hidle hk
    refine ⟨rfl, g, rfl, rfl, hhouse, hrelease, fun h => ?_⟩
    show ((Vector.replicate 12 none).set e.house (some g.orders)).get h = _
    rw [getSet, get_replicate]
  · obtain ⟨-, rfl⟩ := hstands (.inl (by rw [hf]; simp))
    exact hf

end

end Sys2Proof.Machine

/-! ## HOUSE_MODE (R96, R97, R145) -/

namespace Sys2Proof.Machine

section

variable {s : State} {h : HouseId} {m : Mode}

/-! ### Into AUTO (R97) -/

/-- The state with the pumps of a house adopted and the house marked, before its orders are derived. -/
def entered (h : HouseId) (s : State) : State := mark h (adoptHouse .starting h (setMode h .auto s))

theorem apartOrders_entered (h : HouseId) (s : State) {f : PumpId → Bool}
    (hf : ∀ p, f p = true ↔ p ∈ (setMode h .auto s).adoptable h) :
    (entered h s).apartOrders = (setPumps ((setMode h .auto s).pumpsAdopted f) (setMode h .auto s)).apartOrders :=
  (apartOrders_mark _ h).trans ((adopts_adoptHouse h _).apartOrders hf)

theorem enterAuto_entered (h : HouseId) (s : State) :
    h ∈ (enterAuto h s).marks ∧ (enterAuto h s).apartOrders = (entered h s).apartOrders := by
  have hmoves : Moves True (fun _ => True) (fun _ => True) (entered h s) (enterAuto h s) :=
    carries_derive _ carries_live true h (confined_all _)
  exact ⟨hmoves.marks h (List.mem_append_right _ (List.mem_singleton_self h)), hmoves.apart⟩

/-! ### Out of AUTO in RUN (R96, R145) -/

/-- The state with a house's mode changed, its request gone and its entry a RELEASE entry. -/
def leaving (h : HouseId) (m : Mode) (s : State) : State := releaseHouse h (dropRequest h (setMode h m s))

/-- The pumps and the record of a house released, and its refresh made idle. -/
def left (h : HouseId) (t : State) : State :=
  releaseRecord h (setRefresh h none ((t.pumpsOf h).foldl (fun v p => releasePump p v) t))

theorem leaveAuto_eq (h : HouseId) (m : Mode) (s : State) :
    leaveAuto h m s = handRelease (fieldTake (leaving h m s)) (left h (fieldTake (leaving h m s))) := rfl

/-- The release of a house's entry leaves all but the queue, whose entries of the house are RELEASE entries. -/
theorem releaseHouse_eq (h : HouseId) (s : State) : ∃ q, releaseHouse h s = setQueue q s
    ∧ (∃ e ∈ q, e.house = h) ∧ ∀ e ∈ q, e.house = h → e.released = e := by
  unfold releaseHouse
  split
  · next hsome =>
    obtain ⟨e, he⟩ := Option.isSome_iff_exists.mp hsome
    have hfind : s.dispatcher.queue.find? (fun x => decide (x.house = h)) = some e := he
    have hfound := List.find?_some hfind
    have hhouse : e.house = h := of_decide_eq_true hfound
    refine ⟨s.dispatcher.queue.map fun e => if e.house = h then e.released else e, rfl, ⟨e.released,
      List.mem_map.mpr ⟨e, List.mem_of_find?_eq_some hfind, if_pos hhouse⟩, hhouse⟩, fun x hx hxh => ?_⟩
    obtain ⟨y, -, rfl⟩ := List.mem_map.mp hx
    split
    · rfl
    · next hy => rw [if_neg hy] at hxh; exact absurd hxh hy
  · next hnone =>
    refine ⟨s.dispatcher.queue ++ [(newEntry s h).released], rfl, ⟨(newEntry s h).released,
      List.mem_append_right _ (List.mem_singleton_self _), rfl⟩, fun x hx hxh => ?_⟩
    rcases List.mem_append.mp hx with hx | hx
    · have hsome : (s.queuedEntry h).isSome = true := List.find?_isSome.mpr ⟨x, hx, by simpa using hxh⟩
      exact absurd hsome hnone
    · rw [List.mem_singleton.mp hx]; rfl

theorem apartOrders_leaving (h : HouseId) (m : Mode) (s : State) :
    (leaving h m s).apartOrders = (setMode h m s).apartOrders := by
  rw [leaving, apartOrders_releaseHouse, apartOrders_dropRequest]

/-- A house that is not AUTO, with its request gone and its entry released, is outside the orders of the others. -/
theorem confined_leaving (hm : m ≠ .auto) {B : PumpId → Prop} (hB : ∀ p, (s.pumpE p).house ≠ some h → B p)
    (hrequests : ∀ e ∈ s.arbiter.requests, e.house ≠ h → B e.pump) : Confined (· ≠ h) B (leaving h m s) := by
  obtain ⟨q, hq, -, hreleased⟩ := releaseHouse_eq h (dropRequest h (setMode h m s))
  rw [leaving, hq]
  refine ⟨fun p g hp hg => hB p fun hh => ?_, fun g hg hh => ?_, fun e he => ?_, fun e he hne => ?_⟩
  · have hpg : (s.pumpE p).house = some g := hp
    rw [hpg, Option.some.injEq] at hh
    exact hg hh
  · subst hh
    have hmode : ((setQueue q (dropRequest g (setMode g m s))).house g).mode = m :=
      congrArg House.mode (house_modHouse_same s g fun x => { x with mode := m })
    simp [State.active, hmode, hm] at hg
  · obtain ⟨hmem, hne⟩ := List.mem_filter.mp he
    have hne : e.house ≠ h := of_decide_eq_true hne
    exact ⟨hne, hrequests e hmem hne⟩
  · exact hreleased e he (not_not.mp hne)

/-- The pumps of a house released touch them, and the house alone. -/
theorem touches_releaseHousePumps (h : HouseId) (t : State) : Touches noRecord (· ∈ t.pumpsOf h) (· = h) t
    ((t.pumpsOf h).foldl (fun v p => releasePump p v) t) :=
  (touches_releaseEach (t.pumpsOf h) t).mono (fun _ e => e) (fun _ e => e) fun g ⟨p, hp, hg⟩ => by
    rw [mem_pumpsOf.mp hp, Option.some.injEq] at hg
    exact hg.symm

section

variable (h : HouseId) (t : State)

theorem dispatcher_left :
    (left h t).dispatcher = { t.dispatcher with refresh := t.dispatcher.refresh.set h none } := by
  have hpumps := (touches_releaseHousePumps h t).dispatcher
  have hrecord := (touches_releaseRecord (R := noRecord) (P := noRecord) h
    (setRefresh h none ((t.pumpsOf h).foldl (fun v p => releasePump p v) t))).dispatcher
  rw [left, hrecord, setRefresh, modDispatcher_dispatcher, hpumps]

theorem arbiter_left : (left h t).arbiter = t.arbiter :=
  (touches_releaseRecord (R := noRecord) (P := noRecord) h _).arbiter.trans (touches_releaseHousePumps h t).arbiter

theorem field_left : (left h t).field = t.field :=
  (touches_releaseRecord (R := noRecord) (P := noRecord) h _).field.trans (touches_releaseHousePumps h t).field

theorem pump_left {p : PumpId} (hp : (t.pumpE p).house = some h) : (left h t).pump p = t.releasedPump p :=
  ((touches_releaseRecord (R := noRecord) (P := noRecord) h _).pump p id).trans
    (pump_releaseEach (nodup_pumpsOf t h) (mem_pumpsOf.mpr hp) t)

theorem house_left : (left h t).house h = .fresh (t.house h).mode (t.house h).lastStartTx := by
  have happart := (apartOrders_setRefresh _ h none).trans (apartOrders_releaseEach (t.pumpsOf h) t)
  rw [left, house_releaseRecord, house_mode_of_apartOrders happart, house_lastStartTx_of_apartOrders happart]

theorem apartHouse_left : (left h t).apartHouse h = t.apartHouse h := by
  have hrecord : ∀ u, (releaseRecord h u).apartHouse h = u.apartHouse h := fun u => by
    have hclear : (clearHouseAlarms h u).apartOrders = u.apartOrders := by
      have e := congrArg State.apartOrders (apartAlarms_clearHouseAlarms h u); exact e
    rw [releaseRecord, houseBegins, apartHouse_modHouse _ _ _ ⟨rfl, rfl⟩]
    exact apartHouse_of_apartOrders h hclear
  rw [left, hrecord]
  exact apartHouse_of_apartOrders h ((apartOrders_setRefresh _ h none).trans (apartOrders_releaseEach (t.pumpsOf h) t))

variable {h t}

theorem confined_left {A : HouseId → Prop} {B : PumpId → Prop} (ht : Confined A B t) : Confined A B (left h t) := by
  have hframe := apartHouses_of_apartHouse h (apartHouse_left h t)
  have htables := tables_of_apartHouses hframe
  refine ⟨fun p g => ?_, fun g => ?_, fun e he => ?_, fun e he => ?_⟩
  · rw [pumpE_eq_of_tables htables]; exact ht.placed p g
  · rw [State.active, engine_of_apartHouses hframe, houseE_eq_of_tables htables, house_mode_of_apartHouses hframe]
    exact ht.active g
  · rw [arbiter_left] at he; exact ht.requests e he
  · rw [dispatcher_left] at he; exact ht.queue e he

end

theorem carries_handRelease {A : HouseId → Prop} {B : PumpId → Prop} (before t : State) :
    Carries True A B t (handRelease before t) := by
  unfold handRelease
  exact (carries_loadChanged t carries_live _).trans (.onlyIf _ (fun v => carries_shed v carries_live) _)

/-- The moves about a house that leaves AUTO: the take that follows the release of its entry, and the load changes of its
pumps handed on, each confined to the other houses. -/
theorem moves_leaveAuto (hm : m ≠ .auto) {B : PumpId → Prop} (hB : ∀ p, (s.pumpE p).house ≠ some h → B p)
    (hrequests : ∀ e ∈ s.arbiter.requests, e.house ≠ h → B e.pump) :
    Moves True (· ≠ h) B (leaving h m s) (fieldTake (leaving h m s))
      ∧ Moves True (· ≠ h) B (left h (fieldTake (leaving h m s))) (leaveAuto h m s) := by
  have hleaving := confined_leaving hm hB hrequests
  have htake := carries_fieldTake (leaving h m s) hleaving
  rw [leaveAuto_eq]
  exact ⟨htake, carries_handRelease _ _ (confined_left (htake.confined hleaving))⟩

theorem releasedPump_congr {t : State} {p : PumpId} (hp : t.pump p = s.pump p) (hnow : t.now = s.now) :
    t.releasedPump p = s.releasedPump p := by
  unfold State.releasedPump State.runSecondsNow State.since
  rw [hp, hnow]

/-- The entry of a house that leaves AUTO is a RELEASE entry, queued or taken by the idle port. -/
theorem queue_leaveAuto (hm : m ≠ .auto) : (∀ e ∈ (leaveAuto h m s).dispatcher.queue, e.house = h → e.kind = .release)
    ∧ ((∃ e ∈ (leaveAuto h m s).dispatcher.queue, e.house = h ∧ e.kind = .release)
      ∨ (s.field.tx = none ∧ ∃ e, (leaveAuto h m s).dispatcher.inTx = some e ∧ e.house = h ∧ e.kind = .release)) := by
  obtain ⟨htake, hhand⟩ := moves_leaveAuto (s := s) (h := h) hm (B := fun _ => True) (fun _ _ => trivial)
    fun _ _ _ => trivial
  obtain ⟨q, hq, ⟨e₀, hmem₀, heh₀⟩, hreleased⟩ := releaseHouse_eq h (dropRequest h (setMode h m s))
  have hqueue : (leaving h m s).dispatcher.queue = q := congrArg (fun v : State => v.dispatcher.queue) hq
  have hfield : (leaving h m s).field = s.field := by rw [leaving, hq]; rfl
  have hleft := dispatcher_left h (fieldTake (leaving h m s))
  have hlefts : (left h (fieldTake (leaving h m s))).dispatcher.queue
      = (fieldTake (leaving h m s)).dispatcher.queue := by rw [hleft]
  have hlefttx : (left h (fieldTake (leaving h m s))).dispatcher.inTx
      = (fieldTake (leaving h m s)).dispatcher.inTx := by rw [hleft]
  have hport := field_left h (fieldTake (leaving h m s))
  have hkind : ∀ e ∈ q, e.house = h → e.kind = .release := fun e he heh => by rw [← hreleased e he heh]; rfl
  refine ⟨fun e he heh => hkind e ?_ heh, ?_⟩
  · have h₁ := hhand.queue e he (not_not.mpr heh)
    rw [hlefts] at h₁
    have h₂ := htake.queue e h₁ (not_not.mpr heh)
    rwa [hqueue] at h₂
  · have hk₀ := hkind e₀ hmem₀ heh₀
    rw [← hfield]
    rcases htake.kept e₀ (by rwa [hqueue]) (not_not.mpr heh₀) with h₁ | ⟨⟨-, hidle⟩, htx, hbusy⟩
    · rcases hhand.kept e₀ (by rwa [hlefts]) (not_not.mpr heh₀) with h₂ | ⟨hidle, htx, -⟩
      · exact .inl ⟨e₀, h₂, heh₀, hk₀⟩
      · rw [hport] at hidle
        exact .inr ⟨(htake.idle_before hidle).2, e₀, htx, heh₀, hk₀⟩
    · have hstands := hhand.port fun hidle' => hbusy (by rw [← hport]; exact hidle'.2)
      exact .inr ⟨hidle, e₀, by rw [hstands.1, hlefttx, htx], heh₀, hk₀⟩

/-- The house's record, the requests, its refresh and the frame of a change out of AUTO. -/
theorem records_leaveAuto (hm : m ≠ .auto) : (leaveAuto h m s).house h = .fresh m (s.house h).lastStartTx
    ∧ (∀ e ∈ (leaveAuto h m s).arbiter.requests, e.house ≠ h) ∧ (leaveAuto h m s).dispatcher.refresh.get h = none
    ∧ (leaveAuto h m s).apartHouse h = (setMode h m s).apartHouse h := by
  obtain ⟨htake, hhand⟩ := moves_leaveAuto (s := s) (h := h) hm (B := fun _ => True) (fun _ _ => trivial)
    fun _ _ _ => trivial
  refine ⟨?_, fun e he => ?_, ?_, ?_⟩
  · have hrecord : (leaving h m s).house h = { s.house h with mode := m } := by
      obtain ⟨q, hq, -⟩ := releaseHouse_eq h (dropRequest h (setMode h m s))
      rw [leaving, hq]
      exact house_modHouse_same s h fun x => { x with mode := m }
    rw [hhand.house h (not_not.mpr rfl), house_left, htake.house h (not_not.mpr rfl), hrecord]
  · have hleft := hhand.requests e he
    rw [arbiter_left] at hleft
    have hleaving := htake.requests e hleft
    obtain ⟨q, hq, -⟩ := releaseHouse_eq h (dropRequest h (setMode h m s))
    rw [leaving, hq] at hleaving
    exact of_decide_eq_true (List.mem_filter.mp hleaving).2
  · rw [hhand.refresh, dispatcher_left]
    exact getSet_same _ h none
  · rw [apartHouse_of_apartOrders h hhand.apart, apartHouse_left, apartHouse_of_apartOrders h htake.apart]
    exact apartHouse_of_apartOrders h (apartOrders_leaving h m s)

/-- A pump of the house that leaves AUTO is released as it stood, where each request is for a pump of its house. -/
theorem pump_leaveAuto (hm : m ≠ .auto) (hplaced : ∀ e ∈ s.arbiter.requests, (s.pumpE e.pump).house = some e.house)
    {p : PumpId} (hp : (s.pumpE p).house = some h) : (leaveAuto h m s).pump p = s.releasedPump p := by
  obtain ⟨htake, hhand⟩ := moves_leaveAuto (s := s) (h := h) (B := fun p => (s.pumpE p).house ≠ some h) hm
    (fun _ hB => hB) fun e he hne => by rw [hplaced e he]; exact fun h => hne (Option.some.inj h)
  obtain ⟨q, hq, -⟩ := releaseHouse_eq h (dropRequest h (setMode h m s))
  have hpump : (leaving h m s).pump p = s.pump p := by rw [leaving, hq]; rfl
  have hnow : (leaving h m s).now = s.now := by rw [leaving, hq]; rfl
  have htables : (leaving h m s).tables = s.tables := by rw [leaving, hq]; rfl
  rw [hhand.pump p (not_not.mpr hp), pump_left]
  · exact releasedPump_congr ((htake.pump p (not_not.mpr hp)).trans hpump) ((now_of_apartOrders htake.apart).trans hnow)
  · rw [pumpE_eq_of_tables ((tables_of_apartOrders htake.apart).trans htables)]; exact hp

/-! ### HOUSE_MODE -/

theorem usedHouse_eq (n : Nat) (hn : n = h.val) :
    s.usedHouse n = if (s.houseE h).used = true then some h else none := by
  subst hn
  have hhouse : houseOf h.val = some h := dif_pos h.isLt
  rw [State.usedHouse, hhouse]
  cases hu : (s.houseE h).used <;> simp [hu]

theorem changeMode_alone (hcase : s.engine ≠ .run ∨ ((s.house h).mode ≠ .auto ∧ m ≠ .auto) ∨ (s.house h).mode = m) :
    changeMode h m s = setMode h m s := by
  unfold changeMode
  dsimp only
  split
  · next hsame =>
    have hset : { s.house h with mode := m } = s.house h := by rw [← hsame]
    have hvec : s.houses.set h (s.house h) = s.houses := vector_eq_of_get fun g => by
      rw [getSet]
      split
      · next hg => rw [hg]; rfl
      · rfl
    rw [setMode, modHouse, hset, hvec]
  · next hother =>
    rcases hcase with he | ⟨hwas, hm⟩ | hsame
    · rw [if_pos he]
    · rw [if_neg hwas, if_neg hm, ite_self]
    · exact absurd hsame hother

/-- Settles O47: the refusals by `askMode`, and the changes of mode in RUN by `moves_leaveAuto` and `enterAuto_entered`. -/
theorem houseModes : Obligations.HouseModes := by
  intro b c h m s hs hb
  have hexec : exec (.houseMode b c) s = .next (answer 0x46 (askMode b c s)) :=
    congrArg Host.Outcome.next (asked_of_serves hs _ _)
  have hused := usedHouse_eq (s := s) b.toNat hb
  rw [hexec]
  refine ⟨fun hu => ?_, fun hu hc => ?_, fun hu hc => ?_⟩
  · rw [hu] at hused
    simp [askMode, hused]
  · rw [hu] at hused
    simp [askMode, hused, hc]
  have hask : askMode b c s = done (changeMode h m s) := by
    rw [hu] at hused
    simp [askMode, hused, hc]
  rw [hask, answer_done]
  refine ⟨fun hcase => ?_, fun he hwas hm => ⟨leaveAuto h m s, ?_, ?_⟩, fun he hwas hm => ⟨enterAuto h s, ?_, ?_⟩⟩
  · rw [changeMode_alone (hcase.imp_left fun hstandby => by rw [hstandby]; decide)]
    rfl
  · rw [changeMode, if_neg (by rw [hwas]; exact hm.symm), if_neg (not_not.mpr he), if_pos hwas]
  · obtain ⟨hqueue, hentry⟩ := queue_leaveAuto (s := s) (h := h) hm
    obtain ⟨hhouse, hrequests, hrefresh, hframe⟩ := records_leaveAuto (s := s) (h := h) hm
    refine ⟨hhouse, hrequests, hrefresh, hqueue, hentry, fun hplaced p hp => ?_, hframe⟩
    rw [pump_leaveAuto hm hplaced hp]
    exact releasedPump_cases s p
  · rw [changeMode, if_neg (by rw [hm]; exact hwas), if_neg (not_not.mpr he), if_neg hwas, if_pos hm]
  · obtain ⟨hmark, hframe⟩ := enterAuto_entered h s
    have hadopted := apartOrders_entered h s (f := fun p => (s.pumpE p).house == some h && (s.pump p).run == .running
      && !(s.pump p).commanded && (s.pump p).panel == some .remote) fun p => by
        have hmem : p ∈ (setMode h .auto s).adoptable h ↔ (s.pumpE p).house = some h
          ∧ ((s.pump p).run == .running && !(s.pump p).commanded && (s.pump p).panel == some .remote) = true :=
          mem_adoptable
        rw [hmem]
        simp [and_assoc]
    have hpumps : (setMode h .auto s).pumpsAdopted = s.pumpsAdopted := rfl
    exact ⟨hmark, hframe.trans (by rw [hadopted, hpumps]; rfl)⟩

end

end Sys2Proof.Machine

/-! ## Reservoir levels (R26-R42) -/

namespace Sys2Proof.Machine

section

variable {r : ResId} {s : State}

/-! ### A change of level or source (R32, R33) -/

theorem isEmergLow_iff : s.isEmergLow r = true ↔
    ((s.res r).source = .live ∨ (s.res r).source = .estimated) ∧ (s.res r).level ≤ (s.resE r).emerg := by
  unfold State.isEmergLow
  cases (s.res r).source <;> simp [Source.usable]

/-- The EMERGENCY_LOW test moves the condition held and the alarms alone (R33). -/
theorem apartAlarms_testEmerg (r : ResId) (s : State) : (testEmerg r s).apartAlarms
    = (modRes r (fun x => { x with emergLow := s.isEmergLow r }) s).apartAlarms := by
  unfold testEmerg
  dsimp only
  repeat' split
  · exact apartAlarms_raise ..
  · exact apartAlarms_clear ..
  · rfl

/-- A change of level or source is the EMERGENCY_LOW test and the marks of the houses concerned (R32). -/
theorem levelMoved_eq (r : ResId) (s : State) :
    levelMoved r s = { testEmerg r s with marks := s.marks ++ s.concerned r } := by
  have hapart := apartAlarms_testEmerg r s
  have htables : (testEmerg r s).tables = s.tables := (tables_of_apartAlarms hapart).trans rfl
  have hmarks : (testEmerg r s).marks = s.marks := (marks_of_apartAlarms hapart).trans rfl
  rw [levelMoved, markConcerned, markAll_eq, concerned_eq_of_tables htables, hmarks]

/-- Settles O25: `levelMoved_eq`, with the EMERGENCY_LOW test by the condition now and the condition held. -/
theorem levelMoved_holds : Obligations.LevelMoved := by
  intro r s x holds u v
  have htest : testEmerg r s = v := by
    have hnow : holds ↔ s.isEmergLow r = true := isEmergLow_iff.symm
    simp only [v, u, testEmerg, hnow, x]
    cases s.isEmergLow r <;> cases (s.res r).emergLow <;> rfl
  rw [levelMoved_eq, htest]
  rfl

/-! ### LEVEL records (R26-R31) -/

/-- The state of a valid sample before the step check: the count held and the sensor fault cleared (R27). -/
def validSample (r : ResId) (raw : Nat) (s : State) : State :=
  let u := modRes r (fun y => { y with sensor := .ok, lastRaw := some raw }) s
  if (s.res r).sensor = .ok then u else clear .levelSensor r.val u

theorem apartAlarms_validSample (r : ResId) (raw : Nat) (s : State) : (validSample r raw s).apartAlarms
    = (modRes r (fun y => { y with sensor := .ok, lastRaw := some raw }) s).apartAlarms := by
  unfold validSample
  dsimp only
  split
  · rfl
  · exact apartAlarms_clear ..

theorem res_validSample (r : ResId) (raw : Nat) (s : State) :
    (validSample r raw s).res r = { s.res r with sensor := .ok, lastRaw := some raw } :=
  (res_of_apartAlarms (apartAlarms_validSample r raw s) r).trans (res_modRes_same ..)

theorem modRes_modRes (r : ResId) (f g : Reservoir → Reservoir) (s : State) :
    modRes r g (modRes r f s) = modRes r (fun x => g (f x)) s := by
  have hset (a b : Reservoir) : (s.reservoirs.set r a).set r b = s.reservoirs.set r b := by simp
  rw [modRes, res_modRes_same, modRes_reservoirs, hset]
  rfl

theorem levelRecord_invalid {raw : Nat} {flag : Bool} {f : Sensor} (h : faultSide (s.resE r) raw flag = some f) :
    levelRecord r raw flag s = raise .levelSensor r.val (some (s.res r).level) f.side
      (modRes r (fun y => { y with sensor := f, lastRaw := some raw }) s) := by
  simp only [levelRecord, h, modRes_modRes]

theorem levelRecord_valid {raw : Nat} {flag : Bool} (h : faultSide (s.resE r) raw flag = none) :
    levelRecord r raw flag s = stepCheck r (convert (s.resE r) raw) (validSample r raw s) := by
  simp only [levelRecord, h, modRes_modRes, validSample, onlyIf, bne_iff_ne, ne_eq, ite_not]

theorem confirms_iff {pending : Option Nat} {level step : Nat} : confirms pending level step = true ↔
    ∃ q, pending = some q ∧ levelGap level q ≤ step := by
  cases pending <;> simp [confirms]

/-- The step check passes a converted level (R29). -/
def State.stepPasses (s : State) (r : ResId) (level : Nat) : Prop :=
  (s.res r).source ≠ .live ∨ (s.resE r).step = 0 ∨ levelGap level (s.res r).level ≤ (s.resE r).step
    ∨ ∃ q, (s.res r).pending = some q ∧ levelGap level q ≤ (s.resE r).step

theorem stepCheck_passed {level : Nat} (h : s.stepPasses r level) : stepCheck r level s = accept r level s := by
  simp only [State.stepPasses, ← confirms_iff] at h
  exact if_pos h

theorem stepCheck_held {level : Nat} (h : ¬s.stepPasses r level) :
    stepCheck r level s = modRes r (fun x => { x with pending := some level }) s := by
  simp only [State.stepPasses, ← confirms_iff] at h
  exact if_neg h

theorem stepPasses_validSample (raw level : Nat) : (validSample r raw s).stepPasses r level ↔ s.stepPasses r level := by
  have htables : (validSample r raw s).tables = s.tables :=
    (tables_of_apartAlarms (apartAlarms_validSample r raw s)).trans rfl
  simp only [State.stepPasses, res_validSample, resE_eq_of_tables htables]

theorem apartAlarms_clearSourceAlarm (was : Source) (r : ResId) (s : State) :
    (clearSourceAlarm was r s).apartAlarms = s.apartAlarms := by
  cases was
  case noData | live => rfl
  case estimated | lost => exact apartAlarms_clear ..

/-- The record after an acceptance (R31, R33). -/
theorem res_accept (r : ResId) (level : Nat) (s : State) : (accept r level s).res r = { s.res r with
    level := level, source := .live, lastAccept := s.now, pending := none, residue := 0
    emergLow := decide (level ≤ (s.resE r).emerg) } := by
  have hapart := apartAlarms_clearSourceAlarm (s.res r).source r (modRes r (fun x =>
    { x with level := level, source := .live, lastAccept := s.now, pending := none, residue := 0 }) s)
  have hres := (res_of_apartAlarms hapart r).trans (res_modRes_same ..)
  rw [accept, res_levelMoved, State.isEmergLow, hres, resE_eq_of_tables (tables_of_apartAlarms hapart)]
  rfl

/-- Settles O26: the judgement by `faultSide`, and a valid sample by the step check on `validSample`. -/
theorem sampleTaken : Obligations.SampleTaken := by
  intro r raw flag s x e level accepted invalid
  refine ⟨fun hlow => ?_, fun hmin hhigh => ?_, fun hmin hmax hflag => ?_, fun hmin hmax hflag => ?_⟩
  · exact levelRecord_invalid (f := .faultBelow) (if_pos hlow)
  · exact levelRecord_invalid (f := .faultAbove) (by simp [faultSide, e, Nat.not_lt.mpr hmin, hhigh])
  · exact levelRecord_invalid (f := .faultBelow)
      (by simp [faultSide, e, Nat.not_lt.mpr hmin, Nat.not_lt.mpr hmax, hflag])
  · intro u v w
    have hvalid : levelRecord r raw flag s = stepCheck r level v :=
      levelRecord_valid (by simp [faultSide, e, Nat.not_lt.mpr hmin, Nat.not_lt.mpr hmax, hflag])
    have hpasses : v.stepPasses r level ↔ accepted := stepPasses_validSample raw level
    have hapart : v.apartAlarms = u.apartAlarms := apartAlarms_validSample r raw s
    have hres : v.res r = { x with sensor := .ok, lastRaw := some raw } := res_validSample r raw s
    have hnow : v.now = s.now := (now_of_apartAlarms hapart).trans rfl
    refine ⟨fun hheld => ?_, fun haccepted => ?_⟩
    · rw [hvalid, stepCheck_held (mt hpasses.mp hheld)]
    · rw [hvalid, stepCheck_passed (hpasses.mpr haccepted)]
      refine ⟨?_, ?_⟩
      · rw [accept, hres, hnow]
        cases x.source <;> rfl
      · rw [res_accept, hres, hnow, resE_eq_of_tables (tables_of_apartAlarms hapart)]
        rfl

/-! ### The timers of the source states (R35-R38) -/

theorem silenceDue_iff : s.silenceDue r = true ↔ (s.resE r).used = true ∧ s.engine ≠ .startup
    ∧ (s.res r).source = .live ∧ (s.resE r).silence ≤ (s.now - (s.res r).lastAccept).toNat := by
  simp only [State.silenceDue, State.resInService, Bool.and_eq_true, bne_iff_ne, beq_iff_eq, reached_iff, and_assoc]

theorem lossDue_iff : s.lossDue r = true ↔ (s.resE r).used = true ∧ s.engine ≠ .startup
    ∧ ((s.res r).source = .noData ∨ (s.res r).source = .estimated)
    ∧ (s.resE r).loss ≤ (s.now - (s.res r).lastAccept).toNat := by
  simp only [State.lossDue, State.resInService, Bool.and_eq_true, Bool.or_eq_true, bne_iff_ne, beq_iff_eq, reached_iff,
    and_assoc]

/-- A LIVE reservoir outside STARTUP is estimable where every station concerned is HEARD (R37). -/
theorem estimable_iff_of_live (hengine : s.engine ≠ .startup) (hsource : (s.res r).source = .live) :
    s.estimable r = true ↔ ∀ h, (s.houseE h).used = true →
      ((s.houseE h).delivery = r ∨ (s.houseE h).suction = some r) → (s.station h).state = .heard := by
  simp [State.estimable, hengine, hsource, Source.usable, mem_concerned]

theorem exec_of_due {c : Instr} {due : Bool} {f : State → State} (hexec : exec c s = .next (whenDue due f s))
    (h : due = true) : exec c s = .next (f s) :=
  hexec.trans (congrArg Host.Outcome.next (if_pos h))

/-- An expiry that is not due changes nothing (log 5). -/
theorem exec_of_not_due {c : Instr} {due : Bool} {f : State → State} (hexec : exec c s = .next (whenDue due f s))
    (h : ¬due = true) : exec c s = .next s :=
  hexec.trans (congrArg Host.Outcome.next (if_neg h))

/-- A source other than ESTIMATED is lost without the clear of LEVEL_ESTIMATED (R35, R36). -/
theorem loseLevel_of_not_estimated (h : (s.res r).source ≠ .estimated) : loseLevel r s = levelMoved r
    (raise .levelLost r.val (some (s.res r).level) .none
      (modRes r (fun y => { y with source := .lost, pending := none }) s)) := by
  simp [loseLevel, onlyIf, h]

theorem loseLevel_of_estimated (h : (s.res r).source = .estimated) : loseLevel r s = levelMoved r
    (raise .levelLost r.val (some (s.res r).level) .none
      (clear .levelEstimated r.val (modRes r (fun y => { y with source := .lost, pending := none }) s))) := by
  simp [loseLevel, onlyIf, h]

/-- Settles O27: when each expiry is due, and the new source by `estimable_iff_of_live` and the source before. -/
theorem silenceLoss : Obligations.SilenceLoss := by
  intro r s hused hengine x elapsed heard lost
  refine ⟨fun hlive hlength hheard => ?_, fun hlive hlength hheard => ?_, fun hsource hlength => ?_,
    fun hsource hlength => ?_, fun hnot => ?_, fun hnot => ?_⟩
  · rw [exec_of_due (c := .silenceExpiry r) rfl (silenceDue_iff.mpr ⟨hused, hengine, hlive, hlength⟩),
      silenceOver, if_pos ((estimable_iff_of_live hengine hlive).mpr hheard)]
    rfl
  · rw [exec_of_due (c := .silenceExpiry r) rfl (silenceDue_iff.mpr ⟨hused, hengine, hlive, hlength⟩),
      silenceOver, if_neg (mt (estimable_iff_of_live hengine hlive).mp hheard),
      loseLevel_of_not_estimated (fun h => by rw [hlive] at h; cases h)]
  · rw [exec_of_due (c := .lossExpiry r) rfl (lossDue_iff.mpr ⟨hused, hengine, .inl hsource, hlength⟩),
      loseLevel_of_not_estimated (fun h => by rw [hsource] at h; cases h)]
  · rw [exec_of_due (c := .lossExpiry r) rfl (lossDue_iff.mpr ⟨hused, hengine, .inr hsource, hlength⟩),
      loseLevel_of_estimated hsource]
  · refine exec_of_not_due rfl fun hdue => ?_
    obtain ⟨-, -, hlive, hlength⟩ := silenceDue_iff.mp hdue
    exact hnot.elim (fun hne => hne hlive) fun hlt => Nat.not_lt.mpr hlength hlt
  · refine exec_of_not_due rfl fun hdue => ?_
    obtain ⟨-, -, hsource, hlength⟩ := lossDue_iff.mp hdue
    rcases hnot with hlive | hlost | hlt
    · rw [hlive] at hsource; simp at hsource
    · rw [hlost] at hsource; simp at hsource
    · exact Nat.not_lt.mpr hlength hlt

end

end Sys2Proof.Machine

/-! ## The estimate step (R41, R42) -/

namespace Sys2Proof.Machine

/-! ### The flows of a reservoir (R41) -/

theorem sum_map_ite_zero {α : Type} (c : α → Bool) (f : α → Nat) (l : List α) :
    (l.map fun a => if c a then f a else 0).sum = ((l.filter c).map f).sum := by
  induction l with
  | nil => rfl
  | cons a rest ih => cases h : c a <;> simp [h, ih]

theorem sum_filter_or {α : Type} {c d : α → Bool} (h : ∀ a, ¬(c a = true ∧ d a = true)) (f : α → Nat) (l : List α) :
    ((l.filter fun a => c a || d a).map f).sum = ((l.filter c).map f).sum + ((l.filter d).map f).sum := by
  induction l with
  | nil => rfl
  | cons a rest ih =>
    have ha := h a
    cases hc : c a <;> cases hd : d a <;> simp_all <;> omega

/-- Sums over the members of several groups are one sum over all of them, where no member is of two groups. -/
theorem sum_groups {α β : Type} [DecidableEq β] (g : α → Option β) (f : α → Nat) (l : List α) {hs : List β}
    (hn : hs.Nodup) : (hs.map fun h => ((l.filter fun a => g a == some h).map f).sum).sum
      = ((l.filter fun a => hs.any fun h => g a == some h).map f).sum := by
  induction hs with
  | nil => simp
  | cons h rest ih =>
    obtain ⟨hnot, hrest⟩ := List.nodup_cons.mp hn
    have hapart (a : α) : ¬((g a == some h) = true ∧ (rest.any fun k => g a == some k) = true) := by
      rintro ⟨ha, hany⟩
      obtain ⟨k, hk, hak⟩ := List.any_eq_true.mp hany
      rw [beq_iff_eq] at ha hak
      exact hnot (Option.some.inj (ha.symm.trans hak) ▸ hk)
    simp only [List.map_cons, List.sum_cons, List.any_cons, ih hrest, sum_filter_or hapart]

/-- The flow of the RUNNING and STOP_ORDERED pumps of the houses named (R41). -/
theorem sum_houseFlow (s : State) (names : HouseId → Bool) : ((allHouses.filter names).map s.houseFlow).sum
    = ((allPumps.filter fun p => (allHouses.any fun h => (s.pumpE p).house == some h && names h)
        && ((s.pump p).run == .running || (s.pump p).run == .stopOrdered)).map fun p => (s.pumpE p).flow).sum := by
  have hflow (h : HouseId) : s.houseFlow h
      = (((allPumps.filter fun p => (s.pump p).run == .running || (s.pump p).run == .stopOrdered).filter
        fun p => (s.pumpE p).house == some h).map fun p => (s.pumpE p).flow).sum := by
    rw [State.houseFlow, sum_map_ite_zero, State.pumpsOf, List.filter_comm]
  rw [funext hflow, sum_groups _ _ _ (nodup_allHouses.filter names)]
  simp only [List.filter_filter, List.any_filter, Bool.and_comm]

/-! ### One step (R42) -/

section

variable {r : ResId} {s : State}

/-- A level clamped to the height stands exactly where it is from 0 to the height. -/
theorem clamped_eq_iff {moved : Int} {height : Nat} :
    max 0 (min moved height) = moved ↔ 0 ≤ moved ∧ moved ≤ height := by
  omega

theorem stepDue_iff : s.stepDue r = true ↔ (s.resE r).used = true ∧ s.engine ≠ .startup
    ∧ (s.res r).source = .estimated ∧ (s.resE r).estStep ≤ (s.now - (s.res r).stepMark).toNat := by
  simp only [State.stepDue, State.resInService, Bool.and_eq_true, bne_iff_ne, beq_iff_eq, reached_iff, and_assoc]

/-- The level and the residue that the next estimate step leaves (R42). -/
def State.nextEstimate (s : State) (r : ResId) : Nat × Int :=
  stepLevel (s.res r).level ((s.res r).residue + s.netFlow r * (s.resE r).estStep) (s.resE r).litresPerCm
    (s.resE r).height

/-- The record of an estimate step before the EMERGENCY_LOW test (R42). -/
def State.stepped (s : State) (r : ResId) : Reservoir :=
  { s.res r with level := (s.nextEstimate r).1, residue := (s.nextEstimate r).2, stepMark := s.now }

theorem estimateOnce_same (h : (s.nextEstimate r).1 = (s.res r).level) :
    estimateOnce r s = modRes r (fun _ => s.stepped r) s :=
  if_neg fun hne => bne_iff_ne.mp hne h

theorem estimateOnce_moved (h : (s.nextEstimate r).1 ≠ (s.res r).level) :
    estimateOnce r s = levelMoved r (modRes r (fun _ => s.stepped r) s) :=
  if_pos (bne_iff_ne.mpr h)

/-- The record after a step of an ESTIMATED reservoir (R33, R42). -/
theorem res_estimateOnce (h : (s.res r).source = .estimated) : (estimateOnce r s).res r = { s.stepped r with
    emergLow := if (s.nextEstimate r).1 = (s.res r).level then (s.res r).emergLow
      else decide ((s.nextEstimate r).1 ≤ (s.resE r).emerg) } := by
  split
  · next hsame => rw [estimateOnce_same hsame, res_modRes_same]; rfl
  · next hmoved =>
    have hsource : (s.stepped r).source = .estimated := h
    rw [estimateOnce_moved hmoved, res_levelMoved, State.isEmergLow, res_modRes_same, hsource]
    rfl

/-- Apart from alarms and marks, a change of level sets the condition held (R32, R33). -/
theorem apartMarks_levelMoved (r : ResId) (s : State) :
    (levelMoved r s).apartMarks = (modRes r (fun _ => (levelMoved r s).res r) s).apartMarks := by
  have hapart := congrArg (fun t : State => { t with marks := [] }) (apartAlarms_testEmerg r s)
  rw [res_levelMoved, levelMoved_eq]
  exact hapart

theorem apartMarks_estimateOnce (r : ResId) (s : State) :
    (estimateOnce r s).apartMarks = (modRes r (fun _ => (estimateOnce r s).res r) s).apartMarks := by
  by_cases h : (s.nextEstimate r).1 = (s.res r).level
  · rw [estimateOnce_same h, res_modRes_same]
  · rw [estimateOnce_moved h]
    exact (apartMarks_levelMoved r _).trans (congrArg State.apartMarks (modRes_modRes ..))

/-- Settles O28: the step by whether it moves the level, its arithmetic by `clamped_eq_iff`, and the flows by
`sum_houseFlow`. -/
theorem estimateStep : Obligations.EstimateStep := by
  intro r s x e N A C L level
  have hnext : s.nextEstimate r
      = (level, if 0 ≤ L ∧ L ≤ (e.height : Int) then A - C * (e.litresPerCm : Int) else 0) := by
    simp only [← clamped_eq_iff]
    rfl
  refine ⟨fun hused hengine hsource hlength => ⟨estimateOnce r s, ?_, ?_, fun hsame => ?_, fun hmoved => ?_,
    apartMarks_estimateOnce r s⟩, fun hnot => ?_, ?_, ?_, ?_⟩
  · exact exec_of_due rfl (stepDue_iff.mpr ⟨hused, hengine, hsource, hlength⟩)
  · rw [res_estimateOnce hsource, State.stepped, hnext]
  · have hlevel : (s.nextEstimate r).1 = (s.res r).level := by rw [hnext]; exact hsame
    rw [estimateOnce_same hlevel, res_modRes_same]
  · have hlevel : (s.nextEstimate r).1 ≠ (s.res r).level := by rw [hnext]; exact hmoved
    have hrecord : { (estimateOnce r s).res r with emergLow := x.emergLow } = s.stepped r := by
      rw [res_estimateOnce hsource]; rfl
    rw [hrecord, estimateOnce_moved hlevel]
    exact ⟨by rw [levelMoved_eq]; rfl, rfl⟩
  · refine exec_of_not_due rfl fun hdue => ?_
    obtain ⟨-, -, hsource, hlength⟩ := stepDue_iff.mp hdue
    exact hnot.elim (fun hne => hne hsource) fun hlt => Nat.not_lt.mpr hlength hlt
  · rw [State.inflow, sum_houseFlow]
    simp only [Bool.and_assoc]
  · rw [State.outflow, sum_houseFlow]
    simp only [Bool.and_assoc]
  · cases s.period.cls <;> rfl

end

end Sys2Proof.Machine

/-! ## The expiries of pumps, houses and refreshes (R59, R60, R86, R91, R102, R142) -/

namespace Sys2Proof.Machine

section

variable {p : PumpId} {h : HouseId} {s : State}

/-! ### Motor limits (R59) -/

theorem minRunDue_iff : s.minRunDue p = true ↔ (s.pump p).run = .running ∧ (s.pump p).commanded = true
    ∧ (s.pump p).minRunOpen = true ∧ (s.pumpE p).minRun ≤ (s.now - (s.pump p).runStart).toNat := by
  simp only [State.minRunDue, State.minRunDone, Pump.commandedRunning, Bool.and_eq_true, beq_iff_eq, reached_iff,
    and_assoc]

theorem minOffDue_iff {m : Second} (hm : (s.pump p).stopMark = some m) : s.minOffDue p = true ↔
    (s.pump p).run = .stopped ∧ (s.pump p).minOffOpen = true ∧ (s.pumpE p).minOff ≤ (s.now - m).toNat := by
  simp only [State.minOffDue, State.minOffDone, hm, Bool.and_eq_true, beq_iff_eq, reached_iff, and_assoc]

theorem minOffOpen_of_due (hdue : s.minOffDue p = true) : (s.pump p).minOffOpen = true := by
  simp only [State.minOffDue, Bool.and_eq_true] at hdue
  obtain ⟨⟨-, hopen⟩, -⟩ := hdue
  exact hopen

/-- The mark of a pump's house after an update of the pump. -/
theorem markPump_modPump (hp : (s.pumpE p).house = some h) (f : Pump → Pump) :
    markPump p (modPump p f s) = { modPump p f s with marks := s.marks ++ [h] } :=
  atHouseOf_some mark (s := modPump p f s) hp

/-! ### Fallback phases (R86) -/

/-- The records of a house in a phase with its mark and length. -/
def inPhase (h : HouseId) (ph : Phase) (m : Option Second) (len : Nat) (s : State) : State :=
  modHouse h (fun x => { x with phase := ph, phaseMark := m, phaseLen := len }) s

theorem inPhase_inPhase (ph qh : Phase) (m n : Option Second) (a b : Nat) :
    inPhase h qh n b (inPhase h ph m a s) = inPhase h qh n b s := by
  have hset (x y : House) : (s.houses.set h x).set h y = s.houses.set h y := by simp
  rw [inPhase, modHouse, inPhase, house_modHouse_same, modHouse_houses, hset]
  rfl

theorem expirePhase_on (hphase : (s.house h).phase = .on) :
    expirePhase h s = mark h (inPhase h .off (some s.now) (s.planE h).fallbackOff s) := by
  simp only [expirePhase, inPhase, modHouse, phaseExpired, hphase, enterOff]

theorem expirePhase_off_timed (hphase : (s.house h).phase = .off) (hon : 1 ≤ (s.planE h).fallbackOn) :
    expirePhase h s = mark h (inPhase h .on (some s.now) (s.planE h).fallbackOn s) := by
  simp only [expirePhase, inPhase, modHouse, phaseExpired, hphase, enterOn, if_pos (Nat.lt_of_succ_le hon)]

theorem expirePhase_off_untimed (hphase : (s.house h).phase = .off) (hon : (s.planE h).fallbackOn = 0) :
    expirePhase h s = mark h (inPhase h .off none 0 s) := by
  simp only [expirePhase, inPhase, modHouse, phaseExpired, hphase, enterOn, hon, Nat.lt_irrefl, if_false]

theorem house_inPhase (ph : Phase) (m : Option Second) (len : Nat) (s : State) : (mark h (inPhase h ph m len s)).house h
    = { s.house h with phase := ph, phaseMark := m, phaseLen := len } :=
  house_modHouse_same s h fun x => { x with phase := ph, phaseMark := m, phaseLen := len }

theorem offAtOnce_inPhase (ph : Phase) (m : Option Second) (len : Nat) (s : State) :
    ((mark h (inPhase h ph m len s)).house h).offAtOnce = (ph == .off && m.isSome && len == 0) :=
  congrArg House.offAtOnce (house_inPhase ph m len s)

/-- An expiry that does not begin a timed OFF of length 0 is the whole expiry (R86). -/
theorem passPhase_once {ph : Phase} {m : Option Second} {len : Nat}
    (hexpire : expirePhase h s = mark h (inPhase h ph m len s))
    (hstays : (ph == .off && m.isSome && len == 0) = false) : passPhase h s = mark h (inPhase h ph m len s) := by
  rw [passPhase, hexpire, offAtOnce_inPhase, hstays]
  rfl

/-- A timed OFF of length 0 expires with the expiry that begins it (R86, log 21). -/
theorem passPhase_twice (hphase : (s.house h).phase = .on) (hoff : (s.planE h).fallbackOff = 0) :
    passPhase h s = expirePhase h (mark h (inPhase h .off (some s.now) 0 s)) := by
  have hexpire := expirePhase_on hphase
  rw [hoff] at hexpire
  rw [passPhase, hexpire, offAtOnce_inPhase]
  rfl

theorem phaseDue_iff {m : Second} (hphase : (s.house h).phase ≠ .none) (hm : (s.house h).phaseMark = some m) :
    s.phaseDue h = true ↔ s.active h = true ∧ (s.house h).phaseLen ≤ (s.now - m).toNat := by
  rw [State.phaseDue, hm, Bool.and_eq_true, ← reached_iff]
  cases hph : (s.house h).phase
  case none => exact absurd hph hphase
  case on | off => rfl

theorem active_iff : s.active h = true ↔ s.engine = .run ∧ (s.houseE h).used = true ∧ (s.house h).mode = .auto := by
  simp only [State.active, Bool.and_eq_true, beq_iff_eq, and_assoc]

/-! ### Refreshes (R142) -/

theorem queuedEntry_none_iff : s.queuedEntry h = none ↔ ∀ e ∈ s.dispatcher.queue, e.house ≠ h := by
  simp [State.queuedEntry]

theorem notInTx_iff : s.notInTx h = true ↔ ∀ e, s.dispatcher.inTx = some e → e.house ≠ h := by
  unfold State.notInTx
  cases s.dispatcher.inTx <;> simp

theorem refreshDue_iff {m : Second} (hm : s.dispatcher.refresh.get h = some m) : s.refreshDue h = true ↔
    s.active h = true ∧ (∀ e ∈ s.dispatcher.queue, e.house ≠ h) ∧ (∀ e, s.dispatcher.inTx = some e → e.house ≠ h)
      ∧ s.site.refresh ≤ (s.now - m).toNat := by
  simp only [State.refreshDue, hm, Bool.and_eq_true, Option.isNone_iff_eq_none, queuedEntry_none_iff, notInTx_iff,
    reached_iff, and_assoc]

/-- The forced derivation of an active house that has no entry queued (R137). -/
theorem derive_refresh (hactive : s.active h = true) (hqueue : ∀ e ∈ s.dispatcher.queue, e.house ≠ h) :
    derive .live true h s
      = fieldTake (modDispatcher (fun d => { d with queue := d.queue ++ [newEntry s h] }) s) := by
  have hderive : derive .live true h s = fieldTake (placeOrders true h s) :=
    if_pos (Bool.and_eq_true_iff.mpr ⟨rfl, hactive⟩)
  rw [hderive, placeOrders, queuedEntry_none_iff.mpr hqueue]
  rfl

/-- Settles O23: each expiry by when it is due; the mark of a pump by `markPump_modPump`, the fallback phases by
`passPhase_once` and `passPhase_twice`, and a refresh by `derive_refresh`. -/
theorem timerMarks : Obligations.TimerMarks := by
  intro p h m s marked elapsed
  refine ⟨fun hp => ⟨fun hrun hcommanded hopen hlength => ?_, fun hrun hm hopen hlength => ?_,
    fun rest hhistory hlength => ?_⟩, fun hat => ?_, fun hat => ?_, fun hover => ?_, fun hover => ?_, fun hat => ?_,
    fun hat => ?_, fun hengine hused hmode => ⟨fun hm hlength => ?_, fun hm hlength => ?_⟩⟩
  · rw [exec_of_due (c := .minRunExpiry p) rfl (minRunDue_iff.mpr ⟨hrun, hcommanded, hopen, hlength⟩), minRunOver,
      markPump_modPump hp]
    rfl
  · rw [exec_of_due (c := .minOffExpiry p) rfl ((minOffDue_iff hm).mpr ⟨hrun, hopen, hlength⟩), minOffOver,
      markPump_modPump hp]
    rfl
  · have hage : s.ageingDue p = true := by rw [State.ageingDue, hhistory]; exact reached_iff.mpr hlength
    rw [exec_of_due (c := .historyAgeing p) rfl hage, historyAged, markPump_modPump hp, modPump, hhistory]
    rfl
  · exact exec_of_due (c := .staggerExpiry h) rfl (beq_iff_eq.mpr hat)
  · exact exec_of_not_due rfl (mt beq_iff_eq.mp hat)
  · refine exec_of_not_due rfl fun hd => ?_
    obtain ⟨-, -, hopen, hlength⟩ := minRunDue_iff.mp hd
    rcases hover with hclosed | hlt
    · rw [hclosed] at hopen; cases hopen
    · exact Nat.not_lt.mpr hlength hlt
  · refine exec_of_not_due rfl fun hd => ?_
    rcases hover with hclosed | ⟨hm, hlt⟩
    · have hopen := minOffOpen_of_due hd
      rw [hclosed] at hopen; cases hopen
    · obtain ⟨-, -, hlength⟩ := (minOffDue_iff hm).mp hd
      exact Nat.not_lt.mpr hlength hlt
  · exact exec_of_due (c := .rotationExpiry h) rfl (beq_iff_eq.mpr hat)
  · exact exec_of_not_due rfl (mt beq_iff_eq.mp hat)
  · intro on off enters
    have hactive := active_iff.mpr ⟨hengine, hused, hmode⟩
    have hphase {ph : Phase} (hph : (s.house h).phase = ph) (hne : ph ≠ .none) :
        exec (.fallbackPhaseExpiry h) s = .next (passPhase h s) :=
      exec_of_due rfl ((phaseDue_iff (hph ▸ hne) hm).mpr ⟨hactive, hlength⟩)
    refine ⟨fun hon hoff => ?_, fun hon hoff htimed => ?_, fun hon hoff huntimed => ?_, fun hoff htimed => ?_,
      fun hoff huntimed => ?_⟩
    · rw [hphase hon (by decide), passPhase_once (expirePhase_on hon) (by simp; omega)]
      rfl
    · rw [hphase hon (by decide), passPhase_twice hon hoff,
        expirePhase_off_timed (congrArg House.phase (house_inPhase ..)) htimed]
      exact congrArg (fun u => Host.Outcome.next (marked (marked u))) (inPhase_inPhase ..)
    · rw [hphase hon (by decide), passPhase_twice hon hoff,
        expirePhase_off_untimed (congrArg House.phase (house_inPhase ..)) huntimed]
      exact congrArg (fun u => Host.Outcome.next (marked (marked u))) (inPhase_inPhase ..)
    · rw [hphase hoff (by decide), passPhase_once (expirePhase_off_timed hoff htimed) rfl]
      rfl
    · rw [hphase hoff (by decide), passPhase_once (expirePhase_off_untimed hoff huntimed) rfl]
      rfl
  · have hactive := active_iff.mpr ⟨hengine, hused, hmode⟩
    refine ⟨fun hqueue htx => ?_, fun e he hh => ?_, fun e he hh => ?_⟩
    · rw [exec_of_due (c := .refreshExpiry h) rfl ((refreshDue_iff hm).mpr ⟨hactive, hqueue, htx, hlength⟩),
        derive_refresh hactive hqueue]
      rfl
    · refine exec_of_not_due rfl fun hd => ?_
      obtain ⟨-, hqueue, -, -⟩ := (refreshDue_iff hm).mp hd
      exact hqueue e he hh
    · refine exec_of_not_due rfl fun hd => ?_
      obtain ⟨-, -, htx, -⟩ := (refreshDue_iff hm).mp hd
      exact htx e he hh

end

end Sys2Proof.Machine

/-! ## Invariants that the shared operations keep -/

namespace Sys2Proof.Machine

/-- The parts of a state that the bounds of the queues and of the pumps are about. -/
def State.boundParts (s : State) :=
  (s.engine, s.storeTx, s.tables, s.pumps, s.arbiter, s.dispatcher, s.alarms, s.responses, s.field, s.sup)

/-- A pump record in place of another: its start history is no longer, and its run seconds stay within 32 bits. -/
def Pump.Fits (old new : Pump) : Prop :=
  new.history.length ≤ old.history.length ∧ (old.runSeconds ≤ 4294967295 → new.runSeconds ≤ 4294967295)

/-- A record that keeps its start history and its run seconds. -/
theorem Pump.Fits.kept {old new : Pump} (hh : new.history = old.history) (hr : new.runSeconds = old.runSeconds) :
    old.Fits new := ⟨by rw [hh], fun h => by rwa [hr]⟩

/-- An invariant over the parts that the bounds are about, kept by each update of a record and by the operations on the
alarm list, the request list and the dispatch queue. -/
structure Kept (I : State → Prop) : Prop where
  same : ∀ {s t : State}, I s → t.boundParts = s.boundParts → I t
  pump : ∀ {s : State} (p : PumpId) (f : Pump → Pump), (s.pump p).Fits (f (s.pump p)) → I s → I (modPump p f s)
  raised : ∀ {s : State} (k : AlarmKind) (o : Nat) (v : Option Nat) (d : Side), I s → I (raise k o v d s)
  cleared : ∀ {s : State} (k : AlarmKind) (o : Nat), I s → I (clear k o s)
  arbiter : ∀ {s : State} (f : Arbiter → Arbiter),
    ((f s.arbiter).requests.map Request.house).Sublist (s.arbiter.requests.map Request.house) →
    I s → I (modArbiter f s)
  requested : ∀ {s : State} (h : HouseId) (p : PumpId) (u : Urgency), I s → I (placeRequest .starting h p u s)
  placed : ∀ {s : State} (forced : Bool) (h : HouseId), I s → I (placeOrders forced h s)

/-- The take of a context keeps the invariant. -/
def Ctx.Holds (I : State → Prop) (k : Ctx) : Prop := ∀ s, I s → I (k.take s)

section

variable {I : State → Prop} {s : State}

theorem holds_quiet : Ctx.quiet.Holds I := fun _ hs => hs

theorem holds_starting : Ctx.starting.Holds I := fun _ hs => hs

theorem kept_foldl {α : Type} {f : State → α → State} (hf : ∀ t a, I t → I (f t a)) (l : List α) (hs : I s) :
    I (l.foldl f s) := by
  induction l generalizing s with
  | nil => exact hs
  | cons a rest ih => exact ih (hf s a hs)

theorem kept_onlyIf (b : Bool) {f : State → State} (hf : ∀ t, I t → I (f t)) (hs : I s) : I (onlyIf b f s) := by
  unfold onlyIf
  split
  · exact hf s hs
  · exact hs

theorem kept_atHouseOf (p : PumpId) {f : HouseId → State → State} (hf : ∀ h t, I t → I (f h t)) (hs : I s) :
    I (atHouseOf p f s) := by
  unfold atHouseOf
  split
  · exact hs
  · exact hf _ s hs

variable (K : Kept I)

include K

/-! ### Records and marks -/

theorem kept_modRes (r : ResId) (f : Reservoir → Reservoir) (hs : I s) : I (modRes r f s) := K.same hs rfl

theorem kept_modHouse (h : HouseId) (f : House → House) (hs : I s) : I (modHouse h f s) := K.same hs rfl

theorem kept_modStation (h : HouseId) (f : Station → Station) (hs : I s) : I (modStation h f s) := K.same hs rfl

theorem kept_mark (h : HouseId) (hs : I s) : I (mark h s) := K.same hs rfl

theorem kept_markPump (p : PumpId) (hs : I s) : I (markPump p s) := kept_atHouseOf p (fun h _ => kept_mark K h) hs

theorem kept_markAll (hs' : List HouseId) (hs : I s) : I (markAll hs' s) :=
  kept_foldl (fun _ h => kept_mark K h) hs' hs

/-- An update of a pump that keeps its start history and its run seconds. -/
theorem kept_modPump (p : PumpId) (f : Pump → Pump) (hh : (f (s.pump p)).history = (s.pump p).history)
    (hr : (f (s.pump p)).runSeconds = (s.pump p).runSeconds) (hs : I s) : I (modPump p f s) :=
  K.pump p f (.kept hh hr) hs

theorem kept_accrue (p : PumpId) (hs : I s) : I (accrue p s) := by
  refine K.pump p _ ⟨Nat.le_refl _, fun h => ?_⟩ hs
  show s.runSecondsNow p ≤ 4294967295
  unfold State.runSecondsNow
  dsimp only
  split
  · exact Nat.min_le_right _ _
  · exact h

theorem kept_accrueAll (ps : List PumpId) (hs : I s) : I (accrueAll ps s) :=
  kept_foldl (fun _ p => kept_accrue K p) ps hs

/-- An update of the arbiter that leaves its request list. -/
theorem kept_modArbiter (f : Arbiter → Arbiter) (hf : (f s.arbiter).requests = s.arbiter.requests) (hs : I s) :
    I (modArbiter f s) :=
  K.arbiter f (by rw [hf]) hs

/-! ### The arbiter (R123-R132) -/

theorem kept_recompute (hs : I s) : I (recompute s) := by
  have hw := kept_modArbiter K (s := s)
    (fun a => { a with window := windowFor s.siteLoad s.budget s.site.budgetMargin a.window }) rfl hs
  unfold recompute testOver
  split
  · exact kept_onlyIf _ (fun _ ht => K.raised _ _ _ _ (kept_modArbiter K _ rfl ht)) hw
  · exact kept_onlyIf _ (fun _ ht => K.cleared _ _ (kept_modArbiter K _ rfl ht)) hw

theorem kept_stopCore (p : PumpId) (hs : I s) : I (stopCore p s) := kept_modPump K p _ rfl rfl (kept_accrue K p hs)

theorem kept_startCore (p : PumpId) (u : Urgency) (hs : I s) : I (startCore p u s) :=
  kept_modPump K p _ rfl rfl (kept_accrue K p hs)

theorem kept_dropRequest (h : HouseId) (hs : I s) : I (dropRequest h s) :=
  K.arbiter _ (List.filter_sublist.map _) hs

theorem kept_recordGrant (e : Request) (hs : I s) : I (recordGrant e s) :=
  kept_modHouse K _ _ (kept_modArbiter K _ rfl hs)

variable {k : Ctx} (hk : k.Holds I)

include hk

theorem kept_derive (forced : Bool) (h : HouseId) (hs : I s) : I (derive k forced h s) := by
  unfold derive
  split
  · exact hk _ (K.placed forced h hs)
  · exact hs

theorem kept_derivePump (p : PumpId) (hs : I s) : I (derivePump k p s) :=
  kept_atHouseOf p (fun h _ => kept_derive K hk false h) hs

theorem kept_shedLoop (fuel : Nat) (hs : I s) : I (shedLoop k fuel s) := by
  induction fuel generalizing s with
  | zero => exact hs
  | succ fuel ih =>
    unfold shedLoop
    split
    · exact kept_modArbiter K _ rfl hs
    · split
      · exact kept_modArbiter K _ rfl hs
      · exact ih (kept_derivePump K hk _ (kept_markPump K _ (kept_stopCore K _ hs)))

theorem kept_shed (hs : I s) : I (shed k s) := by
  unfold shed
  split
  · exact kept_shedLoop K hk 33 hs
  · exact hs

theorem kept_grant (e : Request) (hs : I s) : I (grant k e s) :=
  kept_derive K hk false _ (kept_mark K _ (kept_shed K hk (kept_recompute K (kept_recordGrant K e
    (kept_startCore K _ _ (kept_dropRequest K _ hs))))))

theorem kept_consider (hs : I s) : I (consider k s) := by
  unfold consider
  split
  · split
    · exact hs
    · exact kept_grant K hk _ hs
  · exact hs

theorem kept_loadFell (hs : I s) : I (loadFell k s) := kept_consider K hk (kept_recompute K hs)

theorem kept_loadRose (hs : I s) : I (loadRose k s) :=
  kept_shed K hk (kept_onlyIf _ (fun _ => kept_consider K hk) (kept_recompute K hs))

theorem kept_loadChanged (before : Nat) (hs : I s) : I (loadChanged k before s) := by
  unfold loadChanged
  split
  · exact kept_loadRose K hk hs
  · split
    · exact kept_loadFell K hk hs
    · exact hs

theorem kept_arbiterLatch (hs : I s) : I (arbiterLatch k s) :=
  kept_shed K hk (kept_consider K hk (kept_recompute K hs))

theorem kept_placeRequest (h : HouseId) (p : PumpId) (u : Urgency) (hs : I s) : I (placeRequest k h p u s) :=
  kept_onlyIf k.joins (fun _ => kept_consider K hk) (K.requested h p u hs)

omit hk

/-! ### Pump supervision (R47-R57, R63, R64) -/

theorem kept_endFlight (p : PumpId) (hs : I s) : I (endFlight p s) :=
  kept_atHouseOf p (fun h _ => kept_modHouse K h _) hs

theorem kept_undoCore (p : PumpId) (hs : I s) : I (undoCore p s) :=
  kept_endFlight K p (kept_modPump K p _ rfl rfl (kept_accrue K p hs))

theorem kept_failCore (p : PumpId) (hs : I s) : I (failCore p s) :=
  kept_endFlight K p (kept_modPump K p _ rfl rfl (kept_accrue K p hs))

theorem kept_runOnCore (p : PumpId) (hs : I s) : I (runOnCore p s) := kept_modPump K p _ rfl rfl (kept_accrue K p hs)

theorem kept_clearStopFail (held : Bool) (p : PumpId) (hs : I s) : I (clearStopFail held p s) :=
  kept_onlyIf held (fun _ => K.cleared _ _) hs

theorem kept_clearStartFail (failed : Bool) (p : PumpId) (hs : I s) : I (clearStartFail failed p s) :=
  kept_onlyIf failed (fun _ => K.cleared _ _) hs

theorem kept_raisePump (a : AlarmKind) (p : PumpId) (hs : I s) : I (raisePump a p s) := K.raised _ _ _ _ hs

theorem kept_adoptCore (p : PumpId) (hs : I s) : I (adoptCore p s) := kept_modPump K p _ rfl rfl hs

theorem kept_serviceReturn (p : PumpId) (hs : I s) : I (serviceReturn p s) := by
  unfold serviceReturn
  dsimp only
  split
  · exact hs
  · exact kept_clearStartFail K _ p (kept_markPump K p (kept_modPump K p _ rfl rfl hs))

theorem kept_serviceWithdraw (p : PumpId) (hs : I s) : I (serviceWithdraw p s) := by
  unfold serviceWithdraw
  dsimp only
  split
  · exact hs
  · exact kept_clearStartFail K _ p (kept_markPump K p (kept_modPump K p _ rfl rfl hs))

theorem kept_applyFault (p : PumpId) (fault : Nat) (hs : I s) : I (applyFault p fault s) := by
  have ht := kept_onlyIf ((((s.pump p).fault.getD 0) != 0) != (fault != 0)) (I := I) (fun _ => kept_markPump K p)
    (kept_modPump K p (fun q => { q with fault := some fault }) rfl rfl hs)
  unfold applyFault
  dsimp only
  split
  · exact kept_raisePump K _ p ht
  · split
    · exact K.cleared _ _ ht
    · exact ht

theorem kept_releasePump (p : PumpId) (hs : I s) : I (releasePump p s) := by
  unfold releasePump
  dsimp only
  split
  · split
    · exact kept_markPump K p (kept_undoCore K p hs)
    · exact hs
  · split
    · exact kept_clearStopFail K _ p (kept_markPump K p (kept_runOnCore K p hs))
    · split
      · exact kept_markPump K p (kept_runOnCore K p hs)
      · exact hs
  · exact kept_modPump K p _ rfl rfl hs
  · exact hs
  · exact hs
  · exact hs

theorem kept_restartConfirm (p : PumpId) (hs : I s) : I (restartConfirm p s) :=
  kept_modPump K p _ (by split <;> rfl) (by split <;> rfl) hs

theorem kept_holdPumps (held : Bool) (h : HouseId) (hs : I s) : I (holdPumps held h s) :=
  kept_foldl (fun _ p ht => kept_modPump K p _ rfl rfl (kept_accrue K p ht)) _ hs

theorem kept_houseHeard (h : HouseId) (hs : I s) : I (houseHeard h s) := by
  have hheard := kept_modStation K h (fun _ => ⟨.heard, s.now⟩) hs
  unfold houseHeard
  split
  · exact hheard
  · exact kept_mark K h (kept_foldl (fun _ p => kept_restartConfirm K p) _ (kept_holdPumps K false h (K.cleared _ _ hheard)))

theorem kept_stationHeardFrom (src : Nat) (hs : I s) : I (stationHeardFrom src s) := by
  unfold stationHeardFrom
  split
  · exact hs
  · exact kept_foldl (fun _ h => kept_houseHeard K h) _ hs

include hk

theorem kept_stopRequest (p : PumpId) (hs : I s) : I (stopRequest k p s) := by
  unfold stopRequest
  split
  · exact kept_derivePump K hk p (kept_markPump K p (kept_shed K hk (kept_stopCore K p hs)))
  · exact hs

theorem kept_undoStart (p : PumpId) (hs : I s) : I (undoStart k p s) :=
  kept_derivePump K hk p (kept_markPump K p (kept_loadFell K hk (kept_undoCore K p hs)))

theorem kept_withdrawStart (p : PumpId) (hs : I s) : I (withdrawStart k p s) := by
  unfold withdrawStart
  split
  · exact kept_undoStart K hk p hs
  · exact hs

theorem kept_adopt (p : PumpId) (hs : I s) : I (adopt k p s) :=
  kept_derivePump K hk p (kept_clearStartFail K _ p
    (kept_onlyIf _ (fun _ => kept_markPump K p) (kept_adoptCore K p hs)))

theorem kept_adoptHouse (h : HouseId) (hs : I s) : I (adoptHouse k h s) := kept_foldl (fun _ p => kept_adopt K hk p) _ hs

theorem kept_foundRunning (p : PumpId) (hs : I s) : I (foundRunning k p s) :=
  kept_derivePump K hk p (kept_onlyIf _ (fun _ => kept_raisePump K _ p) (kept_clearStartFail K _ p
    (kept_markPump K p (kept_loadRose K hk (kept_onlyIf _ (fun _ => kept_adoptCore K p)
      (kept_modPump K p _ rfl rfl (kept_accrue K p hs)))))))

theorem kept_startConfirmed (p : PumpId) (hs : I s) : I (startConfirmed k p s) :=
  kept_derivePump K hk p (kept_markPump K p (kept_endFlight K p (kept_modPump K p _ rfl rfl (kept_accrue K p hs))))

theorem kept_foundStopped (p : PumpId) (hs : I s) : I (foundStopped k p s) :=
  kept_derivePump K hk p (kept_markPump K p (kept_modPump K p _ rfl rfl (kept_accrue K p hs)))

theorem kept_stopSeen (p : PumpId) (hs : I s) : I (stopSeen k p s) :=
  kept_derivePump K hk p (kept_onlyIf _ (fun _ => kept_raisePump K _ p) (kept_clearStopFail K _ p
    (kept_markPump K p (kept_loadFell K hk (kept_modPump K p _ rfl rfl (kept_accrue K p hs))))))

theorem kept_applyFeedback (p : PumpId) (running : Bool) (hs : I s) : I (applyFeedback k p running s) := by
  unfold applyFeedback
  split
  · exact kept_foundRunning K hk p hs
  · exact kept_foundRunning K hk p hs
  · exact kept_startConfirmed K hk p hs
  · exact kept_foundStopped K hk p hs
  · exact kept_stopSeen K hk p hs
  · exact kept_stopSeen K hk p hs
  all_goals exact hs

theorem kept_leaveRemote (p : PumpId) (hs : I s) : I (leaveRemote k p s) := by
  unfold leaveRemote
  dsimp only
  split
  · exact kept_modPump K p _ rfl rfl hs
  · exact kept_withdrawStart K hk p hs
  · split
    · exact kept_clearStopFail K _ p (kept_markPump K p (kept_shed K hk (kept_runOnCore K p hs)))
    · exact hs
  all_goals exact hs

theorem kept_enterRemote (p : PumpId) (hs : I s) : I (enterRemote k p s) := by
  unfold enterRemote
  split
  · exact kept_adopt K hk p hs
  · exact hs

theorem kept_applyPanel (p : PumpId) (panel : Panel) (hs : I s) : I (applyPanel k p panel s) := by
  have ht := kept_markPump K p (kept_modPump K p (fun q => { q with panel := some panel }) rfl rfl hs)
  unfold applyPanel
  dsimp only
  split
  · exact hs
  · refine kept_derivePump K hk p ?_
    split
    · exact kept_leaveRemote K hk p ht
    · split
      · exact kept_enterRemote K hk p ht
      · exact ht

theorem kept_pumpRecord (p : PumpId) (run panel fault : Nat) (hs : I s) : I (pumpRecord k p run panel fault s) := by
  unfold pumpRecord
  split
  · exact hs
  · split
    · exact hs
    · exact kept_applyFeedback K hk p _ (kept_applyFault K p fault (kept_applyPanel K hk p _ hs))

end

end Sys2Proof.Machine

/-! ## Levels, houses and the clock keep such an invariant -/

namespace Sys2Proof.Machine

section

variable {I : State → Prop} {s : State} (K : Kept I)

include K

/-! ### Levels (R26-R42) -/

theorem kept_testEmerg (r : ResId) (hs : I s) : I (testEmerg r s) := by
  have ht := kept_modRes K r (fun x => { x with emergLow := s.isEmergLow r }) hs
  unfold testEmerg
  dsimp only
  split
  · exact K.raised _ _ _ _ ht
  · split
    · exact K.cleared _ _ ht
    · exact ht

theorem kept_levelMoved (r : ResId) (hs : I s) : I (levelMoved r s) := kept_markAll K _ (kept_testEmerg K r hs)

theorem kept_clearSourceAlarm (was : Source) (r : ResId) (hs : I s) : I (clearSourceAlarm was r s) := by
  cases was with
  | estimated => exact K.cleared _ _ hs
  | lost => exact K.cleared _ _ hs
  | noData => exact hs
  | live => exact hs

theorem kept_accept (r : ResId) (level : Nat) (hs : I s) : I (accept r level s) :=
  kept_levelMoved K r (kept_clearSourceAlarm K _ r (kept_modRes K r _ hs))

theorem kept_stepCheck (r : ResId) (level : Nat) (hs : I s) : I (stepCheck r level s) := by
  unfold stepCheck
  dsimp only
  split
  · exact kept_accept K r level hs
  · exact kept_modRes K r _ hs

theorem kept_levelRecord (r : ResId) (raw : Nat) (flag : Bool) (hs : I s) : I (levelRecord r raw flag s) := by
  have ht := kept_modRes K r (fun x => { x with lastRaw := some raw }) hs
  unfold levelRecord
  dsimp only
  split
  · exact K.raised _ _ _ _ (kept_modRes K r _ ht)
  · exact kept_stepCheck K r _ (kept_onlyIf _ (fun _ => K.cleared _ _) (kept_modRes K r _ ht))

theorem kept_loseLevel (r : ResId) (hs : I s) : I (loseLevel r s) :=
  kept_levelMoved K r (K.raised _ _ _ _ (kept_onlyIf _ (fun _ => K.cleared _ _) (kept_modRes K r _ hs)))

theorem kept_silenceOver (r : ResId) (hs : I s) : I (silenceOver r s) := by
  unfold silenceOver
  split
  · exact kept_levelMoved K r (K.raised _ _ _ _ (kept_modRes K r _ hs))
  · exact kept_loseLevel K r hs

theorem kept_watchEstimate (r : ResId) (hs : I s) : I (watchEstimate r s) := by
  unfold watchEstimate
  split
  · exact kept_loseLevel K r hs
  · exact hs

theorem kept_estimateOnce (r : ResId) (hs : I s) : I (estimateOnce r s) :=
  kept_onlyIf _ (fun _ => kept_levelMoved K r) (kept_modRes K r _ hs)

theorem kept_stationSilenced (h : HouseId) (hs : I s) : I (stationSilenced h s) :=
  kept_mark K h (kept_foldl (fun _ r => kept_watchEstimate K r) _
    (kept_holdPumps K true h (K.raised _ _ _ _ (kept_modStation K h _ hs))))

/-! ### The evaluation of a house (R80-R113) -/

theorem kept_setWait (h : HouseId) (w : WaitKind) (m : Option Second) (hs : I s) : I (setWait h w m s) :=
  kept_modHouse K h _ hs

theorem kept_judgeSuction (h : HouseId) (hs : I s) : I (judgeSuction h s) := by
  unfold judgeSuction
  dsimp only
  split
  · exact hs
  · split
    · split
      · exact K.raised _ _ _ _ (kept_modHouse K h _ hs)
      · split
        · exact K.cleared _ _ (kept_modHouse K h _ hs)
        · exact kept_modHouse K h _ hs
    · exact hs

theorem kept_judgeOverflow (h : HouseId) (hs : I s) : I (judgeOverflow h s) := by
  unfold judgeOverflow
  dsimp only
  split
  · exact K.raised _ _ _ _ (kept_modHouse K h _ hs)
  · split
    · exact K.cleared _ _ (kept_modHouse K h _ hs)
    · exact kept_modHouse K h _ hs

theorem kept_judge (h : HouseId) (hs : I s) : I (judge h s) := by
  unfold judge judgeProtection
  exact kept_modHouse K h _ (kept_judgeOverflow K h (kept_judgeSuction K h (kept_modHouse K h _ hs)))

theorem kept_dropStart (h : HouseId) (hs : I s) : I (dropStart h s) := kept_modHouse K h _ (kept_dropRequest K h hs)

theorem kept_passPhase (h : HouseId) (hs : I s) : I (passPhase h s) :=
  have expire : ∀ t, I t → I (expirePhase h t) := fun _ ht => kept_mark K h (kept_modHouse K h _ ht)
  kept_onlyIf _ expire (expire s hs)

theorem kept_judgePhase (h : HouseId) (hs : I s) : I (judgePhase h s) := by
  unfold judgePhase
  split
  · exact kept_modHouse K h _ hs
  · unfold judgeFallback
    dsimp only
    split
    · exact kept_modHouse K h _ hs
    · exact kept_modHouse K h _ hs
    · split
      · exact kept_passPhase K h hs
      · exact kept_modHouse K h _ hs

theorem kept_setDemand (h : HouseId) (hs : I s) : I (setDemand h s) := by
  unfold setDemand setNeed setTarget
  exact kept_modHouse K h _ (kept_modHouse K h _ (kept_judgePhase K h hs))

theorem kept_endChange (h : HouseId) (m : Option Second) (hs : I s) : I (endChange h m s) := kept_modHouse K h _ hs

theorem kept_readChoice (h : HouseId) (old : PumpId) (hs : I s) : I (readChoice h old s) :=
  kept_accrue K old (kept_accrueAll K _ hs)

theorem kept_setShort (h : HouseId) (now : Bool) (hs : I s) : I (setShort h now s) := by
  unfold setShort
  dsimp only
  split
  · exact K.raised _ _ _ _ (kept_modHouse K h _ hs)
  · split
    · exact K.cleared _ _ (kept_modHouse K h _ hs)
    · exact kept_modHouse K h _ hs

variable {k : Ctx} (hk : k.Holds I)

include hk

theorem kept_withdrawFlight (h : HouseId) (hs : I s) : I (withdrawFlight k h s) := by
  unfold withdrawFlight
  split
  · exact hs
  · exact hs
  · exact kept_dropStart K h hs
  · exact kept_withdrawStart K hk _ hs

theorem kept_protect (h : HouseId) (hs : I s) : I (protect k h s) :=
  kept_withdrawFlight K hk h (kept_foldl (fun _ p => kept_stopRequest K hk p) _ (kept_modHouse K h _ hs))

theorem kept_requestStart (h : HouseId) (p : PumpId) (u : Urgency) (hs : I s) : I (requestStart k h p u s) :=
  kept_placeRequest K hk h p u (kept_modHouse K h _ hs)

theorem kept_requestBest (h : HouseId) (hs : I s) : I (requestBest k h s) := by
  unfold requestBest
  dsimp only
  split
  · exact kept_requestStart K hk h _ _ (kept_accrueAll K _ hs)
  · exact kept_modHouse K h _ (kept_onlyIf _ (fun _ => kept_dropRequest K h) (kept_accrueAll K _ hs))

theorem kept_decideStart (h : HouseId) (hs : I s) : I (decideStart k h s) := by
  unfold decideStart
  dsimp only
  split
  · exact hs
  · split
    · split
      · exact kept_requestBest K hk h hs
      · exact kept_setWait K h _ _ hs
    · exact kept_requestBest K hk h (kept_modHouse K h _ hs)
    · exact hs
    · exact hs

theorem kept_decideStop (h : HouseId) (count : Nat) (excluded : List PumpId) (hs : I s) :
    I (decideStop k h count excluded s).1 := by
  have wait (due : Bool) (ps : List PumpId) :
      I (if due then (setWait h .minRun (s.minRunEnd ps) s, Stopped.no) else (s, Stopped.no)).1 := by
    split
    · exact kept_setWait K h _ _ hs
    · exact hs
  unfold decideStop
  dsimp only
  split
  · exact kept_stopRequest K hk _ hs
  · split
    · exact kept_stopRequest K hk _ (kept_accrueAll K _ hs)
    · exact wait _ _

theorem kept_decideWithdraw (h : HouseId) (hs : I s) : I (decideWithdraw k h s).1 := by
  cases hstart : (s.house h).start <;> simp only [decideWithdraw, hstart]
  case none => exact hs
  case transmitted => exact hs
  case requested =>
    split
    · exact kept_dropStart K h hs
    · exact hs
  case granted p =>
    split
    · dsimp only; exact kept_undoStart K hk p hs
    · exact hs

theorem kept_stepApart (h : HouseId) (count : Nat) (excluded : List PumpId) (hs : I s) :
    I (stepApart k h count excluded s).1 := by
  have hw := kept_decideWithdraw K hk h hs
  unfold stepApart
  split
  · next t _ e => rw [e] at hw; exact hw
  · next t _ e =>
    rw [e] at hw
    have hd := kept_decideStop K hk h count excluded hw
    split
    · next u e' => rw [e'] at hd; exact hd
    · next u e' => rw [e'] at hd; exact hd
    · next u e' =>
      rw [e'] at hd
      dsimp only
      split
      · exact hd
      · exact kept_decideStart K hk h hd

theorem kept_stepOutside (h : HouseId) (hs : I s) : I (stepOutside k h s).1 := kept_stepApart K hk h _ _ hs

theorem kept_stopInChange (h : HouseId) (old new : PumpId) (hs : I s) : I (stopInChange k h old new s).1 :=
  kept_decideStop K hk h _ _ hs

theorem kept_rechoose (h : HouseId) (old : PumpId) (hs : I s) : I (rechoose k h old s).1 := by
  have ht := kept_readChoice K h old hs
  unfold rechoose
  dsimp only
  split
  · exact kept_requestStart K hk h _ _ (kept_modHouse K h _ ht)
  · exact kept_stepOutside K hk h (kept_endChange K h _ (kept_dropStart K h ht))

theorem kept_changeFalls (h : HouseId) (old new : PumpId) (hs : I s) : I (changeFalls k h old new s).1 := by
  unfold changeFalls
  split
  · exact kept_stepOutside K hk h (kept_endChange K h _ (kept_dropStart K h hs))
  · split
    · dsimp only; exact kept_undoStart K hk _ (kept_endChange K h _ hs)
    · exact kept_stopInChange K hk h old new hs
  · exact kept_stopInChange K hk h old new hs
  · exact kept_stopInChange K hk h old new hs

theorem kept_changeDemand (h : HouseId) (old new : PumpId) (hs : I s) : I (changeDemand k h old new s).1 := by
  unfold changeDemand
  dsimp only
  split
  · exact kept_stepOutside K hk h (kept_endChange K h _ hs)
  · split
    · exact kept_changeFalls K hk h old new hs
    · split
      · exact kept_rechoose K hk h old hs
      all_goals exact hs

theorem kept_changeFailed (h : HouseId) (hs : I s) : I (changeFailed k h s).1 :=
  kept_stepOutside K hk h (kept_endChange K h _ hs)

theorem kept_stepStarting (h : HouseId) (old new : PumpId) (hs : I s) : I (stepStarting k h old new s).1 := by
  unfold stepStarting changeConfirmed changeWithdrawn
  dsimp only
  split
  · exact kept_stepOutside K hk h (kept_endChange K h _ hs)
  · split
    · split
      · dsimp only; exact kept_undoStart K hk _ (kept_endChange K h _ hs)
      · exact kept_changeDemand K hk h old new hs
    · split
      · split
        · exact kept_stepApart K hk h _ _ (kept_endChange K h _ hs)
        · dsimp only; exact kept_modHouse K h _ (kept_stopRequest K hk old hs)
      · exact kept_changeFailed K hk h hs
    · split
      · exact kept_changeFailed K hk h hs
      · exact kept_changeDemand K hk h old new hs
    all_goals exact kept_changeDemand K hk h old new hs

theorem kept_stepStopping (h : HouseId) (old new : PumpId) (hs : I s) : I (stepStopping k h old new s).1 := by
  unfold stepStopping
  split
  · exact kept_setWait K h _ _ (kept_stopInChange K hk h old new hs)
  · exact kept_stepOutside K hk h (kept_endChange K h _ hs)

theorem kept_stepSix (h : HouseId) (hs : I s) : I (stepSix k h s).1 := by
  unfold stepSix
  split
  · exact kept_stepOutside K hk h hs
  · exact kept_stepStarting K hk h _ _ hs
  · exact kept_stepStopping K hk h _ _ hs

theorem kept_rotationTest (h : HouseId) (old : PumpId) (hs : I s) : I (rotationTest k h old s) := by
  have ht := kept_readChoice K h old hs
  unfold rotationTest
  dsimp only
  split
  · exact kept_modHouse K h _ ht
  · split
    · exact kept_requestStart K hk h _ _ (kept_modHouse K h _ ht)
    · exact kept_setWait K h _ _ ht

theorem kept_rotation (h : HouseId) (hs : I s) : I (rotation k h s) := by
  unfold rotation
  split
  · split
    · exact hs
    · dsimp only
      split
      · exact kept_rotationTest K hk h _ (kept_modHouse K h _ hs)
      · exact kept_modHouse K h _ hs
  · exact kept_modHouse K h _ hs

theorem kept_steps (h : HouseId) (hs : I s) : I (steps k h s) := by
  have ht := kept_stepSix K hk h hs
  unfold steps
  split
  · next t e => rw [e] at ht; exact ht
  · next t e => rw [e] at ht; exact kept_setShort K h _ ht
  · next t e => rw [e] at ht; exact kept_setShort K h _ (kept_rotation K hk h ht)

theorem kept_evaluate (h : HouseId) (hs : I s) : I (evaluate k h s) := by
  have hj := kept_judge K h hs
  unfold evaluate timeStagger timeRotation
  refine kept_modHouse K h _ (kept_modHouse K h _ ?_)
  split
  · exact kept_setShort K h _ (kept_setDemand K h (kept_protect K hk h hj))
  · exact kept_steps K hk h (kept_setWait K h _ _ (kept_setDemand K h hj))

theorem kept_takeMark (h : HouseId) (hs : I s) : I (takeMark k h s) := by
  unfold takeMark
  split
  · exact kept_evaluate K hk h hs
  · exact hs

/-! ### Latches (R69) -/

theorem kept_latch (source : Option CalId) (cause : LatchCause) (hs : I s) : I (latch k source cause s) := by
  have hp : I (setPeriod source cause s) := K.same hs rfl
  unfold latch handLatch
  refine kept_arbiterLatch K hk ?_
  split
  · exact kept_foldl (fun _ h => kept_takeMark K hk h) _ hp
  · exact hp

theorem kept_latchNow (cause : LatchCause) (hs : I s) : I (latchNow k cause s) := kept_latch K hk _ cause hs

end

end Sys2Proof.Machine

/-! ## Every command keeps such an invariant -/

namespace Sys2Proof.Machine

/-- A number of at most four bytes stays within 32 bits. -/
theorem numOf_le {bs : List Byte} (h : bs.length ≤ 4) : numOf bs ≤ 4294967295 := by
  have key (l : List Byte) (n : Nat) : l.foldl (fun n b => n * 256 + b.toNat) n < (n + 1) * 256 ^ l.length := by
    induction l generalizing n with
    | nil => simp
    | cons b rest ih =>
      have hb : b.toNat < 256 := b.isLt
      calc (b :: rest).foldl (fun n b => n * 256 + b.toNat) n
          < (n * 256 + b.toNat + 1) * 256 ^ rest.length := ih _
        _ ≤ ((n + 1) * 256) * 256 ^ rest.length := Nat.mul_le_mul_right _ (by omega)
        _ = (n + 1) * 256 ^ (b :: rest).length := by rw [List.length_cons, Nat.pow_succ']; ring
  have hpow : 256 ^ bs.length ≤ 256 ^ 4 := Nat.pow_le_pow_right (by omega) h
  have hlt := key bs 0
  unfold numOf
  omega

/-- An invariant that the operations on the ports, the dispatch queue, the store and the engine state keep too. -/
structure KeptWhole (I : State → Prop) : Prop extends Kept I where
  taken : ∀ {s : State}, I s → I (fieldTake s)
  completed : ∀ {s : State} (p : Port), I s → I (completeTx p s)
  forwarded : ∀ {s : State} (p : Port) (bytes : List Byte), I s → I (forward p bytes s)
  port : ∀ {s : State} (p : Port) (f : PortState → PortState), (∀ q, (f q).fwd = q.fwd) →
    (∀ q, (f q).runCount = q.runCount) → (∀ q : PortState, q.counters.Bounded → (f q).counters.Bounded) →
    I s → I (modPort p f s)
  noticed : ∀ {s : State} (b : NoticeBody), I s → I (pushNotice b s)
  responded : ∀ {s : State} (c : Byte) (r : Result) (d : RespData), I s → I (respond c r d s)
  acknowledged : ∀ {s : State} (k : AlarmKind) (o : Nat), I s → I (acknowledge k o s)
  alarms : ∀ {s : State} (f : Alarms → Alarms), (s.alarms.Bounded → (f s.alarms).Bounded) → I s → I (modAlarms f s)
  released : ∀ {s : State}, I s → I (releaseAll s)
  releasedHouse : ∀ {s : State} (h : HouseId), I s → I (releaseHouse h s)
  refreshed : ∀ {s : State} (f : Dispatcher → Dispatcher), (∀ d, (f d).queue = d.queue) →
    (∀ d, (f d).inTx = d.inTx) → I s → I (modDispatcher f s)
  storing : ∀ {s : State} (x : StoreTx), (∀ i, x ≠ .restoring i) → I s → I { s with storeTx := x }
  running : ∀ {s : State} (e : EngineState), s.engine ≠ .startup → e ≠ .startup → I s → I { s with engine := e }
  written : ∀ {s : State} (t : TableId) (first : Nat) (ws : List (List Nat)), s.engine ≠ .startup → I s →
    I (writeTables t first ws s)
  restarted : ∀ {s : State}, I s → I (resetLive s)
  powered : ∀ {s : State} (a : Byte) (f r : BitVec 2), I s → I (powerUpWith a f r s)
  read : ∀ {s : State} (r : StoreRead), I s → I (imageRead r s)

section

variable {I : State → Prop} {s : State} (W : KeptWhole I)

include W

theorem holds_live : Ctx.live.Holds I := fun _ hs => W.taken hs

/-! ### The engine (R20-R23, R96, R97, R145, R185) -/

theorem kept_startEngine (he : s.engine ≠ .startup) (hs : I s) : I (startEngine s) := by
  have K := W.toKept
  have hrun : I (enterRun s) := K.same (W.running .run he (by decide) hs) rfl
  have hadopted := kept_foldl (fun _ h => kept_adoptHouse K holds_starting h) (enterRun s).autoHouses hrun
  have hevaluated := kept_foldl (fun _ h => kept_takeMark K holds_starting h) (adoptAll (enterRun s)).autoHouses hadopted
  have hqueued := kept_foldl (fun _ h => K.placed true h) (evaluateAll (adoptAll (enterRun s))).autoHouses hevaluated
  exact W.taken (kept_consider K holds_quiet (kept_shed K holds_quiet (kept_recompute K hqueued)))

theorem kept_autoRun (he : s.engine ≠ .startup) (hs : I s) : I (autoRun s) := by
  have K := W.toKept
  unfold autoRun
  split
  · exact K.same hs rfl
  · split
    · exact kept_startEngine W (s := { s with autoStart := .done }) he (K.same hs rfl)
    · exact K.same hs rfl

theorem kept_releaseRecord (h : HouseId) (hs : I s) : I (releaseRecord h s) := by
  have K := W.toKept
  unfold releaseRecord houseBegins clearHouseAlarms
  exact kept_modHouse K h _ (kept_onlyIf _ (fun _ => K.cleared _ _) (kept_onlyIf _ (fun _ => K.cleared _ _)
    (kept_onlyIf _ (fun _ => K.cleared _ _) hs)))

theorem kept_handRelease (before : State) (hs : I s) : I (handRelease before s) :=
  kept_onlyIf _ (fun _ => kept_shed W.toKept (holds_live W)) (kept_loadChanged W.toKept (holds_live W) _ hs)

theorem kept_stopEngine (he : s.engine ≠ .startup) (hs : I s) : I (stopEngine s) := by
  have K := W.toKept
  have hempty : I (emptyArbiter { s with engine := .standby }) :=
    K.arbiter _ (List.nil_sublist _) (W.running .standby he (by decide) hs)
  have hreleased : I (refreshIdle (releaseAll (emptyArbiter { s with engine := .standby }))) :=
    W.refreshed _ (fun _ => rfl) (fun _ => rfl) (W.released hempty)
  have hpumps := kept_foldl (fun _ p => kept_releasePump K p) allPumps hreleased
  unfold stopEngine
  exact W.taken (kept_handRelease W s (kept_foldl (fun _ h => kept_releaseRecord W h) allHouses hpumps))

theorem kept_changeMode (h : HouseId) (m : Mode) (hs : I s) : I (changeMode h m s) := by
  have K := W.toKept
  unfold changeMode
  dsimp only
  split
  · exact hs
  · split
    · exact kept_modHouse K h _ hs
    · split
      · have hleft : I (fieldTake (releaseHouse h (dropRequest h (setMode h m s)))) :=
          W.taken (W.releasedHouse h (kept_dropRequest K h (kept_modHouse K h _ hs)))
        have hpumps := kept_foldl (fun _ p => kept_releasePump K p)
          ((fieldTake (releaseHouse h (dropRequest h (setMode h m s)))).pumpsOf h) hleft
        exact kept_handRelease W _ (kept_releaseRecord W h (W.refreshed _ (fun _ => rfl) (fun _ => rfl) hpumps))
      · split
        · exact kept_derive K (holds_live W) true h
            (kept_mark K h (kept_adoptHouse K holds_starting h (kept_modHouse K h _ hs)))
        · exact kept_modHouse K h _ hs

/-! ### Requests (R175-R185) -/

/-- What a request answers with its effects, where it is served. -/
def KeepsServed (I : State → Prop) (op : State → State × Reply) : Prop :=
  ∀ s : State, s.engine ≠ .startup → I s → I (op s).1

theorem kept_asked (code : Byte) {op : State → State × Reply} (hop : KeepsServed I op) (hs : I s) :
    I (asked code op s) := by
  unfold asked answer
  split
  · exact hs
  · split
    · exact W.responded _ _ _ hs
    · next he =>
      split
      · exact hop s he hs
      · exact W.responded _ _ _ (hop s he hs)

omit W in
theorem kept_done (hs : I s) : I (done s).1 := hs

omit W in
theorem keepsServed_refuse (r : Result) : KeepsServed I (refuse r) := fun _ _ hs => hs

theorem keepsServed_readTable (table index count : Byte) : KeepsServed I (readTable table index count) := by
  intro s _ hs
  unfold readTable
  split
  · exact hs
  · split
    · exact hs
    · split
      · exact hs
      · exact W.same hs rfl

theorem keepsServed_writeChecked (t : TableId) (first : Nat) (ws : List (List Nat)) :
    KeepsServed I (writeChecked t first ws) := by
  intro s he hs
  unfold writeChecked
  split
  · exact hs
  · split
    · exact hs
    · exact W.same (W.written t first ws he hs) rfl

theorem keepsServed_writeTable (table index count : Byte) (entries : List Byte) :
    KeepsServed I (writeTable table index count entries) := by
  intro s he hs
  unfold writeTable
  split
  · exact hs
  · split
    · exact hs
    all_goals
      split
      · exact hs
      · split
        · exact hs
        · split
          · exact keepsServed_writeChecked W _ _ _ s he hs
          · exact hs

theorem kept_afterView (view first : Nat) (hs : I s) : I (afterView view first s) := by
  unfold afterView
  split
  · exact W.alarms _ (fun h => ⟨h.entries, h.keys, h.repeats, h.notices⟩) hs
  · exact hs

theorem keepsServed_readLive (view first : Byte) : KeepsServed I (readLive view first) := by
  intro s _ hs
  unfold readLive
  split
  · exact hs
  · split
    · exact hs
    · refine kept_afterView W _ _ ?_
      unfold beforeView
      split
      · exact kept_accrueAll W.toKept _ hs
      · exact hs

theorem keepsServed_setTime (day second : Nat) : KeepsServed I (setTime day second) := by
  intro s _ hs
  unfold setTime
  split
  · exact hs
  · exact kept_done (kept_latchNow W.toKept (holds_live W) _ (W.same hs rfl))

theorem kept_cancelAuto (hs : I s) : I (cancelAuto s) := by
  unfold cancelAuto
  split
  · exact W.same hs rfl
  · exact hs

theorem keepsServed_askStart : KeepsServed I askStart := by
  intro s he hs
  have hc := kept_cancelAuto W hs
  have hce : (cancelAuto s).engine ≠ .startup := by rw [cancelAuto_eq]; exact he
  unfold askStart
  split
  · exact hs
  · dsimp only
    split
    · exact W.same hc rfl
    · exact kept_done (kept_startEngine W hce hc)

theorem keepsServed_askStop : KeepsServed I askStop := by
  intro s he hs
  show I (if s.engine = .run then stopEngine s else cancelAuto s)
  split
  · exact kept_stopEngine W he hs
  · exact kept_cancelAuto W hs

theorem keepsServed_askMode (house mode : Byte) : KeepsServed I (askMode house mode) := by
  intro s _ hs
  unfold askMode
  split
  · exact hs
  · exact hs
  · exact kept_done (kept_changeMode W _ _ hs)

omit W in
theorem keepsServed_askService (pump : Byte) {action : Option (PumpId → State → State)}
    (ha : ∀ f, action = some f → ∀ p t, I t → I (f p t)) : KeepsServed I (askService pump action) := by
  intro s _ hs
  unfold askService
  split
  · exact hs
  · exact hs
  · exact kept_done (ha _ rfl _ s hs)

theorem keepsServed_serviceAction (pump : Byte) (n : Nat) : KeepsServed I (askService pump (serviceAction n)) := by
  refine keepsServed_askService pump fun f hf p t ht => ?_
  unfold serviceAction at hf
  split at hf
  · cases hf; exact kept_serviceReturn W.toKept p ht
  · cases hf; exact kept_serviceWithdraw W.toKept p ht
  · cases hf

theorem keepsServed_askRunSeconds (pump : Byte) {value : Nat} (hv : value ≤ 4294967295) :
    KeepsServed I (askRunSeconds pump value) := by
  intro s _ hs
  unfold askRunSeconds
  split
  · exact hs
  · next p _ =>
    exact W.pump p (fun q => { q with runSeconds := value, accrualMark := s.now }) ⟨Nat.le_refl _, fun _ => hv⟩ hs

theorem keepsServed_askAckAll : KeepsServed I askAckAll := fun _ _ hs =>
  kept_done (kept_foldl (fun _ (e : AlarmEntry) => W.acknowledged e.kind e.object) _ hs)

theorem keepsServed_askAckByte (kind object : Byte) : KeepsServed I (askAckByte kind object) := by
  intro s he hs
  unfold askAckByte
  split
  · exact keepsServed_askAckAll W s he hs
  · unfold askAck
    split
    · exact hs
    · split
      · exact kept_done (W.acknowledged _ _ hs)
      · exact hs

theorem keepsServed_askRelatch : KeepsServed I askRelatch := fun _ _ hs =>
  kept_done (kept_latchNow W.toKept (holds_live W) _ hs)

theorem keepsServed_askSave : KeepsServed I askSave := by
  intro s _ hs
  have hbegun : I (beginSave s) :=
    W.same (W.storing (.saving 0) (by simp) (kept_accrueAll W.toKept allPumps hs)) rfl
  unfold askSave
  split
  · exact hs
  · exact hbegun
  · exact hbegun

theorem kept_restartEngine (hs : I s) : I (restartEngine s) := by
  have hkept : I (if s.engine = .run then releaseAll s else s) := by
    split
    · exact W.released hs
    · exact hs
  unfold restartEngine
  exact W.taken (kept_latchNow W.toKept holds_quiet _ (W.restarted (kept_accrueAll W.toKept _ hkept)))

theorem keepsServed_askRestart : KeepsServed I askRestart := by
  intro s _ hs
  unfold askRestart
  split
  · exact hs
  · exact kept_done (kept_restartEngine W hs)
  · exact kept_done (kept_restartEngine W hs)

/-- A request of each tag by its parameter bytes; any other number of them is refused. -/
theorem keepsServed_requestOf {tag : Nat} (hlo : 0x40 ≤ tag) (hhi : tag ≤ 0x4C) (c : List Byte) :
    KeepsServed I (requestOf tag c) := by
  have bad : KeepsServed I (refuse .badFormat) := keepsServed_refuse _
  interval_cases tag
  · match c with
    | [a, b, n] => exact keepsServed_readTable W a b n
    | [] | [_] | [_, _] | _ :: _ :: _ :: _ :: _ => exact bad
  · match c with
    | a :: b :: n :: e => exact keepsServed_writeTable W a b n e
    | [] | [_] | [_, _] => exact bad
  · match c with
    | [a, b] => exact keepsServed_readLive W a b
    | [] | [_] | _ :: _ :: _ :: _ => exact bad
  · match c with
    | [_, _, _, _, _] => exact keepsServed_setTime W _ _
    | [] | [_] | [_, _] | [_, _, _] | [_, _, _, _] | _ :: _ :: _ :: _ :: _ :: _ :: _ => exact bad
  · match c with
    | [] => exact keepsServed_askStart W
    | _ :: _ => exact bad
  · match c with
    | [] => exact keepsServed_askStop W
    | _ :: _ => exact bad
  · match c with
    | [h, m] => exact keepsServed_askMode W h m
    | [] | [_] | _ :: _ :: _ :: _ => exact bad
  · match c with
    | [p, _] => exact keepsServed_serviceAction W p _
    | [] | [_] | _ :: _ :: _ :: _ => exact bad
  · match c with
    | [p, _, _, _, _] => exact keepsServed_askRunSeconds W p (numOf_le (Nat.le_refl 4))
    | [] | [_] | [_, _] | [_, _, _] | [_, _, _, _] | _ :: _ :: _ :: _ :: _ :: _ :: _ => exact bad
  · match c with
    | [a, o] => exact keepsServed_askAckByte W a o
    | [] | [_] | _ :: _ :: _ :: _ => exact bad
  · match c with
    | [] => exact keepsServed_askRelatch W
    | _ :: _ => exact bad
  · match c with
    | [] => exact keepsServed_askSave W
    | _ :: _ => exact bad
  · match c with
    | [] => exact keepsServed_askRestart W
    | _ :: _ => exact bad

theorem kept_takeRequest (rs : List Rec) (hs : I s) : I (takeRequest rs s) := by
  refine kept_asked W _ (fun t he ht => ?_) hs
  unfold judgeRequest
  split
  · split
    · next htag =>
      obtain ⟨hlo, hhi⟩ := of_decide_eq_true htag
      exact keepsServed_requestOf W hlo hhi _ t he ht
    · exact ht
  · exact ht

/-! ### Reception (R165-R168) -/

theorem kept_countOn (p : Port) (f : Counters → Counters) (hf : ∀ c : Counters, c.Bounded → (f c).Bounded) (hs : I s) :
    I (countOn p f s) :=
  W.port p _ (fun _ => rfl) (fun _ => rfl) (fun q => hf q.counters) hs

theorem kept_setRx (p : Port) (rx : RxState) (buf : List Byte) (hs : I s) : I (setRx p rx buf s) :=
  W.port p _ (fun _ => rfl) (fun _ => rfl) (fun _ hc => hc) hs

theorem kept_takeRecord (src : Nat) (r : Rec) (hs : I s) : I (takeRecord src s r) := by
  unfold takeRecord takeLevel takePump
  split
  · split
    · split
      · exact hs
      · exact kept_levelRecord W.toKept _ _ _ hs
    · split
      · split
        · exact hs
        · exact kept_pumpRecord W.toKept (holds_live W) _ _ _ _ hs
      · exact hs
  · exact hs

theorem kept_routeGood (p : Port) (bytes : List Byte) (rs : List Rec) (hs : I s) : I (routeGood p bytes rs s) := by
  unfold routeGood
  split
  · have heard := kept_stationHeardFrom W.toKept (frameByte bytes 3).toNat hs
    refine W.forwarded _ _ ?_
    unfold routeField
    dsimp only
    split
    · exact kept_foldl (fun _ r => kept_takeRecord W _ r) rs heard
    · exact heard
  · unfold routeSup
    dsimp only
    split
    · exact kept_takeRequest W rs hs
    · split
      · exact W.noticed _ hs
      · exact W.forwarded _ _ hs

theorem kept_judgeFrame (p : Port) (bytes : List Byte) (hs : I s) : I (judgeFrame p bytes s) := by
  unfold judgeFrame
  split
  · exact kept_countOn W p _ (fun _ c => ⟨c.good, c.checkFail, bump_le _, c.abandon, c.forwardDrop, c.sent⟩) hs
  · split
    · exact kept_routeGood W p bytes _ (kept_countOn W p _
        (fun _ c => ⟨bump_le _, c.checkFail, c.lengthDrop, c.abandon, c.forwardDrop, c.sent⟩) hs)
    · exact W.forwarded p bytes (kept_countOn W p _
        (fun _ c => ⟨c.good, bump_le _, c.lengthDrop, c.abandon, c.forwardDrop, c.sent⟩) hs)

theorem kept_receiveByte (p : Port) (b : Byte) (hs : I s) : I (receiveByte p b s) := by
  unfold receiveByte
  dsimp only
  split
  · split
    · exact kept_setRx W p _ _ hs
    · exact hs
  · split
    · exact kept_setRx W p _ _ hs
    · exact kept_countOn W p _ (fun _ c => ⟨c.good, c.checkFail, bump_le _, c.abandon, c.forwardDrop, c.sent⟩)
        (kept_setRx W p _ _ hs)
  · exact kept_setRx W p _ _ hs
  · exact kept_judgeFrame W p _ (kept_setRx W p _ _ hs)

theorem kept_abandonFrame (p : Port) (hs : I s) : I (abandonFrame p s) := by
  unfold abandonFrame
  split
  · exact hs
  · exact kept_countOn W p _ (fun _ c => ⟨c.good, c.checkFail, c.lengthDrop, bump_le _, c.forwardDrop, c.sent⟩)
      (kept_setRx W p _ _ hs)

/-! ### The store and the clock (R65, R183) -/

theorem kept_endSave (ok : Bool) (hs : I s) : I (endSave ok s) :=
  W.responded _ _ _ (W.same (W.storing .idle (by simp) hs) rfl)

theorem kept_imageWritten (hs : I s) : I (imageWritten s) := by
  unfold imageWritten
  split
  · exact hs
  · exact hs
  · next i _ =>
    have ht : I { s with store := s.store.set i (.whole (s.saveContent.getD i [])) } := W.same hs rfl
    dsimp only
    split
    · next j _ => exact W.storing (.saving j) (by simp) ht
    · exact kept_endSave W true ht

theorem kept_saveFault (hs : I s) : I (saveFault s) := by
  unfold saveFault
  split
  · exact hs
  · exact hs
  · exact kept_endSave W false (W.same hs rfl)

theorem kept_advance (hs : I s) : I (advance s) := by
  have ht : I (tickCalendar { s with now := s.now + 1 }) := by
    unfold tickCalendar
    split
    · split
      · exact W.same hs rfl
      · exact W.same hs rfl
    · exact W.same hs rfl
  unfold advance
  dsimp only
  split
  · exact ht
  · exact kept_latch W.toKept (holds_live W) _ _ ht

/-! ### Expiries -/

omit W in
theorem kept_whenDue {due : Bool} {f : State → State} (hf : due = true → I (f s)) (hs : I s) : I (whenDue due f s) := by
  unfold whenDue
  split
  · next hd => exact hf hd
  · exact hs

theorem kept_startUnconfirmed (p : PumpId) (hs : I s) : I (startUnconfirmed p s) := by
  have K := W.toKept
  exact kept_derivePump K (holds_live W) p (kept_onlyIf _ (fun _ => kept_raisePump K _ p) (kept_markPump K p
    (kept_loadFell K (holds_live W) (kept_onlyIf _ (fun _ => kept_modPump K p _ rfl rfl) (kept_failCore K p hs)))))

theorem kept_stopUnconfirmed (p : PumpId) (hs : I s) : I (stopUnconfirmed p s) := by
  have K := W.toKept
  unfold stopUnconfirmed
  split
  · exact kept_derivePump K (holds_live W) p (kept_markPump K p (kept_shed K (holds_live W) (kept_runOnCore K p hs)))
  · exact kept_markPump K p (kept_raisePump K _ p (kept_modPump K p _ rfl rfl hs))

theorem kept_historyAged (p : PumpId) (hs : I s) : I (historyAged p s) :=
  kept_markPump W.toKept p (W.pump p _ ⟨by rw [List.length_tail]; exact Nat.sub_le _ _, id⟩ hs)

theorem kept_takeHouseMark (h : HouseId) (hs : I s) : I (takeHouseMark h s) := by
  unfold takeHouseMark
  split
  · exact kept_takeMark W.toKept (holds_live W) h (W.same hs rfl)
  · exact hs

theorem kept_requestAged (h : HouseId) (hs : I s) : I (requestAged h s) := by
  have houses : (s.arbiter.requests.map fun e =>
      if e.house = h then { e with aged := e.agedUp, ageMark := s.now } else e).map Request.house
        = s.arbiter.requests.map Request.house := by
    rw [List.map_map]
    refine List.map_congr_left fun e _ => ?_
    dsimp only [Function.comp]
    split <;> rfl
  exact kept_consider W.toKept (holds_live W) (W.arbiter _ (by rw [houses]) hs)

/-! ### The step -/

/-- Every command keeps the invariant. -/
theorem kept_exec (c : Instr) {t : State} (hs : I s) (ht : exec c s = .next t) : I t := by
  have K := W.toKept
  have hlive := holds_live W
  suffices h : ∃ u, exec c s = .next u ∧ I u by
    obtain ⟨u, hu, hI⟩ := h
    rw [hu] at ht
    cases ht
    exact hI
  cases c with
  | powerUp a f r => exact ⟨_, rfl, W.powered a f r hs⟩
  | frameArrival p b => exact ⟨_, rfl, kept_receiveByte W p b hs⟩
  | badLengthByte p b => exact ⟨_, rfl, kept_receiveByte W p b hs⟩
  | gapExpiry p => exact ⟨_, rfl, kept_abandonFrame W p hs⟩
  | framingError p => exact ⟨_, rfl, kept_abandonFrame W p hs⟩
  | mgmtRequestMalformed records =>
    refine ⟨_, rfl, ?_⟩
    split
    · exact hs
    · exact kept_takeRequest W _ hs
  | readTable a b n => exact ⟨_, rfl, kept_asked W _ (keepsServed_readTable W a b n) hs⟩
  | writeTable a b n e => exact ⟨_, rfl, kept_asked W _ (keepsServed_writeTable W a b n e) hs⟩
  | readLive a b => exact ⟨_, rfl, kept_asked W _ (keepsServed_readLive W a b) hs⟩
  | setTime d x => exact ⟨_, rfl, kept_asked W _ (keepsServed_setTime W _ _) hs⟩
  | engineStart => exact ⟨_, rfl, kept_asked W _ (keepsServed_askStart W) hs⟩
  | engineStop => exact ⟨_, rfl, kept_asked W _ (keepsServed_askStop W) hs⟩
  | houseMode h m => exact ⟨_, rfl, kept_asked W _ (keepsServed_askMode W h m) hs⟩
  | pumpServiceReturn p => exact ⟨_, rfl, kept_asked W _ (keepsServed_serviceAction W p 0) hs⟩
  | pumpServiceWithdraw p => exact ⟨_, rfl, kept_asked W _ (keepsServed_serviceAction W p 1) hs⟩
  | setRunSeconds p v =>
    exact ⟨_, rfl, kept_asked W _ (keepsServed_askRunSeconds W p (Nat.le_of_lt_succ v.isLt)) hs⟩
  | alarmAck a o => exact ⟨_, rfl, kept_asked W _ (keepsServed_askAckByte W a o) hs⟩
  | alarmAckAll o => exact ⟨_, rfl, kept_asked W _ (keepsServed_askAckAll W) hs⟩
  | relatch => exact ⟨_, rfl, kept_asked W _ (keepsServed_askRelatch W) hs⟩
  | save => exact ⟨_, rfl, kept_asked W _ (keepsServed_askSave W) hs⟩
  | restart => exact ⟨_, rfl, kept_asked W _ (keepsServed_askRestart W) hs⟩
  | storeImageWritten => exact ⟨_, rfl, kept_imageWritten W hs⟩
  | storeFault => exact ⟨_, rfl, kept_saveFault W hs⟩
  | restoreImageRead r => exact ⟨_, rfl, W.read r hs⟩
  | engineSecondAdvance => exact ⟨_, rfl, kept_advance W hs⟩
  | automaticStart =>
    refine ⟨_, rfl, kept_whenDue (fun hd => kept_autoRun W ?_ hs) hs⟩
    obtain ⟨-, he, -⟩ := autoDue_iff.mp hd
    rw [he]; decide
  | silenceExpiry r => exact ⟨_, rfl, kept_whenDue (fun _ => kept_silenceOver K r hs) hs⟩
  | lossExpiry r => exact ⟨_, rfl, kept_whenDue (fun _ => kept_loseLevel K r hs) hs⟩
  | estimateStep r => exact ⟨_, rfl, kept_whenDue (fun _ => kept_estimateOnce K r hs) hs⟩
  | stationSilenceExpiry h => exact ⟨_, rfl, kept_whenDue (fun _ => kept_stationSilenced K h hs) hs⟩
  | startConfirmExpiry p => exact ⟨_, rfl, kept_whenDue (fun _ => kept_startUnconfirmed W p hs) hs⟩
  | stopConfirmExpiry p => exact ⟨_, rfl, kept_whenDue (fun _ => kept_stopUnconfirmed W p hs) hs⟩
  | minRunExpiry p =>
    exact ⟨_, rfl, kept_whenDue
      (fun _ => kept_shed K hlive (kept_markPump K p (kept_modPump K p _ rfl rfl hs))) hs⟩
  | minOffExpiry p =>
    exact ⟨_, rfl, kept_whenDue (fun _ => kept_markPump K p (kept_modPump K p _ rfl rfl hs)) hs⟩
  | historyAgeing p => exact ⟨_, rfl, kept_whenDue (fun _ => kept_historyAged W p hs) hs⟩
  | houseEvaluation h => exact ⟨_, rfl, kept_takeHouseMark W h hs⟩
  | staggerExpiry h => exact ⟨_, rfl, kept_whenDue (fun _ => kept_mark K h (kept_modHouse K h _ hs)) hs⟩
  | fallbackPhaseExpiry h => exact ⟨_, rfl, kept_whenDue (fun _ => kept_passPhase K h hs) hs⟩
  | rotationExpiry h => exact ⟨_, rfl, kept_whenDue (fun _ => kept_mark K h (kept_modHouse K h _ hs)) hs⟩
  | requestAgeingExpiry h => exact ⟨_, rfl, kept_whenDue (fun _ => kept_requestAged W h hs) hs⟩
  | grantGapExpiry => exact ⟨_, rfl, kept_whenDue (fun _ => kept_consider K hlive hs) hs⟩
  | refreshExpiry h => exact ⟨_, rfl, kept_whenDue (fun _ => kept_derive K hlive true h hs) hs⟩
  | transmitCompletion p => exact ⟨_, rfl, W.completed p hs⟩
  | receivedByte p b => exact ⟨_, rfl, kept_receiveByte W p b hs⟩

/-- Every step keeps the invariant: the queue of commands is no part of it. -/
theorem kept_step {t : State} (hs : I s) (ht : step s = .next t) : I t := by
  unfold step at ht
  split at ht
  · cases ht; exact hs
  · next c rest _ =>
    have hrest : I { s with pending := rest } := W.same hs rfl
    exact kept_exec W c hrest ht

end

end Sys2Proof.Machine

/-! ## The bounds of the queues and of the pumps (R60, R61, R118, R134, R150, R157, R168-R172) -/

namespace Sys2Proof.Machine

/-! ### A structural write's effects at its objects (R12) -/

section

variable {I : State → Prop} {s : State} (K : Kept I)

include K

theorem kept_resWritten (old : ResEntry) (r : ResId) (hs : I s) : I (resWritten old r s) := by
  unfold resWritten
  dsimp only
  split
  · exact kept_onlyIf _ (fun _ => kept_markAll K _)
      (K.cleared _ _ (K.cleared _ _ (K.cleared _ _ (K.cleared _ _ (kept_modRes K r _ hs)))))
  · exact kept_onlyIf _ (fun _ => kept_estimateOnce K r)
      (kept_onlyIf _ (fun _ => kept_testEmerg K r) (kept_modRes K r _ hs))

theorem kept_pumpBegins (p : PumpId) (hs : I s) : I (pumpBegins p s) := by
  refine kept_foldl (fun _ a => K.cleared a p.val) _ (K.pump p _ ⟨?_, id⟩ hs)
  dsimp only
  split
  · exact Nat.le_refl _
  · exact Nat.zero_le _

theorem kept_houseWritten (old : HouseEntry) (h : HouseId) (hs : I s) : I (houseWritten old h s) := by
  rw [houseWritten_eq]
  split
  · exact hs
  · have hbegun : I (stationBegins h s) := by
      unfold stationBegins houseBegins
      exact kept_modHouse K h _ (K.cleared _ _ (kept_modStation K h _ hs))
    exact kept_foldl (fun _ p => kept_pumpBegins K p) _ hbegun

theorem kept_trimHistory (p : PumpId) (hs : I s) : I (trimHistory p s) := by
  refine K.pump p (fun q => { q with history := q.history.drop (q.history.length - (s.pumpE p).maxStarts) }) ⟨?_, id⟩ hs
  dsimp only
  rw [List.length_drop]
  exact Nat.sub_le _ _

theorem kept_minOffOver (p : PumpId) (hs : I s) : I (minOffOver p s) := by
  unfold minOffOver
  exact kept_markPump K p (kept_modPump K p _ rfl rfl hs)

theorem kept_reopenLimits (p : PumpId) (hs : I s) : I (reopenLimits p s) := by
  unfold reopenLimits
  exact kept_modPump K p _ rfl rfl hs

theorem kept_watchAll (hs : I s) : I (watchAll s) := kept_foldl (fun _ r => kept_watchEstimate K r) _ hs

variable (hlive : Ctx.live.Holds I)

include hlive

theorem kept_minRunOver (p : PumpId) (hs : I s) : I (minRunOver p s) := by
  unfold minRunOver
  exact kept_shed K hlive (kept_markPump K p (kept_modPump K p _ rfl rfl hs))

theorem kept_limitsWritten (old : PumpEntry) (p : PumpId) (hs : I s) : I (limitsWritten old p s) := by
  unfold limitsWritten
  dsimp only
  exact kept_reopenLimits K p (kept_onlyIf _ (fun _ => kept_minOffOver K p)
    (kept_onlyIf _ (fun _ => kept_minRunOver K hlive p) hs))

theorem kept_pumpWritten (old : PumpEntry) (p : PumpId) (hs : I s) : I (pumpWritten old p s) :=
  kept_limitsWritten K hlive old p (kept_trimHistory K p (kept_onlyIf _ (fun _ => kept_pumpBegins K p) hs))

theorem kept_entriesWritten (t : TableId) (old : Tables) (first count : Nat) (hs : I s) :
    I (entriesWritten t old first count s) := by
  unfold entriesWritten
  split
  · exact kept_foldl (fun _ r => kept_resWritten K _ r) _ hs
  · exact kept_foldl (fun _ h => kept_houseWritten K _ h) _ hs
  · exact kept_foldl (fun _ p => kept_pumpWritten K hlive _ p) _ hs
  all_goals exact hs

omit hlive

/-! ### The field port's guard (R138) -/

theorem kept_guardPump (p : PumpId) (hs : I s) : I (guardPump p s) := by
  unfold guardPump
  split
  · exact kept_markPump K p (kept_loadFell K holds_quiet (kept_undoCore K p hs))
  · exact kept_markPump K p (kept_loadFell K holds_quiet (kept_failCore K p hs))
  · split
    · exact kept_markPump K p (kept_shed K holds_quiet (kept_stopCore K p hs))
    · exact hs
  · exact hs

theorem kept_guardPass (h : HouseId) (orders : Vector Order 4) (hs : I s) : I (guardPass h orders s) := by
  refine kept_foldl (fun t c ht => ?_) _ hs
  unfold guardSlot
  split
  · split
    · exact ht
    · exact kept_guardPump K _ ht
  · exact ht

theorem kept_guardEntry (e : DispEntry) (hs : I s) : I (guardEntry e s).1 := by
  unfold guardEntry
  split
  · exact kept_guardPass K _ _ (kept_guardPass K _ _ (kept_guardPass K _ _ hs))
  · exact hs

theorem kept_takeMarked (e : DispEntry) (hs : I s) : I (takeMarked e s) := by
  refine kept_foldl (fun t c ht => ?_) _ hs
  unfold takeSlot
  split
  · exact kept_modPump K _ _ rfl rfl ht
  · split
    · exact kept_modPump K _ _ rfl rfl ht
    · exact ht

end

/-! ### The bounds of the queues, lists and counters -/

theorem bounded_boundParts {s t : State} (hs : s.Bounded) (h : t.boundParts = s.boundParts) : t.Bounded := by
  simp only [State.boundParts, Prod.mk.injEq] at h
  obtain ⟨-, -, -, -, harbiter, hdispatcher, halarms, hresponses, hfield, hsup⟩ := h
  refine bounded_of_same hs hresponses halarms (by rw [harbiter]) hdispatcher ?_ ?_
  · rw [hfield]; exact ⟨rfl, rfl, rfl⟩
  · rw [hsup]; exact ⟨rfl, rfl, rfl⟩

theorem kept_bounded : Kept State.Bounded where
  same := bounded_boundParts
  pump p f _ hs := bounded_modPump p f hs
  raised k o v d hs := bounded_raise k o v d hs
  cleared k o hs := bounded_clear k o hs
  arbiter _ hf hs := ⟨hs.responses, hs.alarms, hs.requests.sublist hf, hs.dispatcher, hs.field, hs.sup⟩
  requested h p u hs := bounded_placeRequest keepsBounds_starting h p u hs
  placed forced h hs := bounded_placeOrders forced h hs

theorem counters_zero_bounded : Counters.zero.Bounded where
  good := Nat.zero_le _
  checkFail := Nat.zero_le _
  lengthDrop := Nat.zero_le _
  abandon := Nat.zero_le _
  forwardDrop := Nat.zero_le _
  sent := Nat.zero_le _

/-- A port after power-up or RESTART: nothing waits to leave it, and its counters are 0. -/
theorem port_bounded_of_cleared {limit : Nat} {p : PortState} (hfwd : p.fwd = []) (hrun : p.runCount = 0)
    (hcounters : p.counters = .zero) : p.Bounded limit where
  fwd := by rw [hfwd]; exact Nat.zero_le _
  runCount := by rw [hrun]; exact Nat.zero_le _
  counters := by rw [hcounters]; exact counters_zero_bounded

theorem alarms_fresh_bounded : Alarms.fresh.Bounded :=
  ⟨Nat.zero_le _, List.nodup_nil, fun _ he => absurd he List.not_mem_nil, Nat.zero_le _⟩

theorem dispatcher_fresh_bounded : Dispatcher.fresh.Bounded :=
  ⟨List.nodup_nil, fun _ he => absurd he List.not_mem_nil, fun _ he => by cases he⟩

theorem bounded_powerUpWith (a : Byte) (f r : BitVec 2) (s : State) : (powerUpWith a f r s).Bounded where
  responses := Nat.zero_le _
  alarms := alarms_fresh_bounded
  requests := List.nodup_nil
  dispatcher := dispatcher_fresh_bounded
  field := port_bounded_of_cleared rfl rfl rfl
  sup := port_bounded_of_cleared rfl rfl rfl

theorem bounded_resetLive {s : State} (hs : s.Bounded) : (resetLive s).Bounded where
  responses := Nat.zero_le _
  alarms := alarms_fresh_bounded
  requests := List.nodup_nil
  dispatcher :=
    have hqueue := hs.dispatcher.mapQueue (fun e => { e with enqueue := 0 }) (fun _ => rfl) (fun _ he => he)
    ⟨hqueue.houses, hqueue.queue, hqueue.inTx⟩
  field := port_bounded_of_cleared rfl rfl rfl
  sup := port_bounded_of_cleared rfl rfl rfl

/-- What a state must share with a bounded one, where the tables, the pumps, the engine and the store may differ. -/
theorem bounded_of_queues {s t : State} (hs : s.Bounded)
    (h : (t.responses, t.alarms, t.arbiter, t.dispatcher, t.field, t.sup)
      = (s.responses, s.alarms, s.arbiter, s.dispatcher, s.field, s.sup)) : t.Bounded := by
  simp only [Prod.mk.injEq] at h
  obtain ⟨hresponses, halarms, harbiter, hdispatcher, hfield, hsup⟩ := h
  exact ⟨hresponses ▸ hs.responses, halarms ▸ hs.alarms, harbiter ▸ hs.requests, hdispatcher ▸ hs.dispatcher,
    hfield ▸ hs.field, hsup ▸ hs.sup⟩

theorem holds_live_bounded : Ctx.live.Holds State.Bounded := fun _ hs => bounded_fieldTake hs

theorem bounded_writeTables (t : TableId) (first : Nat) (ws : List (List Nat)) {s : State} (hs : s.Bounded) :
    (writeTables t first ws s).Bounded := by
  unfold writeTables
  dsimp only
  split
  · exact kept_loadChanged kept_bounded holds_live_bounded _ (kept_watchAll kept_bounded
      (kept_entriesWritten kept_bounded holds_live_bounded t s.tables first ws.length
        (bounded_of_queues (bounded_accrueAll allPumps hs) rfl)))
  · exact bounded_of_queues hs rfl

theorem bounded_endStartup {s : State} (hs : s.Bounded) : (endStartup s).Bounded := by
  have hbegun : (beginRecords (rebuildMaps { s with storeTx := .idle })).Bounded := bounded_of_queues hs rfl
  have hlatched := kept_latch kept_bounded holds_quiet none .powerUp hbegun
  unfold endStartup
  dsimp only
  generalize latch .quiet none .powerUp (beginRecords (rebuildMaps { s with storeTx := .idle })) = t at hlatched ⊢
  exact ⟨hlatched.responses, hlatched.alarms, hlatched.requests, hlatched.dispatcher, hlatched.field, hlatched.sup⟩

theorem bounded_imageRead (r : StoreRead) {s : State} (hs : s.Bounded) : (imageRead r s).Bounded := by
  unfold imageRead
  split
  · exact hs
  · exact hs
  · split
    · unfold restoreTable
      split
      · exact bounded_of_queues hs rfl
      · exact bounded_of_queues hs rfl
    · exact bounded_endStartup (kept_foldl (fun t v (ht : t.Bounded) => bounded_modPump v.1 _ ht) _ hs)

theorem keptWhole_bounded : KeptWhole State.Bounded where
  toKept := kept_bounded
  taken := bounded_fieldTake
  completed := bounded_completeTx
  forwarded := bounded_forward
  port := bounded_modPort
  noticed := bounded_pushNotice
  responded := bounded_respond
  acknowledged := bounded_acknowledge
  alarms f hf hs := bounded_modAlarms f (hf hs.alarms) hs
  released := bounded_releaseAll
  releasedHouse := bounded_releaseHouse
  refreshed f hqueue hintx hs := bounded_modDispatcher f
    ⟨by rw [hqueue]; exact hs.dispatcher.houses, by rw [hqueue]; exact hs.dispatcher.queue,
      by rw [hintx]; exact hs.dispatcher.inTx⟩ hs
  storing _ _ hs := bounded_of_queues hs rfl
  running _ _ _ hs := bounded_of_queues hs rfl
  written t first ws _ hs := bounded_writeTables t first ws hs
  restarted := bounded_resetLive
  powered := fun {s} a f r _ => bounded_powerUpWith a f r s
  read := fun r hs => bounded_imageRead r hs

/-! ### The pumps' run seconds and start histories -/

/-- The bounds of the pumps for these tables, with a bound of its own for each start history. -/
structure State.PumpsWithin (cap : PumpId → Nat) (ts : Tables) (s : State) : Prop where
  tables : s.tables = ts
  seconds : ∀ p, (s.pump p).runSeconds ≤ 4294967295
  restoring : ∀ i, s.storeTx = .restoring i → s.engine = .startup
  histories : s.engine ≠ .startup → ∀ p, (s.pump p).history.length ≤ cap p

/-- The bound that the tables give a start history (R60). -/
def Tables.startsBound (ts : Tables) (p : PumpId) : Nat := max 1 (ts.pump.get p).maxStarts

theorem pumpsBounded_iff {s : State} : s.PumpsBounded ↔ s.PumpsWithin s.tables.startsBound s.tables :=
  ⟨fun h => ⟨rfl, h.seconds, h.restoring, h.histories⟩, fun h => ⟨h.seconds, h.restoring, h.histories⟩⟩

section

variable {cap : PumpId → Nat} {ts : Tables} {s t : State}

theorem pumpsBounded_of_within (hcap : ∀ p, cap p ≤ ts.startsBound p) (h : s.PumpsWithin cap ts) : s.PumpsBounded where
  seconds := h.seconds
  restoring := h.restoring
  histories he p := by
    have hle := (h.histories he p).trans (hcap p)
    rw [← h.tables] at hle
    exact hle

/-- An operation that keeps the bounds of the pumps under every bound of the histories keeps those of the tables. -/
theorem pumpsBounded_of_keeps {f : State → State} (hf : ∀ cap ts u, u.PumpsWithin cap ts → (f u).PumpsWithin cap ts)
    (hs : s.PumpsBounded) : (f s).PumpsBounded :=
  pumpsBounded_of_within (fun _ => Nat.le_refl _) (hf _ _ s (pumpsBounded_iff.mp hs))

/-- The bounds of the pumps are about the tables, the pumps, the engine state and the store alone. -/
theorem pumpsWithin_of_same (hs : s.PumpsWithin cap ts)
    (h : (t.engine, t.storeTx, t.tables, t.pumps) = (s.engine, s.storeTx, s.tables, s.pumps)) : t.PumpsWithin cap ts := by
  simp only [Prod.mk.injEq] at h
  obtain ⟨hengine, hstore, htables, hpumps⟩ := h
  have hpump (p : PumpId) : t.pump p = s.pump p := congrArg (fun v => v.get p) hpumps
  refine ⟨htables.trans hs.tables, fun p => ?_, fun i hi => ?_, fun he p => ?_⟩
  · rw [hpump]; exact hs.seconds p
  · rw [hengine]; exact hs.restoring i (hstore ▸ hi)
  · rw [hpump]; exact hs.histories (hengine ▸ he) p

theorem pumpsWithin_of_apartAlarms (hs : s.PumpsWithin cap ts) (h : t.apartAlarms = s.apartAlarms) :
    t.PumpsWithin cap ts :=
  pumpsWithin_of_same hs (by rw [eq_of_apartAlarms h])

/-- A request placed at ENGINE START moves the arbiter alone, since no grant is considered (R119). -/
theorem placeRequest_starting (h : HouseId) (p : PumpId) (u : Urgency) (s : State) :
    ∃ a, placeRequest .starting h p u s = { s with arbiter := a } := by
  unfold placeRequest
  dsimp only
  rw [show Ctx.starting.joins = false from rfl, onlyIf, if_neg Bool.false_ne_true]
  split
  · exact ⟨_, rfl⟩
  · exact ⟨_, rfl⟩

theorem kept_pumpsWithin (cap : PumpId → Nat) (ts : Tables) : Kept (State.PumpsWithin cap ts) where
  same hs h := by
    simp only [State.boundParts, Prod.mk.injEq] at h
    obtain ⟨hengine, hstore, htables, hpumps, -⟩ := h
    exact pumpsWithin_of_same hs (by rw [hengine, hstore, htables, hpumps])
  pump {s} p f hf hs := by
    obtain ⟨hhistory, hseconds⟩ := hf
    refine ⟨hs.tables, fun q => ?_, hs.restoring, fun he q => ?_⟩
    · rw [pump_modPump]
      split
      · exact hseconds (hs.seconds p)
      · exact hs.seconds q
    · rw [pump_modPump]
      split
      · next hq => subst hq; exact hhistory.trans (hs.histories he q)
      · exact hs.histories he q
  raised k o v d hs := pumpsWithin_of_apartAlarms hs (apartAlarms_raise _ k o v d)
  cleared k o hs := pumpsWithin_of_apartAlarms hs (apartAlarms_clear _ k o)
  arbiter f _ hs := pumpsWithin_of_same hs rfl
  requested h p u hs := by
    obtain ⟨a, ha⟩ := placeRequest_starting h p u _
    rw [ha]
    exact pumpsWithin_of_same hs rfl
  placed forced h hs := by
    refine pumpsWithin_of_same hs ?_
    unfold placeOrders
    dsimp only
    split
    · rfl
    · split <;> rfl

/-- The field port's take (R139, R169). -/
theorem pumpsWithin_takeDispatch (e : DispEntry) (rest : List DispEntry) (hs : s.PumpsWithin cap ts) :
    (takeDispatch e rest s).PumpsWithin cap ts := by
  have K := kept_pumpsWithin cap ts
  have hprepared : (prepare e rest s).PumpsWithin cap ts := by
    have hguarded := kept_guardEntry K e (s := dequeue e rest s) (pumpsWithin_of_same hs rfl)
    unfold prepare
    dsimp only
    generalize guardEntry e (dequeue e rest s) = g at hguarded ⊢
    exact kept_derive K holds_quiet false e.house (kept_takeMarked K g.2 (pumpsWithin_of_same hguarded rfl))
  rw [takeDispatch_eq_prepare]
  generalize prepare e rest s = u at hprepared ⊢
  exact pumpsWithin_of_same hprepared rfl

theorem pumpsWithin_fieldTake (hs : s.PumpsWithin cap ts) : (fieldTake s).PumpsWithin cap ts := by
  unfold fieldTake
  split
  · exact hs
  · split
    · exact hs
    · exact pumpsWithin_takeDispatch _ _ (pumpsWithin_of_same hs rfl)
    · exact pumpsWithin_of_same hs rfl
    · split
      · exact pumpsWithin_takeDispatch _ _ (pumpsWithin_of_same hs rfl)
      · exact pumpsWithin_of_same hs rfl

theorem holds_live_pumpsWithin : Ctx.live.Holds (State.PumpsWithin cap ts) := fun _ hs => pumpsWithin_fieldTake hs

theorem pumpsWithin_forward (p : Port) (bytes : List Byte) (hs : s.PumpsWithin cap ts) :
    (forward p bytes s).PumpsWithin cap ts := by
  unfold forward
  split
  · cases p <;> exact pumpsWithin_of_same hs rfl
  · cases p with
    | field => exact pumpsWithin_of_apartAlarms (pumpsWithin_of_same hs rfl) (apartAlarms_supTake _)
    | supervisory => exact pumpsWithin_fieldTake (pumpsWithin_of_same hs rfl)

/-! #### A PUMP entry written (R12, R60) -/

theorem pumpsWithin_trimHistory (p : PumpId) (hs : s.PumpsWithin cap ts) :
    (trimHistory p s).PumpsWithin (Function.update cap p (ts.startsBound p)) ts := by
  have hkept := kept_trimHistory (kept_pumpsWithin cap ts) p hs
  refine ⟨hkept.tables, hkept.seconds, hkept.restoring, fun he q => ?_⟩
  by_cases hq : q = p
  · subst hq
    have hmax : (s.pumpE q).maxStarts ≤ ts.startsBound q := by
      rw [← hs.tables]; exact Nat.le_max_right _ _
    rw [Function.update_self]
    simp only [trimHistory, pump_modPump_same, List.length_drop]
    omega
  · rw [Function.update_of_ne hq]
    exact hkept.histories he q

theorem pumpsWithin_pumpWritten (old : PumpEntry) (p : PumpId) (hs : s.PumpsWithin cap ts) :
    (pumpWritten old p s).PumpsWithin (Function.update cap p (ts.startsBound p)) ts :=
  kept_limitsWritten (kept_pumpsWithin _ ts) holds_live_pumpsWithin old p (pumpsWithin_trimHistory p
    (kept_onlyIf _ (fun _ => kept_pumpBegins (kept_pumpsWithin cap ts) p) hs))

/-- The pumps whose entries are written take the bound of the new entry, and the others keep theirs. -/
theorem pumpsWithin_pumpsWritten (old : Tables) (ps : List PumpId) (hs : s.PumpsWithin cap ts) :
    (ps.foldl (fun u p => pumpWritten (old.pump.get p) p u) s).PumpsWithin
      (fun p => if p ∈ ps then ts.startsBound p else cap p) ts := by
  induction ps generalizing s cap with
  | nil => simpa using hs
  | cons a rest ih =>
    have h := ih (pumpsWithin_pumpWritten (old.pump.get a) a hs)
    have hcap : (fun p => if p ∈ rest then ts.startsBound p else Function.update cap a (ts.startsBound a) p)
        = fun p => if p ∈ a :: rest then ts.startsBound p else cap p := by
      funext p
      by_cases hp : p = a
      · subst hp; simp
      · simp [hp]
    rw [hcap] at h
    exact h

/-- An accepted write keeps the bounds of the pumps. -/
theorem pumpsBounded_writeTables (x : TableId) (first : Nat) (ws : List (List Nat)) (hs : s.PumpsBounded) :
    (writeTables x first ws s).PumpsBounded := by
  have haccrued := kept_accrueAll (kept_pumpsWithin _ s.tables) allPumps (pumpsBounded_iff.mp hs)
  have hrewritten : (rebuildMaps { accrueAll allPumps s with tables := writeEntries x first ws s.tables }).PumpsWithin
      s.tables.startsBound (writeEntries x first ws s.tables) :=
    ⟨rfl, haccrued.seconds, haccrued.restoring, haccrued.histories⟩
  have hother (hx : x ≠ .pump) (p : PumpId) :
      s.tables.startsBound p ≤ (writeEntries x first ws s.tables).startsBound p := by
    unfold Tables.startsBound
    rw [writeEntries_pump, if_neg hx]
  have hlive (cap : PumpId → Nat) (before : Nat) {u : State}
      (hu : u.PumpsWithin cap (writeEntries x first ws s.tables)) :
      (loadChanged .live before (watchAll u)).PumpsWithin cap (writeEntries x first ws s.tables) :=
    kept_loadChanged (kept_pumpsWithin _ _) holds_live_pumpsWithin before (kept_watchAll (kept_pumpsWithin _ _) hu)
  unfold writeTables
  dsimp only
  split
  · by_cases hx : x = .pump
    · subst hx
      refine pumpsBounded_of_within (fun p => ?_) (hlive _ s.siteLoad
        (pumpsWithin_pumpsWritten s.tables (writtenIn 32 first ws.length) hrewritten))
      split
      · exact Nat.le_refl _
      · next hp =>
        unfold Tables.startsBound
        rw [pump_written, get_putEach_outside _ _ (mt mem_writtenIn.mpr hp)]
    · exact pumpsBounded_of_within (hother hx) (hlive _ s.siteLoad
        (kept_entriesWritten (kept_pumpsWithin _ _) holds_live_pumpsWithin x s.tables first ws.length hrewritten))
  · next hplan =>
    have hx : x ≠ .pump := by rintro rfl; exact hplan rfl
    exact pumpsBounded_of_within (hother hx) ⟨rfl, hs.seconds, hs.restoring, hs.histories⟩

/-! #### A start stamped (R51, R60) -/

theorem length_joinHistory_le (capacity : Nat) (now : Second) (l : List Second) :
    (joinHistory capacity now l).length ≤ max 1 capacity := by
  simp only [joinHistory, List.length_append, List.length_drop, List.length_singleton]
  omega

theorem pumpsBounded_stampSlot (e : DispEntry) (c : SlotId) (hs : s.PumpsBounded) : (stampSlot e s c).PumpsBounded := by
  have hkept (p : PumpId) {f : Pump → Pump} (hr : ∀ q, (f q).runSeconds = q.runSeconds)
      (hh : (f (s.pump p)).history.length ≤ max 1 (s.pumpE p).maxStarts ∨ (f (s.pump p)).history = (s.pump p).history) :
      (modPump p f s).PumpsBounded := by
    refine ⟨fun q => ?_, hs.restoring, fun he q => ?_⟩
    · rw [pump_modPump]
      split
      · rw [hr]; exact hs.seconds p
      · exact hs.seconds q
    · rw [pump_modPump]
      split
      · next hq =>
        subst hq
        rcases hh with hle | heq
        · exact hle
        · rw [heq]; exact hs.histories he q
      · exact hs.histories he q
  unfold stampSlot
  split
  · next p _ =>
    exact kept_atHouseOf p (fun h t ht => (⟨ht.seconds, ht.restoring, ht.histories⟩ : State.PumpsBounded (modHouse h _ t)))
      (hkept p (fun _ => rfl) (.inl (length_joinHistory_le _ _ _)))
  · split
    · next p _ => exact hkept p (fun _ => rfl) (.inr rfl)
    · exact hs

theorem pumpsBounded_completeTx (p : Port) (hs : s.PumpsBounded) : (completeTx p s).PumpsBounded := by
  have hfree (q : Port) {u : State} (hu : u.PumpsBounded) : (freeTx q u).PumpsBounded :=
    pumpsBounded_of_keeps (f := freeTx q) (fun _ _ u hu => by cases q <;> exact pumpsWithin_of_same hu rfl) hu
  have htake {u : State} (hu : u.PumpsBounded) : (fieldTake u).PumpsBounded :=
    pumpsBounded_of_keeps (fun _ _ _ => pumpsWithin_fieldTake) hu
  have hcomplete : (completeDispatch s).PumpsBounded := by
    unfold completeDispatch
    split
    · exact hs
    · next e _ =>
      have hstamped := kept_foldl (fun _ c => pumpsBounded_stampSlot e c) allSlots hs
      exact pumpsBounded_of_keeps (f := fun u => setInTx none (setRefresh e.house (refreshAfter e _) (derive .quiet false e.house u)))
        (fun cap ts _ hu => pumpsWithin_of_same (kept_derive (kept_pumpsWithin cap ts) holds_quiet false e.house hu) rfl)
        hstamped
  unfold completeTx
  split
  · exact hs
  · exact htake (hfree .field hcomplete)
  · exact htake (hfree .field hs)
  · exact pumpsBounded_of_keeps (fun _ _ _ hu => pumpsWithin_of_apartAlarms hu (apartAlarms_supTake _)) (hfree .supervisory hs)

end

end Sys2Proof.Machine

/-! ## Every step keeps the bounds (R60, R61, R118, R134, R150, R157, R168-R174) -/

namespace Sys2Proof.Machine

section

variable {s : State}

theorem kept_pumpsBounded : Kept State.PumpsBounded where
  same hs h := pumpsBounded_of_within (fun _ => Nat.le_refl _) ((kept_pumpsWithin _ _).same (pumpsBounded_iff.mp hs) h)
  pump p f hf hs :=
    pumpsBounded_of_within (fun _ => Nat.le_refl _) ((kept_pumpsWithin _ _).pump p f hf (pumpsBounded_iff.mp hs))
  raised k o v d := pumpsBounded_of_keeps fun cap ts _ => (kept_pumpsWithin cap ts).raised k o v d
  cleared k o := pumpsBounded_of_keeps fun cap ts _ => (kept_pumpsWithin cap ts).cleared k o
  arbiter f hf hs :=
    pumpsBounded_of_within (fun _ => Nat.le_refl _) ((kept_pumpsWithin _ _).arbiter f hf (pumpsBounded_iff.mp hs))
  requested h p u := pumpsBounded_of_keeps fun cap ts _ => (kept_pumpsWithin cap ts).requested h p u
  placed forced h := pumpsBounded_of_keeps fun cap ts _ => (kept_pumpsWithin cap ts).placed forced h

/-- The bounds of the pumps hold after an operation that leaves the engine state, the store, the tables and the pumps. -/
theorem pumpsBounded_of_same {t : State} (hs : s.PumpsBounded)
    (h : (t.engine, t.storeTx, t.tables, t.pumps) = (s.engine, s.storeTx, s.tables, s.pumps)) : t.PumpsBounded :=
  pumpsBounded_of_within (fun _ => Nat.le_refl _) (pumpsWithin_of_same (pumpsBounded_iff.mp hs) h)

theorem pumpsBounded_of_apartAlarms {t : State} (hs : s.PumpsBounded) (h : t.apartAlarms = s.apartAlarms) :
    t.PumpsBounded :=
  pumpsBounded_of_within (fun _ => Nat.le_refl _) (pumpsWithin_of_apartAlarms (pumpsBounded_iff.mp hs) h)

theorem pumpsBounded_releaseHouse (h : HouseId) (hs : s.PumpsBounded) : (releaseHouse h s).PumpsBounded := by
  unfold releaseHouse
  split
  · exact pumpsBounded_of_same hs rfl
  · exact pumpsBounded_of_same hs rfl

theorem pumpsBounded_releaseAll (hs : s.PumpsBounded) : (releaseAll s).PumpsBounded := by
  have hqueue : (releaseQueue s).PumpsBounded := pumpsBounded_of_same hs rfl
  refine kept_foldl (fun t h ht => ?_) _ hqueue
  split
  · exact ht
  · exact pumpsBounded_releaseHouse h ht

/-! ### Records that begin (R46, R60, R61) -/

/-- Where every start history is empty and no restore is under way, the run seconds are what is left to bound. -/
theorem pumpsBounded_of_empty (hseconds : ∀ p, (s.pump p).runSeconds ≤ 4294967295) (hstore : ∀ i, s.storeTx ≠ .restoring i)
    (hhistory : ∀ p, (s.pump p).history = []) : s.PumpsBounded where
  seconds := hseconds
  restoring i hi := absurd hi (hstore i)
  histories _ p := by rw [hhistory]; exact Nat.zero_le _

theorem pumpsBounded_resetLive (hs : s.PumpsBounded) : (resetLive s).PumpsBounded := by
  have hpump (p : PumpId) : (resetLive s).pump p
      = .fresh (if (s.pumpE p).used then .unknown else .unused) (s.pump p).runSeconds (s.pump p).service :=
    pump_pumpsAfterReset s p
  refine pumpsBounded_of_empty (fun p => ?_) (fun _ h => StoreTx.noConfusion h) (fun p => ?_)
  · rw [hpump]; exact hs.seconds p
  · rw [hpump]; rfl

theorem pump_reset (p : PumpId) : State.reset.pump p = .fresh .unused 0 .inService := Vector.get_replicate ..

/-- Right after power-up the engine is in STARTUP, with no run seconds. -/
theorem pumpsBounded_of_startup (hengine : s.engine = .startup) (hpumps : s.pumps = State.reset.pumps) : s.PumpsBounded where
  seconds p := by
    have hpump : s.pump p = State.reset.pump p := congrArg (fun v => v.get p) hpumps
    rw [hpump, pump_reset]
    exact Nat.zero_le _
  restoring _ _ := hengine
  histories he _ := absurd hengine he

theorem mem_runEntries_le {n : Nat} {bs : List Byte} {v : Nat × Service} (hv : v ∈ runEntries n bs) : v.1 ≤ 4294967295 := by
  induction n generalizing bs with
  | zero => cases hv
  | succ n ih =>
    rcases List.mem_cons.mp hv with rfl | hrest
    · exact numOf_le (List.length_take_le 4 bs)
    · exact ih hrest

theorem mem_runsRead_le {bytes : Option (List Byte)} {v : Nat × Service} (hv : v ∈ runsRead bytes) : v.1 ≤ 4294967295 := by
  unfold runsRead at hv
  cases hc : bytes.bind (imageContent 8) with
  | none =>
    rw [hc] at hv
    obtain ⟨-, rfl⟩ := List.mem_replicate.mp hv
    exact Nat.zero_le _
  | some content => rw [hc] at hv; exact mem_runEntries_le hv

/-- Image 8 judged gives every pump run seconds within 32 bits. -/
theorem seconds_restoreRuns (bytes : Option (List Byte)) (p : PumpId) :
    ((restoreRuns bytes s).pump p).runSeconds ≤ 4294967295 := by
  obtain ⟨w, hw, hget⟩ := restoreRuns_eq bytes s
  have hp : p.val < (runsRead bytes).length := by rw [length_runsRead]; exact p.isLt
  have hpump : (restoreRuns bytes s).pump p = w.get p := by rw [hw]; rfl
  rw [hpump, hget p _ (List.getElem?_eq_getElem hp)]
  exact mem_runsRead_le (List.getElem_mem hp)

theorem pumpsBounded_endStartup (he : s.engine ≠ .run) (hseconds : ∀ p, (s.pump p).runSeconds ≤ 4294967295) :
    (endStartup s).PumpsBounded := by
  obtain ⟨a, b, c, d, heq⟩ := endStartup_eq he
  have hpump (p : PumpId) : (endStartup s).pump p
      = .fresh (if (s.pumpE p).used then .unknown else .unused) (s.pump p).runSeconds (s.pump p).service := by
    rw [heq]; exact pump_pumpsAfterReset s p
  refine pumpsBounded_of_empty (fun p => ?_) (fun i h => ?_) (fun p => ?_)
  · rw [hpump]; exact hseconds p
  · rw [heq] at h; cases h
  · rw [hpump]; rfl

theorem pumpsBounded_imageRead (r : StoreRead) (hs : s.PumpsBounded) : (imageRead r s).PumpsBounded := by
  unfold imageRead
  split
  · exact hs
  · exact hs
  · next i htx =>
    have he := hs.restoring i htx
    split
    · unfold restoreTable
      split
      · exact ⟨hs.seconds, fun _ _ => he, fun h => absurd he h⟩
      · exact ⟨hs.seconds, fun _ _ => he, fun h => absurd he h⟩
    · refine pumpsBounded_endStartup ?_ (seconds_restoreRuns _)
      obtain ⟨w, hw, -⟩ := restoreRuns_eq (s.readBytes i r) s
      rw [hw]
      show s.engine ≠ .run
      rw [he]
      exact EngineState.noConfusion

theorem keptWhole_pumpsBounded : KeptWhole State.PumpsBounded where
  toKept := kept_pumpsBounded
  taken := pumpsBounded_of_keeps fun _ _ _ => pumpsWithin_fieldTake
  completed := pumpsBounded_completeTx
  forwarded p bytes := pumpsBounded_of_keeps fun _ _ _ => pumpsWithin_forward p bytes
  port p f _ _ _ hs := by cases p <;> exact pumpsBounded_of_same hs rfl
  noticed b hs := pumpsBounded_of_apartAlarms hs (apartAlarms_pushNotice _ b)
  responded c r d hs := pumpsBounded_of_apartAlarms hs (apartAlarms_respond _ c r d)
  acknowledged k o hs := pumpsBounded_of_apartAlarms hs (apartAlarms_acknowledge _ k o)
  alarms _ _ hs := pumpsBounded_of_same hs rfl
  released := pumpsBounded_releaseAll
  releasedHouse := pumpsBounded_releaseHouse
  refreshed _ _ _ hs := pumpsBounded_of_same hs rfl
  storing x hx hs := ⟨hs.seconds, fun i hi => absurd hi (hx i), hs.histories⟩
  running e he hne hs := ⟨hs.seconds, fun i hi => absurd (hs.restoring i hi) he, fun _ => hs.histories he⟩
  written t first ws _ := pumpsBounded_writeTables t first ws
  restarted := pumpsBounded_resetLive
  powered _ _ _ _ := pumpsBounded_of_startup rfl rfl
  read := pumpsBounded_imageRead

end

/-- Settles O5: both groups of bounds are invariants that every operation of the shared layer keeps. -/
theorem boundsKept : Obligations.BoundsKept :=
  ⟨fun _ _ hs ht => kept_step keptWhole_bounded hs ht, fun _ _ hs ht => kept_step keptWhole_pumpsBounded hs ht⟩

theorem bounded_reset : State.reset.Bounded where
  responses := Nat.zero_le _
  alarms := alarms_fresh_bounded
  requests := List.nodup_nil
  dispatcher := dispatcher_fresh_bounded
  field := port_bounded_of_cleared rfl rfl rfl
  sup := port_bounded_of_cleared rfl rfl rfl

/-- Settles O4: at power-up every queue, list, counter and buffer is empty, and no pump has run. -/
theorem boundsAtReset : Obligations.BoundsAtReset :=
  ⟨bounded_reset, pumpsBounded_of_startup rfl rfl, rfl, rfl⟩

end Sys2Proof.Machine

/-! ## Run feedback at a pump (R47-R49, R59, R61, R92) -/

namespace Sys2Proof.Machine

section

variable {s t : State} {p : PumpId} {k : Ctx}

/-! ### A pump's record in place of the one that stands -/

/-- The state with a record given to a pump. -/
def setPump (p : PumpId) (v : Pump) (s : State) : State := { s with pumps := s.pumps.set p v }

/-- An update of a pump whose run seconds have been brought up to date. -/
theorem modPump_accrue (f : Pump → Pump) : modPump p f (accrue p s)
    = setPump p (f { s.pump p with runSeconds := s.runSecondsNow p, accrualMark := s.now }) s := by
  simp [accrue, modPump, setPump, State.pump]

/-- Run seconds of a pump that does not run are up to date. -/
theorem runSecondsNow_of_standing (hrunning : (s.pump p).run ≠ .running) (hstopping : (s.pump p).run ≠ .stopOrdered) :
    s.runSecondsNow p = (s.pump p).runSeconds := by
  simp [State.runSecondsNow, hrunning, hstopping]

theorem runSecondsNow_of_running (hrun : (s.pump p).run = .running ∨ (s.pump p).run = .stopOrdered) :
    s.runSecondsNow p = min ((s.pump p).runSeconds + (s.now - (s.pump p).accrualMark).toNat) 4294967295 := by
  rcases hrun with h | h <;> simp [State.runSecondsNow, State.since, h]

theorem not_reached_eq (m : Second) (l : Nat) : (!s.reached m l) = decide ((s.now - m).toNat < l) := 
  Bool.eq_iff_iff.mpr (by
    rw [Bool.not_eq_true', Bool.eq_false_iff, Ne, reached_iff, Nat.not_le, decide_eq_true_iff])

theorem adoptCore_setPump (v : Pump) : adoptCore p (setPump p v s) = setPump p { v with
    commanded := true, runStart := s.now, minRunOpen := decide (1 ≤ (s.pumpE p).minRun)
    service := if v.service = .failed then .inService else v.service } s := by
  have hpump : (setPump p v s).pump p = v := by simp [setPump, State.pump]
  have hentry : (setPump p v s).pumpE p = s.pumpE p := rfl
  rw [adoptCore, modPump, hpump, hentry]
  simp [setPump, Nat.succ_le_iff]

/-- Two records that agree apart from the orders leave states that agree apart from the orders. -/
theorem apartOrders_setPump {v w : Pump} (h : v.apartOrder = w.apartOrder) :
    (setPump p v s).apartOrders = (setPump p w s).apartOrders := by
  have hset : setPump p v s = modPump p (fun _ => v) (setPump p w s) := by simp [setPump, modPump]
  have hpump : (setPump p w s).pump p = w := by simp [setPump, State.pump]
  rw [hset]
  exact apartOrders_modPump _ p _ (by rw [hpump]; exact h)

theorem apartOrders_setPump_of_same {v : Pump} (h : v.apartOrder = (s.pump p).apartOrder) :
    (setPump p v s).apartOrders = s.apartOrders := apartOrders_modPump s p (fun _ => v) h

theorem onlyIf_true (f : State → State) : onlyIf true f s = f s := rfl

/-- A clear that depends on a condition moves alarms only. -/
theorem apartOrders_clearIf (c : Prop) [Decidable c] (a : AlarmKind) (o : Nat) :
    (if c then clear a o t else t).apartOrders = t.apartOrders := by
  split
  · exact apartOrders_clear _ _ _
  · rfl

/-- A pump's alarm carries its power (R152). -/
theorem raisePump_of_tables (h : t.tables = s.tables) (a : AlarmKind) :
    raisePump a p t = raise a p.val (some (s.pumpE p).power) .none t := by
  rw [raisePump, pumpE_eq_of_tables h]

/-! ### The cases of run feedback -/

/-- A pump adopted as it is found running: its house is dispatched and its panel is in REMOTE (R48). -/
theorem adopted_iff : (s.pumpActive p && (s.pump p).panel == some .remote) = true ↔ s.engine = .run
    ∧ (s.pump p).panel = some .remote
    ∧ ∃ h, (s.pumpE p).house = some h ∧ (s.houseE h).used = true ∧ (s.house h).mode = .auto := by
  rw [Bool.and_eq_true, pumpActive_iff, beq_iff_eq, and_assoc, and_comm (b := _ = some Panel.remote)]

theorem tables_handedOn (hk : k.Keeps) (v : Pump) : (markPump p (loadRose k (setPump p v s))).tables = s.tables :=
  tables_of_apartOrders (s := setPump p v s) (by rw [apartOrders_markPump, apartOrders_loadRose _ hk])

/-- UNKNOWN or STOPPED found running and adopted (R47, R48, log 20, log 36). -/
theorem foundRunning_adopted (hk : k.Keeps) (hrunning : (s.pump p).run ≠ .running)
    (hstopping : (s.pump p).run ≠ .stopOrdered) (h : (s.pumpActive p && (s.pump p).panel == some .remote) = true) :
    let t := markPump p (loadRose k (setPump p { s.pump p with
      run := .running, commanded := true, order := .none, runStart := s.now, accrualMark := s.now
      minRunOpen := decide (1 ≤ (s.pumpE p).minRun)
      service := if (s.pump p).service = .failed then .inService else (s.pump p).service } s))
    foundRunning k p s = derivePump k p (raise .uncommandedRun p.val (some (s.pumpE p).power) .none
      (if (s.pump p).service = .failed then clear .startFail p.val t else t)) := by
  intro t
  unfold foundRunning
  dsimp only
  rw [h, Bool.true_and, modPump_accrue, runSecondsNow_of_standing hrunning hstopping, onlyIf_true, onlyIf_true,
    adoptCore_setPump, raisePump_of_tables (s := s)]
  · simp only [clearStartFail, onlyIf, beq_iff_eq]
    rfl
  · unfold clearStartFail onlyIf
    split
    · exact (tables_of_apartOrders (apartOrders_clear _ _ _)).trans (tables_handedOn hk _)
    · exact tables_handedOn hk _

/-- UNKNOWN or STOPPED found running and not adopted (R47, R48). -/
theorem foundRunning_uncommanded (hrunning : (s.pump p).run ≠ .running) (hstopping : (s.pump p).run ≠ .stopOrdered)
    (h : ¬(s.pumpActive p && (s.pump p).panel == some .remote) = true) :
    foundRunning k p s = derivePump k p (markPump p (loadRose k (setPump p { s.pump p with
      run := .running, commanded := false, order := .none, runStart := s.now, accrualMark := s.now } s))) := by
  unfold foundRunning
  dsimp only
  rw [Bool.eq_false_iff.mpr h, Bool.false_and, modPump_accrue, runSecondsNow_of_standing hrunning hstopping]
  rfl

/-- When the run of a START_ORDERED pump began (R47). -/
def State.runBegan (s : State) (p : PumpId) : Second :=
  if (s.pump p).order = .transmitted then (s.pump p).orderTx.getD s.now else s.now

/-- The record of a start confirmed (R47, R59, log 15). -/
def State.confirmedPump (s : State) (p : PumpId) (commanded : Bool) (admission : Option Urgency) : Pump :=
  { s.pump p with
    run := .running, commanded := commanded, order := .none, orderTx := none, confirmMark := none
    runStart := s.runBegan p, minRunOpen := decide ((s.now - s.runBegan p).toNat < (s.pumpE p).minRun)
    admission := admission, accrualMark := s.now }

theorem startConfirmed_eq (hrun : (s.pump p).run = .startOrdered) {commanded : Bool}
    (h : (s.pumpActive p && (s.pump p).panel == some .remote) = commanded) :
    startConfirmed k p s = derivePump k p (markPump p (endFlight p
      (setPump p (s.confirmedPump p commanded (if commanded then (s.pump p).admission else none)) s))) := by
  unfold startConfirmed
  dsimp only
  rw [modPump_accrue, runSecondsNow_of_standing (by rw [hrun]; decide) (by rw [hrun]; decide), h, not_reached_eq]
  rfl

/-- UNKNOWN found stopped (R47, R59). -/
theorem foundStopped_eq (hrun : (s.pump p).run = .unknown) :
    foundStopped k p s = derivePump k p (markPump p (setPump p { s.pump p with
      run := .stopped, stopMark := some s.now, minOffOpen := decide (1 ≤ (s.pumpE p).minOff)
      accrualMark := s.now } s)) := by
  unfold foundStopped
  rw [modPump_accrue, runSecondsNow_of_standing (by rw [hrun]; decide) (by rw [hrun]; decide)]
  rfl

/-- The record of a pump seen to stop (R47, R49, R59, R61, log 15). -/
def State.stoppedPump (s : State) (p : PumpId) : Pump :=
  { s.pump p with
    run := .stopped, commanded := false, order := .none, stopMark := some s.now, orderTx := none
    confirmMark := none, lastRun := some (s.now - (s.pump p).runStart).toNat, admission := none, stopExpired := false
    minOffOpen := decide (1 ≤ (s.pumpE p).minOff)
    runSeconds := s.runSecondsNow p, accrualMark := s.now }

/-- RUNNING or STOP_ORDERED seen to stop, with STOP_FAIL cleared where it was held (R47, R49, R53). -/
def State.seenStopped (k : Ctx) (p : PumpId) (s : State) : State :=
  let t := markPump p (loadFell k (setPump p (s.stoppedPump p) s))
  if (s.pump p).stopExpired = true then clear .stopFail p.val t else t

theorem apartOrders_seenStopped (hk : k.Keeps) :
    (s.seenStopped k p).apartOrders = (setPump p (s.stoppedPump p) s).apartOrders := by
  have hfell : (markPump p (loadFell k (setPump p (s.stoppedPump p) s))).apartOrders
      = (setPump p (s.stoppedPump p) s).apartOrders := by
    rw [apartOrders_markPump, apartOrders_loadFell _ hk]
  rw [State.seenStopped, apartOrders_clearIf, hfell]

theorem stopSeen_eq (hk : k.Keeps) : stopSeen k p s = derivePump k p
    (if (s.pump p).commandedRunning = true then
      raise .unexpectedStop p.val (some (s.pumpE p).power) .none (s.seenStopped k p)
    else s.seenStopped k p) := by
  have htables : (s.seenStopped k p).tables = s.tables :=
    tables_of_apartOrders (s := setPump p (s.stoppedPump p) s) (apartOrders_seenStopped hk)
  rw [← raisePump_of_tables htables]
  unfold stopSeen
  dsimp only
  rw [modPump_accrue]
  rfl

/-! ### Run feedback by run state -/

theorem applyFeedback_running (h : (s.pump p).run = .unknown ∨ (s.pump p).run = .stopped) :
    applyFeedback k p true s = foundRunning k p s := by
  unfold applyFeedback
  rcases h with h | h <;> rw [h]

theorem applyFeedback_confirmed (h : (s.pump p).run = .startOrdered) :
    applyFeedback k p true s = startConfirmed k p s := by
  unfold applyFeedback; rw [h]

theorem applyFeedback_foundStopped (h : (s.pump p).run = .unknown) :
    applyFeedback k p false s = foundStopped k p s := by
  unfold applyFeedback; rw [h]

theorem applyFeedback_stopped (h : (s.pump p).run = .running ∨ (s.pump p).run = .stopOrdered) :
    applyFeedback k p false s = stopSeen k p s := by
  unfold applyFeedback
  rcases h with h | h <;> rw [h]

theorem applyFeedback_runsOn (h : (s.pump p).run = .running ∨ (s.pump p).run = .stopOrdered ∨ (s.pump p).run = .unused) :
    applyFeedback k p true s = s := by
  unfold applyFeedback
  rcases h with h | h | h <;> rw [h]

theorem applyFeedback_standsStill
    (h : (s.pump p).run = .stopped ∨ (s.pump p).run = .startOrdered ∨ (s.pump p).run = .unused) :
    applyFeedback k p false s = s := by
  unfold applyFeedback
  rcases h with h | h | h <;> rw [h]

/-- The end of a start in flight (R92). -/
theorem endFlight_of_house {h : HouseId} (hp : (s.pumpE p).house = some h) :
    ((s.house h).start = .granted p ∨ (s.house h).start = .transmitted p →
      endFlight p s = modHouse h (fun x => { x with start := .none }) s)
    ∧ (¬((s.house h).start = .granted p ∨ (s.house h).start = .transmitted p) → endFlight p s = s) := by
  have hflight : endFlight p s = modHouse h
      (fun x => if x.start = .granted p ∨ x.start = .transmitted p then { x with start := .none } else x) s :=
    atHouseOf_some _ hp
  refine ⟨fun hstart => ?_, fun hstart => ?_⟩
  · rw [hflight, modHouse, if_pos hstart]; rfl
  · have hset : s.houses.set h (s.house h) = s.houses := by simp [State.house, Vector.get_eq_getElem]
    rw [hflight, modHouse, if_neg hstart, hset]

/-- Settles O19: each case of R47 writes the record once, and what it hands on moves orders only. -/
theorem runFeedback : Obligations.RunFeedback := by
  intro p s q power elapsed began adopted
  have hadopted : (s.pumpActive p && (s.pump p).panel == some .remote) = true ↔ adopted := adopted_iff
  have hstanding (h : q.run = .unknown ∨ q.run = .stopped) : q.run ≠ .running ∧ q.run ≠ .stopOrdered := by
    rcases h with h | h <;> rw [h] <;> decide
  have hfound (h : q.run = .unknown ∨ q.run = .stopped) (ha : adopted) :=
    (applyFeedback_running h).trans (foundRunning_adopted keeps_live (hstanding h).1 (hstanding h).2 (hadopted.mpr ha))
  have huncommanded (h : q.run = .unknown ∨ q.run = .stopped) (ha : ¬adopted) :=
    (applyFeedback_running h).trans
      (foundRunning_uncommanded (k := .live) (hstanding h).1 (hstanding h).2 (mt hadopted.mp ha))
  have hconfirmed (h : q.run = .startOrdered) {commanded : Bool}
      (hc : (s.pumpActive p && (s.pump p).panel == some .remote) = commanded) :=
    (applyFeedback_confirmed (k := .live) h).trans (startConfirmed_eq h hc)
  have hstopped (h : q.run = .unknown) := (applyFeedback_foundStopped (k := .live) h).trans (foundStopped_eq h)
  have hseen (h : q.run = .running ∨ q.run = .stopOrdered) :=
    (applyFeedback_stopped (k := .live) h).trans (stopSeen_eq keeps_live)
  have hcommanded : q.commandedRunning = true ↔ q.run = .running ∧ q.commanded = true := by
    simp [Pump.commandedRunning]
  refine ⟨fun h => ⟨fun ha => ?_, fun ha => ?_⟩, fun h => ?_, fun h => ?_, fun h => ?_, applyFeedback_runsOn,
    applyFeedback_standsStill, fun h => ⟨hfound h, huncommanded h⟩, fun h => ?_, fun g hg => endFlight_of_house hg,
    hstopped, fun h => ⟨fun hc => ?_, fun hc => ?_⟩⟩
  · rw [hfound h ha, apartOrders_derivePump _ keeps_live, apartOrders_raise]
    rw [apartOrders_clearIf, apartOrders_markPump, apartOrders_loadRose _ keeps_live]
    exact apartOrders_setPump rfl
  · rw [huncommanded h ha, apartOrders_derivePump _ keeps_live, apartOrders_markPump, apartOrders_loadRose _ keeps_live]
    exact apartOrders_setPump rfl
  · rw [hconfirmed h rfl, apartOrders_derivePump _ keeps_live, apartOrders_markPump, apartOrders_endFlight]
    exact apartOrders_setPump rfl
  · have hsame : (setPump p (s.stoppedPump p) s).apartOrders
        = (modPump p (fun q => { q with lastRun := some (s.now - q.runStart).toNat }) s).apartOrders :=
      apartOrders_setPump rfl
    rw [hseen h, apartOrders_derivePump _ keeps_live]
    split
    · rw [apartOrders_raise, apartOrders_seenStopped keeps_live, hsame]
    · rw [apartOrders_seenStopped keeps_live, hsame]
  · rw [hstopped h, apartOrders_derivePump _ keeps_live, apartOrders_markPump]
    exact apartOrders_setPump_of_same rfl
  · exact ⟨fun ha => hconfirmed h (hadopted.mpr ha), fun ha => hconfirmed h (Bool.eq_false_iff.mpr (mt hadopted.mp ha))⟩
  · rw [hseen h, if_pos (hcommanded.mpr hc)]; rfl
  · rw [hseen h, if_neg (mt hcommanded.mp hc)]; rfl

/-! ### Run feedback outside RUN -/

theorem pumps_recompute (s : State) : (recompute s).pumps = s.pumps := by
  obtain ⟨a, b, c, d, h⟩ := recompute_eq s
  rw [h]

theorem pumps_derivePump_of_not_run (he : s.engine ≠ .run) : (derivePump k p s).pumps = s.pumps := by
  unfold derivePump atHouseOf
  split
  · rfl
  · rw [derive_of_not_active (active_of_not_run he _)]

/-- Settles O20: outside RUN what is handed on leaves every pump record. -/
theorem standbyFeedback : Obligations.StandbyFeedback := by
  intro p s he q began
  have hinactive : ¬(s.pumpActive p && (s.pump p).panel == some .remote) = true := fun h => he (adopted_iff.mp h).1
  refine ⟨fun h => ?_, fun h => ?_, fun h => ?_, fun h => ?_⟩
  · have hrunning : q.run ≠ .running ∧ q.run ≠ .stopOrdered := by rcases h with h | h <;> rw [h] <;> decide
    rw [applyFeedback_running h, foundRunning_uncommanded hrunning.1 hrunning.2 hinactive, loadRose_of_not_run (s := setPump p _ s) he,
      pumps_derivePump_of_not_run, pumps_markPump, pumps_recompute]
    · rfl
    · rw [markPump_eq, engine_recompute]; exact he
  · rw [applyFeedback_confirmed h, startConfirmed_eq h (Bool.eq_false_iff.mpr hinactive), pumps_derivePump_of_not_run,
      pumps_markPump, pumps_endFlight]
    · rfl
    · rw [engine_of_apartOrders ((apartOrders_markPump _ _).trans (apartOrders_endFlight _ _))]; exact he
  · rw [applyFeedback_foundStopped h, foundStopped_eq h, pumps_derivePump_of_not_run, pumps_markPump]
    · rfl
    · rw [markPump_eq]; exact he
  · have hseen : (s.seenStopped .live p).pumps = s.pumps.set p (s.stoppedPump p) := by
      unfold State.seenStopped
      dsimp only
      rw [loadFell_of_not_run (s := setPump p _ s) he]
      split
      · rw [pumps_of_apartAlarms (apartAlarms_clear _ _ _), pumps_markPump, pumps_recompute]; rfl
      · rw [pumps_markPump, pumps_recompute]; rfl
    have hengine : (s.seenStopped .live p).engine ≠ .run := by
      rw [engine_of_apartOrders (apartOrders_seenStopped keeps_live)]; exact he
    have hpumps : (applyFeedback .live p false s).pumps = s.pumps.set p (s.stoppedPump p) := by
      rw [applyFeedback_stopped h, stopSeen_eq keeps_live]
      split
      · rw [pumps_derivePump_of_not_run, pumps_of_apartAlarms (apartAlarms_raise _ _ _ _ _), hseen]
        rw [engine_of_apartOrders (apartOrders_raise _ _ _ _ _)]; exact hengine
      · rw [pumps_derivePump_of_not_run hengine, hseen]
    rw [hpumps, State.stoppedPump, runSecondsNow_of_running h]

end

end Sys2Proof.Machine

/-! ## Confirm expiries and the requests at a pump (R52, R53, R57, R61) -/

namespace Sys2Proof.Machine

section

variable {s : State} {p : PumpId} {m : Second}

/-! ### Confirm expiries -/

theorem confirmDue_iff {run : RunState} {length : Nat} (horder : (s.pump p).order = .transmitted)
    (hmark : (s.pump p).confirmMark = some m) : s.confirmDue p run length = true
      ↔ (s.pump p).run = run ∧ (s.pump p).held = false ∧ length ≤ (s.now - m).toNat := by
  unfold State.confirmDue
  dsimp only
  rw [hmark, Bool.and_eq_true, reached_iff, horder]
  simp [and_assoc]

theorem not_confirmDue_of_held {run : RunState} {length : Nat} (hheld : (s.pump p).held = true) :
    ¬s.confirmDue p run length = true := by
  simp [State.confirmDue, hheld]

theorem isLocal_iff {q : Pump} : q.isLocal = true ↔ q.panel = some .hand ∨ q.panel = some .off := by
  simp [Pump.isLocal]

/-- A pump not yet reported acts as in REMOTE (log 34). -/
theorem not_isLocal_of_remote {q : Pump} (h : q.panel = some .remote ∨ q.panel = none) : q.isLocal = false := by
  rcases h with h | h <;> rw [Pump.isLocal, h] <;> rfl

theorem onlyIf_false (f : State → State) : onlyIf false f s = s := rfl

theorem startUnconfirmed_remote (h : (s.pump p).isLocal = false) : startUnconfirmed p s = derivePump .live p
    (raise .startFail p.val (some (s.pumpE p).power) .none
      (markPump p (loadFell .live (modPump p (fun q => { q with service := .failed }) (failCore p s))))) := by
  have htables : (markPump p (loadFell .live (modPump p (fun q => { q with service := .failed }) (failCore p s)))).tables
      = s.tables := by
    rw [tables_of_apartOrders ((apartOrders_markPump _ _).trans (apartOrders_loadFell _ keeps_live)), modPump_tables,
      tables_of_apartOrders (apartOrders_failCore s p)]
  unfold startUnconfirmed
  dsimp only
  rw [h, Bool.not_false, onlyIf_true, onlyIf_true, raisePump_of_tables htables]

theorem startUnconfirmed_local (h : (s.pump p).isLocal = true) : startUnconfirmed p s = derivePump .live p
    (markPump p (loadFell .live (failCore p s))) := by
  unfold startUnconfirmed
  dsimp only
  rw [h, Bool.not_true, onlyIf_false, onlyIf_false]

/-- The record of a start that ends with the pump standing, written out (R52, log 15). -/
theorem pumps_failCore (p : PumpId) (s : State) : (failCore p s).pumps = s.pumps.set p { s.pump p with
    run := .stopped, commanded := false, order := .none, stopMark := some s.now, orderTx := none
    confirmMark := none, admission := none, runSeconds := s.runSecondsNow p, accrualMark := s.now
    minOffOpen := decide (1 ≤ (s.pumpE p).minOff) } := by
  rw [failCore, pumps_endFlight, modPump_accrue]
  rfl

theorem house_failCore {h : HouseId} (hp : (s.pumpE p).house = some h)
    (hstart : (s.house h).start = .granted p ∨ (s.house h).start = .transmitted p) :
    ((failCore p s).house h).start = .none := by
  rw [failCore, modPump_accrue]
  rw [(endFlight_of_house (s := setPump p _ s) hp).1 hstart, house_modHouse_same]

/-- Settles O22: a due expiry acts by panel mode, and one of a held pump never comes. -/
theorem confirmExpiries : Obligations.ConfirmExpiries := by
  intro p m s horder hmark power remote
  have hstart (hrun : (s.pump p).run = .startOrdered) (hheld : (s.pump p).held = false)
      (hover : s.site.startConfirm ≤ (s.now - m).toNat) :
      exec (.startConfirmExpiry p) s = .next (startUnconfirmed p s) :=
    exec_of_due rfl ((confirmDue_iff horder hmark).mpr ⟨hrun, hheld, hover⟩)
  have hstop (hrun : (s.pump p).run = .stopOrdered) (hheld : (s.pump p).held = false)
      (hover : s.site.stopConfirm ≤ (s.now - m).toNat) :
      exec (.stopConfirmExpiry p) s = .next (stopUnconfirmed p s) :=
    exec_of_due rfl ((confirmDue_iff horder hmark).mpr ⟨hrun, hheld, hover⟩)
  refine ⟨fun hrun hheld hover => ⟨fun hremote => ?_, fun hlocal => ?_⟩, pumps_failCore p s,
    fun h hp hflight => house_failCore hp hflight, fun hrun hheld hover => ⟨fun hremote => ?_, fun hlocal => ?_⟩,
    fun hheld => ⟨exec_of_not_due rfl (not_confirmDue_of_held hheld), exec_of_not_due rfl (not_confirmDue_of_held hheld)⟩⟩
  · rw [hstart hrun hheld hover, startUnconfirmed_remote (not_isLocal_of_remote hremote)]
  · rw [hstart hrun hheld hover, startUnconfirmed_local (isLocal_iff.mpr hlocal)]
  · rw [hstop hrun hheld hover, stopUnconfirmed, not_isLocal_of_remote hremote]
    rfl
  · rw [hstop hrun hheld hover, stopUnconfirmed, isLocal_iff.mpr hlocal, runOnCore_eq]
    rfl

/-! ### PUMP SERVICE and SET RUN SECONDS -/

theorem pumpOf_val (p : PumpId) : pumpOf p.val = some p := by simp [pumpOf]

theorem usedPump_of_unused {b : Byte} (hb : b.toNat = p.val) (hp : (s.pumpE p).house = none) :
    s.usedPump b.toNat = none := by
  rw [State.usedPump, hb, pumpOf_val]
  simp [PumpEntry.used, hp]

theorem usedPump_of_used {b : Byte} {h : HouseId} (hb : b.toNat = p.val) (hp : (s.pumpE p).house = some h) :
    s.usedPump b.toNat = some p := by
  rw [State.usedPump, hb, pumpOf_val]
  simp [PumpEntry.used, hp]

/-- The service state of a pump changed by request (R57). -/
def serviceChanged (p : PumpId) (x : Service) (s : State) : State :=
  let u := markPump p (modPump p (fun q => { q with service := x }) s)
  if (s.pump p).service = .failed then clear .startFail p.val u else u

theorem clearStartFail_eq (x : Service) : clearStartFail ((s.pump p).service == .failed) p
    (markPump p (modPump p (fun q => { q with service := x }) s)) = serviceChanged p x s := by
  simp [clearStartFail, onlyIf, serviceChanged]

theorem serviceReturn_eq : serviceReturn p s = if (s.pump p).service = .inService then s else serviceChanged p .inService s := by
  unfold serviceReturn
  dsimp only
  rw [clearStartFail_eq]

theorem serviceWithdraw_eq :
    serviceWithdraw p s = if (s.pump p).service = .withdrawn then s else serviceChanged p .withdrawn s := by
  unfold serviceWithdraw
  dsimp only
  rw [clearStartFail_eq]

/-- Settles O24: a request at an unused pump is refused, and at a used one it does its operation and answers OK. -/
theorem pumpRequests : Obligations.PumpRequests := by
  intro b p v s hserves hb
  have hreturn : exec (.pumpServiceReturn b) s = .next (answer 0x47 (askService b (some serviceReturn) s)) :=
    congrArg Host.Outcome.next (asked_of_serves hserves _ _)
  have hwithdraw : exec (.pumpServiceWithdraw b) s = .next (answer 0x47 (askService b (some serviceWithdraw) s)) :=
    congrArg Host.Outcome.next (asked_of_serves hserves _ _)
  have hseconds : exec (.setRunSeconds b v) s = .next (answer 0x48 (askRunSeconds b v.toNat s)) :=
    congrArg Host.Outcome.next (asked_of_serves hserves _ _)
  refine ⟨fun hp => ?_, fun h hp => ?_⟩
  · have hnone := usedPump_of_unused hb hp
    have hrefused (f : PumpId → State → State) : askService b (some f) s = refuse .badIndex s := by
      unfold askService; rw [hnone]
    have hunset : askRunSeconds b v.toNat s = refuse .badIndex s := by
      unfold askRunSeconds; rw [hnone]
    rw [hreturn, hwithdraw, hseconds, hrefused, hrefused, hunset]
    exact ⟨rfl, rfl, rfl⟩
  · have hsome := usedPump_of_used hb hp
    have hserved (f : PumpId → State → State) : askService b (some f) s = done (f p s) := by
      unfold askService; rw [hsome]
    have hset : askRunSeconds b v.toNat s
        = done (modPump p (fun q => { q with runSeconds := v.toNat, accrualMark := s.now }) s) := by
      unfold askRunSeconds; rw [hsome]
    rw [hreturn, hwithdraw, hseconds, hserved, hserved, hset, serviceReturn_eq, serviceWithdraw_eq]
    exact ⟨rfl, rfl, rfl⟩

end

end Sys2Proof.Machine

/-! ## SAVE and the places of the images in the store (R61, R182, R183) -/

namespace Sys2Proof.Machine

/-! ### Lengths of the images -/

section

theorem length_of_mem_tableWords {ts : Tables} {x : TableId} {ws : List Nat} (h : ws ∈ tableWords ts x) :
    ws.length = fieldCount x := by
  cases x with
  | site => obtain rfl := List.mem_singleton.mp h; rfl
  | reservoir | house | pump | band | draw | calendar | plan =>
    obtain ⟨e, -, rfl⟩ := List.mem_map.mp h
    rfl

theorem length_flatMap_word16 (ws : List Nat) : (ws.flatMap word16).length = 2 * ws.length := by
  induction ws with
  | nil => rfl
  | cons w rest ih => simp [ih, word16]; omega

theorem length_flatMap_of_forall {α β : Type} {f : α → List β} {n : Nat} {l : List α} (h : ∀ a ∈ l, (f a).length = n) :
    (l.flatMap f).length = l.length * n := by
  induction l with
  | nil => simp
  | cons a rest ih =>
    rw [List.flatMap_cons, List.length_append, h a List.mem_cons_self, ih fun b hb => h b (List.mem_cons_of_mem _ hb),
      List.length_cons, Nat.succ_mul, Nat.add_comm]

/-- A table's content takes two bytes for each field of each entry (R178). -/
theorem length_tableContent (ts : Tables) (x : TableId) : (tableContent ts x).length = entryCount x * entrySize x := by
  have hentry (ws : List Nat) (h : ws ∈ tableWords ts x) : (ws.flatMap word16).length = entrySize x := by
    rw [length_flatMap_word16, length_of_mem_tableWords h, entrySize]
  rw [tableContent, length_flatMap_of_forall hentry, length_tableWords]

theorem length_imageBytes (image : Nat) (content : List Byte) : (imageBytes image content).length = content.length + 5 := by
  simp [imageBytes, word16]

/-- Each image that a SAVE makes takes the place expected of it (R182). -/
theorem length_imagesOf (ts : Tables) {ps : List Pump} (hps : ps.length = 32) (i : ImageId) :
    ((imagesOf ts ps).getD i.val []).length = imageLength i.val := by
  have hruns : (runContent ps).length = 160 := by rw [length_runContent, hps]
  fin_cases i <;>
    simp [imagesOf, length_imageBytes, length_tableContent, hruns, imageLength, contentLength, tableOf]

/-! ### Places in the store -/

theorem imageAddress_mono : Monotone imageAddress := monotone_nat_of_le_succ fun _ => Nat.le_add_right _ _

/-- An address within the place of an image lies in the place of no other. -/
theorem imageAt_place {i : ImageId} {k : Nat} (hk : k < imageLength i.val) : imageAt (imageAddress i.val + k) = some i := by
  have hsame (j : ImageId) (hj : imageAddress j.val ≤ imageAddress i.val + k
      ∧ imageAddress i.val + k < imageAddress j.val + imageLength j.val) : j = i := by
    obtain ⟨hlow, hhigh⟩ := hj
    rcases Nat.lt_trichotomy j.val i.val with hlt | heq | hgt
    · have hle : imageAddress j.val + imageLength j.val ≤ imageAddress i.val := imageAddress_mono hlt
      omega
    · exact Fin.ext heq
    · have hle : imageAddress i.val + imageLength i.val ≤ imageAddress j.val := imageAddress_mono hgt
      omega
  unfold imageAt
  cases hfind : (List.finRange 9).find? fun j =>
      decide (imageAddress j.val ≤ imageAddress i.val + k ∧ imageAddress i.val + k < imageAddress j.val + imageLength j.val) with
  | none =>
    have hi := List.find?_eq_none.mp hfind i (List.mem_finRange i)
    exact absurd (decide_eq_true ⟨Nat.le_add_right _ _, Nat.add_lt_add_left hk _⟩) hi
  | some j => 
    have hj := List.find?_some hfind
    rw [hsame j (of_decide_eq_true hj)]

theorem storeByte_whole {s : State} {i : ImageId} {bytes : List Byte} {k : Nat} (hwhole : s.store.get i = .whole bytes)
    (hk : k < imageLength i.val) : s.storeByte (imageAddress i.val + k) = bytes[k]? := by
  rw [State.storeByte, imageAt_place hk]
  dsimp only
  rw [hwhole, Nat.add_sub_cancel_left]

/-! ### SAVE -/

variable {s : State}

theorem askSave_busy {i : ImageId} (h : s.storeTx = .saving i) : askSave s = refuse .busy s := by
  unfold askSave; rw [h]

theorem askSave_idle (h : ∀ i, s.storeTx ≠ .saving i) : askSave s = (beginSave s, none) := by
  unfold askSave
  split
  · next i hi => exact absurd hi (h i)
  · rfl
  · rfl

/-- The content of a SAVE is that of the tables and of the run seconds brought up to date (R61, R183). -/
theorem beginSave_eq (s : State) : ∃ w, beginSave s = { s with
      pumps := w, saveContent := imagesOf s.tables w.toList, storeTx := .saving 0 }
    ∧ ∀ p : PumpId, w.get p = { s.pump p with runSeconds := s.runSecondsNow p, accrualMark := s.now } := by
  obtain ⟨w, hw, hget⟩ := accrueAll_setPumps s
  refine ⟨w, ?_, hget⟩
  rw [beginSave, hw]
  rfl

theorem imageWritten_next {i j : ImageId} (h : s.storeTx = .saving i) (hj : nextImage i = some j) : imageWritten s
    = { s with store := s.store.set i (.whole (s.saveContent.getD i.val [])), storeTx := .saving j } := by
  unfold imageWritten
  rw [h]
  dsimp only
  rw [hj]

theorem imageWritten_last {i : ImageId} (h : s.storeTx = .saving i) (hlast : nextImage i = none) : imageWritten s
    = endSave true { s with store := s.store.set i (.whole (s.saveContent.getD i.val [])) } := by
  unfold imageWritten
  rw [h]
  dsimp only
  rw [hlast]

theorem saveFault_of_saving {i : ImageId} (h : s.storeTx = .saving i) :
    saveFault s = endSave false { s with store := s.store.set i .partly } := by
  unfold saveFault; rw [h]

/-- Outside a SAVE the store's events do not act (log 5). -/
theorem imageWritten_idle (h : ∀ i, s.storeTx ≠ .saving i) : imageWritten s = s := by
  unfold imageWritten
  split
  · rfl
  · rfl
  · next i hi => exact absurd hi (h i)

theorem saveFault_idle (h : ∀ i, s.storeTx ≠ .saving i) : saveFault s = s := by
  unfold saveFault
  split
  · rfl
  · rfl
  · next i hi => exact absurd hi (h i)

theorem nextImage_of_succ {i j : ImageId} (h : j.val = i.val + 1) : nextImage i = some j := by
  have hlt : i.val + 1 < 9 := h ▸ j.isLt
  rw [nextImage, dif_pos hlt]
  exact congrArg some (Fin.ext h.symm)

/-- Settles O37: the transaction by the state of the store, and the places by the lengths expected of the images. -/
theorem saveRuns : Obligations.SaveRuns := by
  intro s
  have hlength : s.pumps.toList.length = 32 := by simp
  refine ⟨fun hserves => ⟨fun i hi => ?_, fun hidle => ?_⟩, fun i hi => ⟨fun j hj => ?_, ?_, ?_⟩, fun hidle => ⟨?_, ?_⟩,
    rfl, fun i => ?_, fun i k hwhole hk => ?_⟩
  · show Host.Outcome.next (asked 0x4B askSave s) = _
    rw [asked_of_serves hserves, askSave_busy hi, answer_refuse]
  · obtain ⟨w, hw, hget⟩ := beginSave_eq s
    have hexec : exec .save s = .next (beginSave s) := by
      show Host.Outcome.next (asked 0x4B askSave s) = _
      rw [asked_of_serves hserves, askSave_idle hidle]
      rfl
    refine ⟨beginSave s, hexec, ?_⟩
    rw [hw]
    exact ⟨rfl, hget, rfl, rfl⟩
  · show Host.Outcome.next (imageWritten s) = _
    rw [imageWritten_next hi (nextImage_of_succ hj)]
  · rintro rfl
    show Host.Outcome.next (imageWritten s) = _
    rw [imageWritten_last hi rfl]
    rfl
  · show Host.Outcome.next (saveFault s) = _
    rw [saveFault_of_saving hi]
    rfl
  · exact congrArg Host.Outcome.next (imageWritten_idle hidle)
  · exact congrArg Host.Outcome.next (saveFault_idle hidle)
  · rw [length_imagesOf s.tables hlength]; rfl
  · exact storeByte_whole hwhole (by rwa [length_imagesOf s.tables hlength] at hk)

end

end Sys2Proof.Machine

/-! ## READ LIVE (R45, R158, R181) -/

namespace Sys2Proof.Machine

/-- The items carried are a front of the list that fits, and the next item would not fit. -/
theorem fitItems_greedy (room : Nat) (l : List LiveItem) : ∃ rest, l = fitItems room l ++ rest
    ∧ ((fitItems room l).map itemSize).sum ≤ room
    ∧ ∀ i is, rest = i :: is → room < ((fitItems room l).map itemSize).sum + itemSize i := by
  induction l generalizing room with
  | nil => exact ⟨[], rfl, Nat.zero_le _, fun _ _ h => by cases h⟩
  | cons a l ih =>
    by_cases hfits : itemSize a ≤ room
    · obtain ⟨rest, hsplit, hsum, hnext⟩ := ih (room - itemSize a)
      rw [fitItems, if_pos hfits, List.map_cons, List.sum_cons]
      refine ⟨rest, congrArg (a :: ·) hsplit, by omega, fun i is h => ?_⟩
      have := hnext i is h
      omega
    · rw [fitItems, if_neg hfits]
      refine ⟨a :: l, rfl, Nat.zero_le _, fun i is h => ?_⟩
      obtain ⟨rfl, -⟩ := List.cons.inj h
      simpa using hfits

section

variable {s : State} {view first : Byte}

theorem byte_eq_iff {b c : Byte} : b.toNat = c.toNat ↔ b = c := ⟨BitVec.eq_of_toNat_eq, fun h => h ▸ rfl⟩

theorem lastItem_of_view_gt {n : Nat} (h : 7 < n) : lastItem n = none := by
  obtain ⟨m, rfl⟩ := Nat.exists_eq_add_of_le' h
  rfl

theorem beforeView_eq : beforeView view.toNat s = if view = 3 then accrueAll allPumps s else s :=
  if_congr (byte_eq_iff (c := 3)) rfl rfl

theorem afterView_eq : afterView view.toNat first.toNat s
    = if view = 6 ∧ first = 0 then { s with alarms := { s.alarms with overrun := false } } else s :=
  if_congr (and_congr (byte_eq_iff (c := 6)) (byte_eq_iff (c := 0))) rfl rfl

theorem readLive_badValue (h : lastItem view.toNat = none) : readLive view first s = refuse .badValue s := by
  unfold readLive; rw [h]

theorem readLive_badIndex {last : Nat} (hlast : lastItem view.toNat = some last) (h : last < first.toNat) :
    readLive view first s = refuse .badIndex s := by
  unfold readLive; rw [hlast]; exact if_pos h

theorem readLive_ok {last : Nat} (hlast : lastItem view.toNat = some last) (h : first.toNat ≤ last) :
    readLive view first s = (afterView view.toNat first.toNat (beforeView view.toNat s),
      some (.ok, (beforeView view.toNat s).viewData view.toNat first.toNat)) := by
  unfold readLive; rw [hlast]; exact if_neg (Nat.not_lt.mpr h)

/-- The data of a live view, by the items carried and the rest of the view. -/
theorem viewData_of_split {n m : Nat} {carried rest : List LiveItem} (hcarried : fitItems 112 ((s.viewItems n).drop m) = carried)
    (hsplit : (s.viewItems n).drop m = carried ++ rest) :
    s.viewData n m = .live n m (if rest = [] then 255 else m + carried.length) carried := by
  have hlt : carried.length < ((s.viewItems n).drop m).length ↔ ¬rest = [] := by
    rw [hsplit, List.length_append, ← List.length_eq_zero_iff]
    omega
  unfold State.viewData
  dsimp only
  rw [hcarried, if_congr hlt rfl rfl, ite_not]

/-- Settles O36: the refusals by the view's last item, and the items carried by `fitItems_greedy`. -/
theorem readLiveAnswer : Obligations.ReadLiveAnswer := by
  intro view first s hserves
  have hexec : exec (.readLive view first) s = .next (answer 0x42 (readLive view first s)) :=
    congrArg Host.Outcome.next (asked_of_serves hserves _ _)
  refine ⟨fun hview => ?_, fun last hlast => ⟨fun hfirst => ?_, fun hfirst => ?_⟩⟩
  · rw [hexec, readLive_badValue (lastItem_of_view_gt hview), answer_refuse]
  · rw [hexec, readLive_badIndex hlast hfirst, answer_refuse]
  · intro t u
    obtain ⟨rest, hsplit, hsum, hnext⟩ := fitItems_greedy 112 ((t.viewItems view.toNat).drop first.toNat)
    refine ⟨_, rest, hsplit, hsum, hnext, ?_⟩
    rw [hexec, readLive_ok hlast hfirst, beforeView_eq, viewData_of_split rfl hsplit, afterView_eq]
    rfl

end

end Sys2Proof.Machine

/-! ## The orders in which pumps are chosen (R58, R99, R100, R103, R129, R130) -/

namespace Sys2Proof.Machine

/-! ### A best element kept over a list -/

section

variable {α : Type} {f : Option α → α → Option α} {R : α → α → Prop}

/-- Of an element held and a later one, `f` keeps one that `R` puts first. -/
def Picks (f : Option α → α → Option α) (R : α → α → Prop) (b a : α) : Prop :=
  (f (some b) a = some a ∧ R a b) ∨ (f (some b) a = some b ∧ R b a)

theorem foldl_picks_some (hrefl : ∀ a, R a a) (htrans : ∀ a b c, R a b → R b c → R a c) {b : α} {l : List α}
    (hl : (b :: l).Pairwise (Picks f R)) : ∃ r ∈ b :: l, l.foldl f (some b) = some r ∧ ∀ a ∈ b :: l, R r a := by
  induction l generalizing b with
  | nil => exact ⟨b, List.mem_cons_self, rfl, fun a ha => List.mem_singleton.mp ha ▸ hrefl b⟩
  | cons a rest ih =>
    obtain ⟨hb, hrest⟩ := List.pairwise_cons.mp hl
    rcases hb a List.mem_cons_self with ⟨hf, hab⟩ | ⟨hf, hba⟩
    · obtain ⟨r, hr, hfold, hbest⟩ := ih hrest
      refine ⟨r, List.mem_cons_of_mem _ hr, by rw [List.foldl_cons, hf, hfold], fun c hc => ?_⟩
      rcases List.mem_cons.mp hc with rfl | hc
      · exact htrans _ _ _ (hbest a List.mem_cons_self) hab
      · exact hbest c hc
    · have hkept : (b :: rest).Pairwise (Picks f R) :=
        List.pairwise_cons.mpr ⟨fun c hc => hb c (List.mem_cons_of_mem _ hc), (List.pairwise_cons.mp hrest).2⟩
      obtain ⟨r, hr, hfold, hbest⟩ := ih hkept
      refine ⟨r, (List.mem_cons.mp hr).elim (fun h => h ▸ List.mem_cons_self)
        fun h => List.mem_cons_of_mem _ (List.mem_cons_of_mem _ h), by rw [List.foldl_cons, hf, hfold], fun c hc => ?_⟩
      rcases List.mem_cons.mp hc with rfl | hc
      · exact hbest c List.mem_cons_self
      · rcases List.mem_cons.mp hc with rfl | hc
        · exact htrans _ _ _ (hbest b List.mem_cons_self) hba
        · exact hbest c (List.mem_cons_of_mem _ hc)

/-- A fold that keeps the better of two elements ends with one that comes first of all, and with none for no element. -/
theorem foldl_picks (hnone : ∀ a, f none a = some a) (hrefl : ∀ a, R a a) (htrans : ∀ a b c, R a b → R b c → R a c)
    {l : List α} (hl : l.Pairwise (Picks f R)) :
    (l.foldl f none = none ↔ l = []) ∧ ∀ r, l.foldl f none = some r → r ∈ l ∧ ∀ a ∈ l, R r a := by
  cases l with
  | nil => exact ⟨⟨fun _ => rfl, fun _ => rfl⟩, fun _ h => by cases h⟩
  | cons b rest =>
    obtain ⟨r, hr, hfold, hbest⟩ := foldl_picks_some hrefl htrans hl
    have hcons : (b :: rest).foldl f none = some r := by rw [List.foldl_cons, hnone, hfold]
    rw [hcons]
    refine ⟨iff_of_false (Option.some_ne_none r) (List.cons_ne_nil b rest), fun q hq => ?_⟩
    obtain rfl := Option.some.inj hq
    exact ⟨hr, hbest⟩

end

/-! ### Least by two keys, then by pump id -/

section

variable {A B : Type} [LinearOrder A] [LinearOrder B] {f : Option PumpId → PumpId → Option PumpId} {l : List PumpId}

/-- `p` comes first by the keys `u` and `v`, or has the keys of `q` and is no higher in id. -/
def Least (u : PumpId → A) (v : PumpId → B) (p q : PumpId) : Prop :=
  u p < u q ∨ (u p = u q ∧ (v p < v q ∨ (v p = v q ∧ p ≤ q)))

theorem least_iff (u : PumpId → A) (v : PumpId → B) (p q : PumpId) :
    Least u v p q ↔ toLex (u p, toLex (v p, p)) ≤ toLex (u q, toLex (v q, q)) := by
  rw [Prod.Lex.toLex_le_toLex, Prod.Lex.toLex_le_toLex]
  exact Iff.rfl

theorem least_refl (u : PumpId → A) (v : PumpId → B) (p : PumpId) : Least u v p p := (least_iff u v p p).mpr le_rfl

theorem least_trans (u : PumpId → A) (v : PumpId → B) (p q r : PumpId) (hpq : Least u v p q) (hqr : Least u v q r) :
    Least u v p r :=
  (least_iff u v p r).mpr (((least_iff u v p q).mp hpq).trans ((least_iff u v q r).mp hqr))

/-- A fold over ascending pumps that replaces the pump held by one strictly before it in the keys keeps the least. -/
theorem foldl_least (u : PumpId → A) (v : PumpId → B) (hasc : l.Pairwise (· < ·)) (hnone : ∀ a, f none a = some a)
    (hlt : ∀ b ∈ l, ∀ a ∈ l, (u a < u b ∨ (u a = u b ∧ v a < v b)) → f (some b) a = some a)
    (hge : ∀ b ∈ l, ∀ a ∈ l, ¬(u a < u b ∨ (u a = u b ∧ v a < v b)) → f (some b) a = some b) :
    (l.foldl f none = none ↔ l = []) ∧ ∀ r, l.foldl f none = some r → r ∈ l ∧ ∀ a ∈ l, Least u v r a := by
  refine foldl_picks hnone (least_refl u v) (least_trans u v) (hasc.imp_of_mem fun {b a} hb ha hba => ?_)
  by_cases hbefore : u a < u b ∨ (u a = u b ∧ v a < v b)
  · exact .inl ⟨hlt b hb a ha hbefore, hbefore.imp_right fun h => ⟨h.1, .inl h.2⟩⟩
  · refine .inr ⟨hge b hb a ha hbefore, ?_⟩
    obtain ⟨hu, hv⟩ := not_or.mp hbefore
    rcases (not_lt.mp hu).lt_or_eq with h | h
    · exact .inl h
    · rcases (not_lt.mp fun hlt => hv ⟨h.symm, hlt⟩).lt_or_eq with h' | h'
      · exact .inr ⟨h, .inl h'⟩
      · exact .inr ⟨h, .inr ⟨h', hba.le⟩⟩

end

section

variable {s : State}

theorem ascending_allPumps : allPumps.Pairwise (· < ·) := List.pairwise_lt_finRange 32

theorem ascending_pumpsOf (s : State) (h : HouseId) : (s.pumpsOf h).Pairwise (· < ·) := ascending_allPumps.filter _

theorem eq_nil_iff_of_mem {α : Type} {l : List α} {P : α → Prop} (hmem : ∀ a, a ∈ l ↔ P a) : l = [] ↔ ∀ a, ¬P a := by
  rw [List.eq_nil_iff_forall_not_mem]
  exact forall_congr' fun a => not_congr (hmem a)

theorem minRunDone_iff {p : PumpId} :
    s.minRunDone p = true ↔ (s.pumpE p).minRun ≤ (s.now - (s.pump p).runStart).toNat := reached_iff

theorem commandedRunning_iff {q : Pump} : q.commandedRunning = true ↔ q.run = .running ∧ q.commanded = true := by
  simp [Pump.commandedRunning]

/-! ### Shedding (R129, R130) -/

theorem shedable_iff {p : PumpId} : s.shedable p = true ↔ ∃ h, (s.pumpE p).house = some h ∧ (s.pump p).run = .running
    ∧ (s.pump p).commanded = true ∧ (s.houseE h).used = true ∧ (s.house h).mode = .auto
    ∧ (s.house h).need ≠ .emergency := by
  unfold State.shedable
  cases (s.pumpE p).house with
  | none => simp
  | some h => simp [commandedRunning_iff, and_assoc]

/-- The pumps that a shedding check may stop now. -/
def State.shedCandidates (s : State) : List PumpId := allPumps.filter fun p => s.shedable p && s.minRunDone p

theorem mem_shedCandidates {p : PumpId} : p ∈ s.shedCandidates ↔ ∃ h, (s.pumpE p).house = some h
    ∧ (s.pump p).run = .running ∧ (s.pump p).commanded = true ∧ (s.houseE h).used = true ∧ (s.house h).mode = .auto
    ∧ (s.house h).need ≠ .emergency ∧ (s.pumpE p).minRun ≤ (s.now - (s.pump p).runStart).toNat := by
  simp only [State.shedCandidates, List.mem_filter, mem_allPumps, true_and, Bool.and_eq_true, shedable_iff, minRunDone_iff]
  constructor
  · rintro ⟨⟨h, hh, hrun, hcommanded, hused, hmode, hneed⟩, hdone⟩
    exact ⟨h, hh, hrun, hcommanded, hused, hmode, hneed, hdone⟩
  · rintro ⟨h, hh, hrun, hcommanded, hused, hmode, hneed, hdone⟩
    exact ⟨⟨h, hh, hrun, hcommanded, hused, hmode, hneed⟩, hdone⟩

/-- The need of a pump's house, by rank; a candidate names a house. -/
def State.pumpNeed (s : State) (p : PumpId) : Nat := ((s.pumpE p).house.map fun h => (s.house h).need.rank).getD 0

/-- The distance of a pump's house from its stop level, with no usable level last. -/
def State.pumpMargin (s : State) (p : PumpId) : WithTop Int := ((s.pumpE p).house.bind fun h => s.stopMargin h : Option Int)

theorem shedBefore_iff {p q : PumpId} {h g : HouseId} (hp : (s.pumpE p).house = some h) (hq : (s.pumpE q).house = some g) :
    s.shedBefore h g = true
      ↔ s.pumpNeed p < s.pumpNeed q ∨ (s.pumpNeed p = s.pumpNeed q ∧ s.pumpMargin p < s.pumpMargin q) := by
  have hneedp : s.pumpNeed p = (s.house h).need.rank := by rw [State.pumpNeed, hp]; rfl
  have hneedq : s.pumpNeed q = (s.house g).need.rank := by rw [State.pumpNeed, hq]; rfl
  unfold State.shedBefore State.pumpMargin
  rw [Bool.or_eq_true, Bool.and_eq_true, hneedp, hneedq, hp, hq, Option.bind_some, Option.bind_some]
  refine or_congr decide_eq_true_iff (and_congr beq_iff_eq ?_)
  cases s.stopMargin h with
  | none => exact ⟨fun h => Bool.noConfusion h, fun h => absurd h not_top_lt⟩
  | some a =>
    cases s.stopMargin g with
    | none => exact ⟨fun _ => WithTop.coe_lt_top a, fun _ => rfl⟩
    | some b => exact decide_eq_true_iff.trans WithTop.coe_lt_coe.symm

theorem house_of_candidate {p : PumpId} (hp : p ∈ s.shedCandidates) : ∃ h, (s.pumpE p).house = some h :=
  (mem_shedCandidates.mp hp).imp fun _ h => h.1

theorem shedPick_some {b a : PumpId} (hb : b ∈ s.shedCandidates) (ha : a ∈ s.shedCandidates) : s.shedPick (some b) a
    = if s.pumpNeed a < s.pumpNeed b ∨ (s.pumpNeed a = s.pumpNeed b ∧ s.pumpMargin a < s.pumpMargin b) then some a
      else some b := by
  obtain ⟨h, hh⟩ := house_of_candidate ha
  obtain ⟨g, hg⟩ := house_of_candidate hb
  unfold State.shedPick
  dsimp only
  rw [hh, hg]
  exact if_congr (shedBefore_iff hh hg) rfl rfl

theorem shedNext_least : (s.shedNext = none ↔ s.shedCandidates = []) ∧ ∀ r, s.shedNext = some r →
    r ∈ s.shedCandidates ∧ ∀ a ∈ s.shedCandidates, Least s.pumpNeed s.pumpMargin r a :=
  foldl_least s.pumpNeed s.pumpMargin (ascending_allPumps.filter _) (fun _ => rfl)
    (fun _ hb _ ha h => (shedPick_some hb ha).trans (if_pos h)) (fun _ hb _ ha h => (shedPick_some hb ha).trans (if_neg h))

theorem needRank_inj {a b : Need} : a.rank = b.rank ↔ a = b := by cases a <;> cases b <;> decide

theorem usable_iff {x : Source} : x.usable = true ↔ x = .live ∨ x = .estimated := by cases x <;> decide

/-- The margin of a pump's house, where its delivery level is usable, and none otherwise (R130). -/
theorem pumpMargin_of_house {p : PumpId} {h : HouseId} (hp : (s.pumpE p).house = some h) : s.pumpMargin p
    = if (s.res (s.houseE h).delivery).source = .live ∨ (s.res (s.houseE h).delivery).source = .estimated then
        (((s.bandE h s.period.cls).stop : Int) - ((s.res (s.houseE h).delivery).level : Int) : WithTop Int)
      else ⊤ := by
  unfold State.pumpMargin State.stopMargin
  rw [hp]
  simp only [usable_iff, Option.bind_some]
  split
  · rfl
  · rfl

/-! ### The pumps of a house (R58, R99, R100, R103) -/

theorem eligible_iff {p : PumpId} {h : HouseId} (hp : (s.pumpE p).house = some h) : s.eligible p = true
    ↔ (s.pump p).run = .stopped ∧ (s.pump p).panel = some .remote ∧ (s.pump p).fault = some 0
      ∧ (s.pump p).service = .inService
      ∧ (∀ m, (s.pump p).stopMark = some m → (s.pumpE p).minOff ≤ (s.now - m).toNat)
      ∧ (s.pump p).history.length < (s.pumpE p).maxStarts ∧ (s.station h).state = .heard := by
  have hoff : s.minOffDone p = true ↔ ∀ m, (s.pump p).stopMark = some m → (s.pumpE p).minOff ≤ (s.now - m).toNat := by
    unfold State.minOffDone
    cases (s.pump p).stopMark with
    | none => simp
    | some m => simp [reached_iff]
  have hroom : s.historyRoom p = true ↔ (s.pump p).history.length < (s.pumpE p).maxStarts := by simp [State.historyRoom]
  have hheard : s.stationHeard p = true ↔ (s.station h).state = .heard := by simp [State.stationHeard, hp]
  rw [← hoff, ← hroom, ← hheard, State.eligible]
  unfold State.ineligible
  dsimp only
  split_ifs <;> simp_all

theorem mem_startChoices {p : PumpId} {h : HouseId} : (p ∈ (s.pumpsOf h).filter fun p => s.eligible p)
    ↔ (s.pumpE p).house = some h ∧ (s.pump p).run = .stopped ∧ (s.pump p).panel = some .remote
      ∧ (s.pump p).fault = some 0 ∧ (s.pump p).service = .inService
      ∧ (∀ m, (s.pump p).stopMark = some m → (s.pumpE p).minOff ≤ (s.now - m).toNat)
      ∧ (s.pump p).history.length < (s.pumpE p).maxStarts ∧ (s.station h).state = .heard := by
  rw [List.mem_filter, mem_pumpsOf]
  exact and_congr_right fun hp => eligible_iff hp

theorem startCandidate_least (h : HouseId) :
    (s.startCandidate h = none ↔ ((s.pumpsOf h).filter fun p => s.eligible p) = [])
    ∧ ∀ r, s.startCandidate h = some r → (r ∈ (s.pumpsOf h).filter fun p => s.eligible p)
      ∧ ∀ a ∈ (s.pumpsOf h).filter fun p => s.eligible p, Least s.runSecondsNow (fun p => (s.pumpE p).slot) r a := by
  have hpick (b a : PumpId) : s.pickStart (some b) a = if s.runSecondsNow a < s.runSecondsNow b
      ∨ (s.runSecondsNow a = s.runSecondsNow b ∧ (s.pumpE a).slot < (s.pumpE b).slot) then some a else some b :=
    if_congr (by simp) rfl rfl
  exact foldl_least _ _ ((ascending_pumpsOf s h).filter _) (fun _ => rfl) (fun b _ a _ h => (hpick b a).trans (if_pos h))
    (fun b _ a _ h => (hpick b a).trans (if_neg h))

theorem mem_runners {p : PumpId} {h : HouseId} {out : List PumpId} : p ∈ s.runners h out
    ↔ (s.pumpE p).house = some h ∧ ((s.pump p).run = .running ∧ (s.pump p).commanded = true) ∧ p ∉ out := by
  simp [State.runners, mem_pumpsOf, commandedRunning_iff]

theorem ascending_runners (s : State) (h : HouseId) (out : List PumpId) : (s.runners h out).Pairwise (· < ·) :=
  (ascending_pumpsOf s h).filter _

theorem mem_stopChoices {p : PumpId} {h : HouseId} {out : List PumpId} :
    (p ∈ (s.runners h out).filter fun p => s.minRunDone p)
    ↔ ((s.pumpE p).house = some h ∧ (s.pump p).run = .running ∧ (s.pump p).commanded = true) ∧ p ∉ out
      ∧ (s.pumpE p).minRun ≤ (s.now - (s.pump p).runStart).toNat := by
  simp only [List.mem_filter, mem_runners, minRunDone_iff, and_assoc]

/-- The stop candidate comes last in the order of start candidates: it has the most run seconds, then the highest slot, then
the highest id (R100). -/
theorem stopCandidate_greatest (h : HouseId) (out : List PumpId) :
    (s.stopCandidate h out = none ↔ ((s.runners h out).filter fun p => s.minRunDone p) = [])
    ∧ ∀ r, s.stopCandidate h out = some r → (r ∈ (s.runners h out).filter fun p => s.minRunDone p)
      ∧ ∀ a ∈ (s.runners h out).filter fun p => s.minRunDone p, Least s.runSecondsNow (fun p => (s.pumpE p).slot) a r := by
  refine foldl_picks (R := fun r a => Least s.runSecondsNow (fun p => (s.pumpE p).slot) a r) (fun _ => rfl)
    (least_refl _ _) (fun a b c hab hbc => least_trans _ _ c b a hbc hab)
    (((ascending_runners s h out).filter _).imp fun {b a} hba => ?_)
  have hpick : s.pickStop (some b) a = if s.runSecondsNow b < s.runSecondsNow a
      ∨ (s.runSecondsNow b = s.runSecondsNow a ∧ (s.pumpE b).slot ≤ (s.pumpE a).slot) then some a else some b :=
    if_congr (by simp) rfl rfl
  by_cases hlater : s.runSecondsNow b < s.runSecondsNow a
      ∨ (s.runSecondsNow b = s.runSecondsNow a ∧ (s.pumpE b).slot ≤ (s.pumpE a).slot)
  · refine .inl ⟨hpick.trans (if_pos hlater), hlater.imp_right fun h => ⟨h.1, ?_⟩⟩
    exact h.2.lt_or_eq.imp_right fun heq => ⟨heq, hba.le⟩
  · obtain ⟨hseconds, hslot⟩ := not_or.mp hlater
    refine .inr ⟨hpick.trans (if_neg hlater), ?_⟩
    rcases (not_lt.mp hseconds).lt_or_eq with h | h
    · exact .inl h
    · exact .inr ⟨h, .inl (not_le.mp fun hle => hslot ⟨h.symm, hle⟩)⟩

theorem oldest_least (h : HouseId) : (s.oldest h = none ↔ s.runners h [] = [])
    ∧ ∀ r, s.oldest h = some r → r ∈ s.runners h [] ∧ ∀ a ∈ s.runners h [],
      Least (fun p => OrderDual.toDual (s.now - (s.pump p).runStart).toNat) (fun p => (s.pumpE p).slot) r a := by
  have hpick (b a : PumpId) : s.pickOldest (some b) a
      = if OrderDual.toDual (s.now - (s.pump a).runStart).toNat < OrderDual.toDual (s.now - (s.pump b).runStart).toNat
        ∨ (OrderDual.toDual (s.now - (s.pump a).runStart).toNat = OrderDual.toDual (s.now - (s.pump b).runStart).toNat
          ∧ (s.pumpE a).slot < (s.pumpE b).slot) then some a else some b :=
    if_congr (by
      rw [Bool.or_eq_true, Bool.and_eq_true, decide_eq_true_iff, decide_eq_true_iff, beq_iff_eq,
        OrderDual.toDual_lt_toDual, OrderDual.toDual_inj, eq_comm (a := s.since (s.pump b).runStart)]
      rfl) rfl rfl
  exact foldl_least _ _ (ascending_runners s h []) (fun _ => rfl) (fun b _ a _ h => (hpick b a).trans (if_pos h))
    (fun b _ a _ h => (hpick b a).trans (if_neg h))

/-! ### The end of a shedding check (R131) -/

/-- The pumps that run under command. -/
def State.commandedRunners (s : State) : Finset PumpId := Finset.univ.filter fun p => (s.pump p).commandedRunning = true

theorem pumps_derivePump_quiet (p : PumpId) (s : State) : (derivePump .quiet p s).pumps = s.pumps := by
  unfold derivePump atHouseOf
  split
  · rfl
  · unfold derive placeOrders
    dsimp only
    split_ifs <;> rfl

/-- A pump stopped runs no longer under command, and the others stand. -/
theorem commandedRunners_stopped {p : PumpId} (hp : (s.pump p).commandedRunning = true) :
    (derivePump .quiet p (markPump p (stopCore p s))).commandedRunners ⊂ s.commandedRunners := by
  have hpumps : (derivePump .quiet p (markPump p (stopCore p s))).pumps = (stopCore p s).pumps := by
    rw [pumps_derivePump_quiet, markPump_eq]
  have hpump (q : PumpId) : (derivePump .quiet p (markPump p (stopCore p s))).pump q = (stopCore p s).pump q :=
    congrArg (fun v : Vector Pump 32 => v.get q) hpumps
  refine (Finset.ssubset_iff_of_subset fun q hq => ?_).mpr ⟨p, ?_, fun hq => ?_⟩
  · simp only [State.commandedRunners, Finset.mem_filter, Finset.mem_univ, true_and] at hq ⊢
    rw [hpump, stopCore, pump_modPump] at hq
    split at hq
    · cases hq
    · next hne => rwa [accrue, pump_modPump, if_neg hne] at hq
  · simpa [State.commandedRunners] using hp
  · simp only [State.commandedRunners, Finset.mem_filter, Finset.mem_univ, true_and] at hq
    rw [hpump, stopCore, pump_modPump_same] at hq
    cases hq

theorem shedLoop_ends (n : Nat) (s : State) (hn : s.commandedRunners.card < n) :
    (shedLoop .quiet n s).projectedLoad ≤ (shedLoop .quiet n s).budget ∨ (shedLoop .quiet n s).shedNext = none := by
  induction n generalizing s with
  | zero => exact absurd hn (Nat.not_lt_zero _)
  | succ n ih =>
    unfold shedLoop
    split
    · next hload => exact .inl hload
    · cases hnext : s.shedNext with
      | none => exact .inr hnext
      | some p =>
        obtain ⟨-, -, hrun, hcommanded, -⟩ := mem_shedCandidates.mp (shedNext_least.2 p hnext).1
        have hless := Finset.card_lt_card (commandedRunners_stopped (commandedRunning_iff.mpr ⟨hrun, hcommanded⟩))
        exact ih _ (by omega)

theorem card_commandedRunners_le (s : State) : s.commandedRunners.card ≤ 32 := by
  simpa using Finset.card_le_univ s.commandedRunners

theorem shed_ends (he : s.engine = .run) :
    (shed .quiet s).projectedLoad ≤ (shed .quiet s).budget ∨ (shed .quiet s).shedNext = none := by
  rw [shed, if_pos he]
  exact shedLoop_ends 33 s (Nat.lt_succ_of_le (card_commandedRunners_le s))

/-- The order of shedding, in terms of two houses' needs and levels (R130). -/
theorem least_shed {p q : PumpId} {h g : HouseId} (hp : (s.pumpE p).house = some h) (hq : (s.pumpE q).house = some g)
    (hleast : Least s.pumpNeed s.pumpMargin p q) :
    let usable := fun h => (s.res (s.houseE h).delivery).source = .live ∨ (s.res (s.houseE h).delivery).source = .estimated
    let margin := fun h => ((s.bandE h s.period.cls).stop : Int) - ((s.res (s.houseE h).delivery).level : Int)
    (s.house h).need.rank < (s.house g).need.rank
      ∨ ((s.house h).need = (s.house g).need
        ∧ ((usable h ∧ usable g ∧ margin h < margin g) ∨ (usable h ∧ ¬usable g)
          ∨ (((usable h ∧ usable g ∧ margin h = margin g) ∨ (¬usable h ∧ ¬usable g)) ∧ p ≤ q))) := by
  intro usable margin
  have hneedp : s.pumpNeed p = (s.house h).need.rank := by rw [State.pumpNeed, hp]; rfl
  have hneedq : s.pumpNeed q = (s.house g).need.rank := by rw [State.pumpNeed, hq]; rfl
  have hmarginp : s.pumpMargin p = if usable h then (margin h : WithTop Int) else ⊤ := pumpMargin_of_house hp
  have hmarginq : s.pumpMargin q = if usable g then (margin g : WithTop Int) else ⊤ := pumpMargin_of_house hq
  unfold Least at hleast
  rw [hneedp, hneedq, needRank_inj] at hleast
  refine hleast.imp_right fun ⟨hneed, hrest⟩ => ⟨hneed, ?_⟩
  rw [hmarginp, hmarginq] at hrest
  by_cases hh : usable h <;> by_cases hg : usable g
  · rw [if_pos hh, if_pos hg, WithTop.coe_lt_coe, WithTop.coe_inj] at hrest
    rcases hrest with hlt | ⟨heq, hle⟩
    · exact .inl ⟨hh, hg, hlt⟩
    · exact .inr (.inr ⟨.inl ⟨hh, hg, heq⟩, hle⟩)
  · exact .inr (.inl ⟨hh, hg⟩)
  · rw [if_neg hh, if_pos hg] at hrest
    rcases hrest with hlt | ⟨heq, -⟩
    · exact absurd hlt not_top_lt
    · exact absurd heq.symm (WithTop.coe_ne_top)
  · rw [if_neg hh, if_neg hg] at hrest
    rcases hrest with hlt | ⟨-, hle⟩
    · exact absurd hlt not_top_lt
    · exact .inr (.inr ⟨.inr ⟨hh, hg⟩, hle⟩)

/-- Settles O57: each choice is the first of its list in the order of its keys, and a shedding check stops a pump that runs
under command at each turn. -/
theorem sheddingOrder : Obligations.SheddingOrder := by
  intro s candidate usable margin slot
  have hcandidate (p : PumpId) : p ∈ s.shedCandidates ↔ ∃ h, candidate p h := mem_shedCandidates
  refine ⟨?_, fun p hp => ?_, shed_ends, fun h => ?_⟩
  · rw [shedNext_least.1, eq_nil_iff_of_mem hcandidate]
    exact forall_congr' fun p => not_exists
  · obtain ⟨hmem, hleast⟩ := shedNext_least.2 p hp
    obtain ⟨h, hh⟩ := (hcandidate p).mp hmem
    exact ⟨h, hh, fun q g hg => least_shed hh.1 hg.1 (hleast q ((hcandidate q).mpr ⟨g, hg⟩))⟩
  · intro ready runner leaves age
    have hrunner (p : PumpId) : p ∈ s.runners h [] ↔ runner p :=
      mem_runners.trans ⟨fun ⟨hh, hrun, _⟩ => ⟨hh, hrun⟩, fun ⟨hh, hrun⟩ => ⟨hh, hrun, List.not_mem_nil⟩⟩
    obtain ⟨hstart, hstartLeast⟩ := startCandidate_least (s := s) h
    obtain ⟨hold, holdLeast⟩ := oldest_least (s := s) h
    refine ⟨hstart.trans (eq_nil_iff_of_mem fun p => mem_startChoices), fun p hp => ?_,
      fun out => (stopCandidate_greatest h out).1.trans (eq_nil_iff_of_mem fun p => mem_stopChoices), fun out p hp => ?_,
      hold.trans (eq_nil_iff_of_mem hrunner), fun p hp => ?_⟩
    · obtain ⟨hmem, hleast⟩ := hstartLeast p hp
      exact ⟨mem_startChoices.mp hmem, fun q hq => hleast q (mem_startChoices.mpr hq)⟩
    · obtain ⟨hmem, hmost⟩ := (stopCandidate_greatest h out).2 p hp
      exact ⟨mem_stopChoices.mp hmem, fun q hq => hmost q (mem_stopChoices.mpr hq)⟩
    · obtain ⟨hmem, hleast⟩ := holdLeast p hp
      refine ⟨(hrunner p).mp hmem, fun q hq => ?_⟩
      have hpq := hleast q ((hrunner q).mpr hq)
      exact hpq.imp id fun ⟨heq, hrest⟩ => ⟨(OrderDual.toDual_inj.mp heq).symm, hrest⟩

end

end Sys2Proof.Machine

/-! ## The stage count and the decisions that bring a house's pumps to it (R50, R87, R90, R91, R93, R94, R100) -/

namespace Sys2Proof.Machine

/-! ### The stage count (R87) -/

section

variable {b : BandEntry} {level : Nat}

theorem engage_le {fuel d : Nat} (hd : d ≤ 4) : engage b level fuel d ≤ 4 := by
  induction fuel generalizing d with
  | zero => exact hd
  | succ fuel ih =>
    rw [engage]
    split
    · next h =>
      simp only [Bool.and_eq_true, decide_eq_true_eq] at h
      exact ih h.1.1
    · exact hd

/-- No stage is left to engage (R87, step 3). -/
theorem engage_complete {fuel d : Nat} (hd : 4 ≤ d + fuel) :
    let D := engage b level fuel d
    D < 4 → b.inUse (D + 1) = true → b.stage (D + 1) < level := by
  induction fuel generalizing d with
  | zero => exact fun hlt _ => absurd hlt (by rw [engage]; omega)
  | succ fuel ih =>
    rw [engage]
    split
    · exact ih (by omega)
    · next h =>
      intro D hlt huse
      simp only [Bool.and_eq_true, decide_eq_true_eq, not_and] at h
      exact Nat.not_le.mp (h ⟨hlt, huse⟩)

/-- A stage that disengages ends where the next would not, and the stage above it is below the level (R87, step 4). -/
theorem disengage_complete (hhyst : 1 ≤ b.hyst) {fuel d : Nat} (hd : d ≤ fuel + 1) :
    let D := disengage b level fuel d
    D ≤ d ∧ (D = d ∨ b.stage (D + 1) < level) ∧ (2 ≤ D → level < b.stage D + b.hyst) := by
  induction fuel generalizing d with
  | zero => exact ⟨Nat.le_refl d, .inl rfl, fun h => absurd h (by rw [disengage]; omega)⟩
  | succ fuel ih =>
    rw [disengage]
    split
    · next h =>
      simp only [Bool.and_eq_true, decide_eq_true_eq] at h
      obtain ⟨htwo, hover⟩ := h
      obtain ⟨hle, hstage, hkept⟩ := ih (d := d - 1) (by omega)
      refine ⟨by omega, .inr ?_, hkept⟩
      rcases hstage with heq | hlt
      · rw [heq, Nat.sub_add_cancel (by omega)]; omega
      · exact hlt
    · next h =>
      simp only [Bool.and_eq_true, decide_eq_true_eq, not_and, Nat.not_le] at h
      exact ⟨Nat.le_refl d, .inl rfl, h⟩

theorem stages_le : b.stages ≤ 4 := List.countP_le_length

theorem stagesFor_at_stop {d : Nat} (h : b.stop ≤ level) : stagesFor b level d = 0 := if_pos h

theorem stagesFor_below_stop {d : Nat} (hlevel : level < b.stop) (hhyst : 1 ≤ b.hyst) :
    let D := stagesFor b level d
    D ≤ 4 ∧ (2 ≤ D → level < b.stage D + b.hyst) ∧ (D < 4 → b.inUse (D + 1) = true → b.stage (D + 1) < level) := by
  have hle : engage b level 4 (min d b.stages) ≤ 4 := engage_le ((Nat.min_le_right _ _).trans stages_le)
  have hnext := engage_complete (b := b) (level := level) (fuel := 4) (d := min d b.stages) (by omega)
  obtain ⟨hD, hstage, hkept⟩ := disengage_complete (b := b) (level := level) hhyst (fuel := 4) (Nat.le_succ_of_le hle)
  rw [stagesFor, if_neg (Nat.not_le.mpr hlevel)]
  refine ⟨hD.trans hle, hkept, fun hlt huse => ?_⟩
  rcases hstage with heq | hbelow
  · rw [heq] at hlt huse ⊢
    exact hnext hlt huse
  · exact hbelow

end

section

variable {s : State} {h : HouseId} {k : Ctx}

/-! ### The earliest end of a time that has not yet come (R91) -/

/-- The sooner of two ends by the time left; the first stays on a tie. -/
def keepSooner (best : Option (Nat × Second)) (e : Nat × Second) : Option (Nat × Second) :=
  match best with
  | none => some e
  | some b => if e.1 < b.1 then some e else some b

/-- The min-run end of a pump with the time left to it. -/
def State.minRunLeft (s : State) (p : PumpId) : Nat × Second :=
  ((s.pumpE p).minRun - (s.now - (s.pump p).runStart).toNat, endOf (s.pump p).runStart (s.pumpE p).minRun)

theorem minRunEnd_eq (ps : List PumpId) : s.minRunEnd ps = ((ps.map s.minRunLeft).foldl keepSooner none).map (·.2) := by
  have hstep : (fun b p => s.sooner b (s.pump p).runStart (s.pumpE p).minRun) = fun b p => keepSooner b (s.minRunLeft p) := by
    funext b p
    cases b <;> rfl
  rw [State.minRunEnd, hstep, List.foldl_map]

theorem foldl_keepSooner (l : List (Nat × Second)) : (l.foldl keepSooner none = none ↔ l = [])
    ∧ ∀ r, l.foldl keepSooner none = some r → r ∈ l ∧ ∀ a ∈ l, r.1 ≤ a.1 := by
  refine foldl_picks (R := fun a b : Nat × Second => a.1 ≤ b.1) (fun _ => rfl) (fun _ => Nat.le_refl _) (fun _ _ _ => Nat.le_trans)
    (List.pairwise_of_forall fun b a => ?_)
  by_cases hlt : a.1 < b.1
  · exact .inl ⟨if_pos hlt, hlt.le⟩
  · exact .inr ⟨if_neg hlt, Nat.not_lt.mp hlt⟩

theorem minRunEnd_earliest (ps : List PumpId) : (s.minRunEnd ps = none ↔ ps = [])
    ∧ ∀ e, s.minRunEnd ps = some e → ∃ p ∈ ps, e = (s.pump p).runStart + BitVec.ofNat 32 (s.pumpE p).minRun
      ∧ ∀ q ∈ ps, (s.pumpE p).minRun - (s.now - (s.pump p).runStart).toNat
        ≤ (s.pumpE q).minRun - (s.now - (s.pump q).runStart).toNat := by
  obtain ⟨hnone, hsome⟩ := foldl_keepSooner (ps.map s.minRunLeft)
  rw [minRunEnd_eq]
  refine ⟨by rw [Option.map_eq_none_iff, hnone, List.map_eq_nil_iff], fun e he => ?_⟩
  obtain ⟨r, hr, rfl⟩ := Option.map_eq_some_iff.mp he
  obtain ⟨hmem, hleast⟩ := hsome r hr
  obtain ⟨p, hp, rfl⟩ := List.mem_map.mp hmem
  exact ⟨p, hp, rfl, fun q hq => hleast _ (List.mem_map_of_mem hq)⟩

/-! ### The stop decision (R94, R100) -/

theorem decideStop_withdrawn {count : Nat} {out : List PumpId} {p : PumpId}
    (hfind : ((s.runners h out).filter fun p => (s.pump p).service == .withdrawn).find? (fun p => s.minRunDone p) = some p) :
    decideStop k h count out s = (stopRequest k p s, .ended) := by
  unfold decideStop
  dsimp only
  rw [hfind]

section

variable {count : Nat} {out : List PumpId}
  (hfind : ((s.runners h out).filter fun p => (s.pump p).service == .withdrawn).find? (fun p => s.minRunDone p) = none)

include hfind

theorem decideStop_excess (hcount : (s.house h).target < count) {p : PumpId} (hp : s.stopCandidate h out = some p) :
    decideStop k h count out s = (stopRequest k p (readRunners h s), .one) := by
  unfold decideStop
  dsimp only
  rw [hfind, decide_eq_true hcount, if_pos rfl, hp]

theorem decideStop_excess_waits (hcount : (s.house h).target < count) (hp : s.stopCandidate h out = none) :
    decideStop k h count out s = (setWait h .minRun (s.minRunEnd (s.runners h out)) s, .no) := by
  unfold decideStop
  dsimp only
  rw [hfind, decide_eq_true hcount, if_pos rfl, hp]
  rfl

theorem decideStop_within (hcount : count ≤ (s.house h).target) : decideStop k h count out s
    = if ((s.runners h out).filter fun p => (s.pump p).service == .withdrawn) = [] then (s, .no)
      else (setWait h .minRun
        (s.minRunEnd ((s.runners h out).filter fun p => (s.pump p).service == .withdrawn)) s, .no) := by
  unfold decideStop
  dsimp only
  rw [hfind, decide_eq_false (Nat.not_lt.mpr hcount), if_neg Bool.false_ne_true]
  dsimp only
  rw [if_neg Bool.false_ne_true]
  cases (s.runners h out).filter fun p => (s.pump p).service == .withdrawn <;> rfl

end

/-- The first of an ascending list that passes a test is the least that passes. -/
theorem find?_of_least {l : List PumpId} {P : PumpId → Bool} (hasc : l.Pairwise (· < ·)) {p : PumpId} (hp : p ∈ l)
    (hpass : P p = true) (hleast : ∀ q, q < p → ¬(q ∈ l ∧ P q = true)) : l.find? P = some p := by
  obtain ⟨before, after, rfl⟩ := List.append_of_mem hp
  refine List.find?_eq_some_iff_append.mpr ⟨hpass, before, after, rfl, fun q hq => ?_⟩
  have hlt : q < p := (List.pairwise_append.mp hasc).2.2 q hq p List.mem_cons_self
  have hfails := hleast q hlt
  simpa [hq] using hfails

/-- A stop request (R50) at a pump that runs under command, with its record written out (log 15, log 33). -/
theorem stopRequest_running {p : PumpId} (hp : (s.pump p).run = .running ∧ (s.pump p).commanded = true) :
    stopRequest k p s = derivePump k p (markPump p (shed k (setPump p { s.pump p with
      run := .stopOrdered, commanded := false, order := .queued, orderTx := none, confirmMark := none
      stopExpired := false, runSeconds := s.runSecondsNow p, accrualMark := s.now } s))) := by
  unfold stopRequest
  rw [if_pos (commandedRunning_iff.mpr hp), stopCore, modPump_accrue]

theorem stopRequest_standing {p : PumpId} (hp : ¬((s.pump p).run = .running ∧ (s.pump p).commanded = true)) :
    stopRequest k p s = s := by
  unfold stopRequest
  rw [if_neg (mt commandedRunning_iff.mp hp)]

/-! ### The withdrawal of an unwanted start (R93) -/

theorem decideWithdraw_requested {q : PumpId} (hstart : (s.house h).start = .requested q)
    (hunwanted : (s.house h).target ≤ (s.house h).commanded) : decideWithdraw k h s = (dropStart h s, true, false) := by
  unfold decideWithdraw
  dsimp only
  rw [hstart]
  exact if_pos hunwanted

theorem decideWithdraw_granted {p : PumpId} (hstart : (s.house h).start = .granted p)
    (hunwanted : ((s.house h).target < (s.house h).commanded ∨ (s.pump p).service = .withdrawn)
      ∧ (s.pump p).run = .startOrdered ∧ (s.pump p).order = .queued) :
    decideWithdraw k h s = (undoStart k p s, true, true) := by
  unfold decideWithdraw
  dsimp only
  rw [hstart]
  exact if_pos hunwanted

theorem decideWithdraw_wanted (hrequested : ∀ q, (s.house h).start = .requested q → (s.house h).commanded < (s.house h).target)
    (hgranted : ∀ p, (s.house h).start = .granted p →
      ¬(((s.house h).target < (s.house h).commanded ∨ (s.pump p).service = .withdrawn)
        ∧ (s.pump p).run = .startOrdered ∧ (s.pump p).order = .queued)) :
    decideWithdraw k h s = (s, false, false) := by
  unfold decideWithdraw
  dsimp only
  cases hstart : (s.house h).start with
  | none => rfl
  | requested q => exact if_neg (Nat.not_le.mpr (hrequested q hstart))
  | granted p => exact if_neg (hgranted p hstart)
  | transmitted p => rfl

theorem stepApart_ended {count : Nat} {out : List PumpId} {t : State} {w : Bool} (hw : decideWithdraw k h s = (t, w, true)) :
    stepApart k h count out s = (t, .nothing) := by
  rw [stepApart, hw]

/-- After a withdrawal that does not end the evaluation the stop decision follows, and no start decision (log 13). -/
theorem stepApart_withdrew {count : Nat} {out : List PumpId} {t : State} (hw : decideWithdraw k h s = (t, true, false)) :
    stepApart k h count out s = ((decideStop k h count out t).1, (decideStop k h count out t).2.after) := by
  rw [stepApart, hw]
  dsimp only
  cases decideStop k h count out t with
  | mk u d => cases d <;> rfl

theorem stepApart_stood {count : Nat} {out : List PumpId} (hw : decideWithdraw k h s = (s, false, false)) :
    stepApart k h count out s
      = (if (decideStop k h count out s).2 = .no then decideStart k h (decideStop k h count out s).1
          else (decideStop k h count out s).1, (decideStop k h count out s).2.after) := by
  rw [stepApart, hw]
  dsimp only
  cases decideStop k h count out s with
  | mk u d => cases d <;> rfl

/-! ### The start decision (R90, R99) -/

theorem decideStart_reached (hreached : (s.house h).target ≤ (s.house h).commanded) : decideStart k h s = s := if_pos hreached

theorem decideStart_inFlight {p : PumpId} (hstart : (s.house h).start = .granted p ∨ (s.house h).start = .transmitted p) :
    decideStart k h s = s := by
  unfold decideStart
  dsimp only
  rcases hstart with hstart | hstart <;> rw [hstart] <;> exact ite_self s

theorem decideStart_staggers (hwanted : (s.house h).commanded < (s.house h).target) (hstart : (s.house h).start = .none)
    (hstagger : (s.now - (s.house h).lastStartTx).toNat < (s.houseE h).stagger) :
    decideStart k h s = waitStagger h s := by
  have hdone : ¬s.staggerDone h = true := mt reached_iff.mp (Nat.not_le.mpr hstagger)
  unfold decideStart
  dsimp only
  rw [if_neg (Nat.not_le.mpr hwanted), hstart]
  exact if_neg hdone

/-- The state with the house's start in flight taken from it. -/
def startless (h : HouseId) (s : State) : State := modHouse h (fun x => { x with start := .none }) s

theorem startless_of_none (hstart : (s.house h).start = .none) : startless h s = s := by
  have hsame : { s.house h with start := .none } = s.house h := by rw [← hstart]
  have hset : s.houses.set h (s.house h) = s.houses := by simp [State.house, Vector.get_eq_getElem]
  rw [startless, modHouse, hsame, hset]

theorem decideStart_requests (hwanted : (s.house h).commanded < (s.house h).target)
    (hstart : ((s.house h).start = .none ∧ (s.houseE h).stagger ≤ (s.now - (s.house h).lastStartTx).toNat)
      ∨ ∃ q, (s.house h).start = .requested q) : decideStart k h s = requestBest k h (startless h s) := by
  unfold decideStart
  dsimp only
  rw [if_neg (Nat.not_le.mpr hwanted)]
  rcases hstart with ⟨hstart, hstagger⟩ | ⟨q, hstart⟩
  · rw [hstart, startless_of_none hstart]
    exact if_pos (reached_iff.mpr hstagger)
  · rw [hstart]; rfl

/-- Run seconds are brought up to date apart from the house records. -/
theorem accrueAll_modHouse (ps : List PumpId) (f : House → House) :
    accrueAll ps (modHouse h f s) = modHouse h f (accrueAll ps s) := by
  induction ps generalizing s with
  | nil => rfl
  | cons p rest ih => exact ih (s := accrue p s)

theorem modHouse_modHouse (f g : House → House) : modHouse h g (modHouse h f s) = modHouse h (fun x => g (f x)) s := by
  simp [modHouse, State.house]

/-- The run seconds that the start decision reads (R99). -/
def State.startsRead (s : State) (h : HouseId) : State :=
  accrueAll (allPumps.filter fun p => (s.pumpE p).house == some h && s.eligible p) s

theorem readEligible_startless : readEligible h (startless h s) = startless h (s.startsRead h) := by
  have hlist : ((startless h s).pumpsOf h).filter (fun p => (startless h s).eligible p)
      = allPumps.filter fun p => (s.pumpE p).house == some h && s.eligible p := by
    rw [State.pumpsOf, List.filter_filter]
    exact congrArg (fun f => allPumps.filter f) (funext fun p => Bool.and_comm _ _)
  rw [readEligible, hlist]
  exact accrueAll_modHouse _ _

theorem requestBest_candidate {p : PumpId} (hp : s.startCandidate h = some p) : requestBest k h (startless h s)
    = placeRequest k h p (s.house h).need.urgency
        (modHouse h (fun y => { y with start := .requested p, wait := ⟨.none, none⟩ }) (s.startsRead h)) := by
  have hcandidate : (startless h s).startCandidate h = some p := hp
  have hneed : ((startless h s).house h).need = (s.house h).need := by rw [startless, house_modHouse_same]
  unfold requestBest
  dsimp only
  rw [hcandidate, hneed, readEligible_startless]
  dsimp only
  rw [requestStart, startless, modHouse_modHouse]

/-- A house without an entry in the request list has none to drop. -/
theorem onlyIf_dropRequest : onlyIf (s.requestOf h).isSome (dropRequest h) s = dropRequest h s := by
  unfold onlyIf
  split
  · rfl
  · next hnone =>
    have habsent : s.arbiter.requests.filter (fun e => e.house ≠ h) = s.arbiter.requests := by
      refine List.filter_eq_self.mpr fun e he => ?_
      have hfind := Option.not_isSome_iff_eq_none.mp hnone
      have hne := List.find?_eq_none.mp hfind e he
      simpa using hne
    rw [dropRequest, modArbiter, habsent]

theorem houses_accrueAll (ps : List PumpId) : (accrueAll ps s).houses = s.houses := by
  induction ps generalizing s with
  | nil => rfl
  | cons p rest ih => exact ih (s := accrue p s)

theorem arbiter_accrueAll (ps : List PumpId) : (accrueAll ps s).arbiter = s.arbiter := by
  induction ps generalizing s with
  | nil => rfl
  | cons p rest ih => exact ih (s := accrue p s)

theorem requestOf_startsRead : (startless h (s.startsRead h)).requestOf h = (startless h s).requestOf h := by
  rw [State.requestOf, State.requestOf, startless, startless, modHouse_arbiter, modHouse_arbiter, State.startsRead,
    arbiter_accrueAll]

theorem requestBest_none (hp : s.startCandidate h = none) : requestBest k h (startless h s)
    = modHouse h (fun y => { y with wait := if (s.waitFor h).kind = .none then (s.house h).wait else s.waitFor h })
        (startless h (dropRequest h (s.startsRead h))) := by
  have hcandidate : (startless h s).startCandidate h = none := hp
  have hwait : (startless h s).waitFor h = s.waitFor h := rfl
  have hdrop : onlyIf ((startless h s).requestOf h).isSome (dropRequest h) (startless h (s.startsRead h))
      = startless h (dropRequest h (s.startsRead h)) := by
    rw [← requestOf_startsRead, onlyIf_dropRequest]
    rfl
  have hheld : ((startless h (dropRequest h (s.startsRead h))).house h).wait = (s.house h).wait := by
    rw [startless, house_modHouse_same]
    exact congrArg (fun v : Vector House 12 => (v.get h).wait) (houses_accrueAll _)
  unfold requestBest
  dsimp only
  rw [hcandidate, hwait, readEligible_startless]
  dsimp only
  rw [hdrop, modHouse, hheld]
  rfl

end

end Sys2Proof.Machine

/-! ## The wait of a house without a start candidate (R58, R91), and the stage count settled -/

namespace Sys2Proof.Machine

section

variable {s : State} {h : HouseId}

/-- The ends that a waiting pump needs, each with the time left to it. -/
def State.waitEnds (s : State) (p : PumpId) : List (Nat × Wait) :=
  (match (s.pump p).stopMark with
    | some m =>
      if s.minOffDone p then []
      else [((s.pumpE p).minOff - (s.now - m).toNat, ⟨.minOff, some (endOf m (s.pumpE p).minOff)⟩)]
    | none => [])
  ++ match (s.pump p).history with
    | m :: _ => if s.historyRoom p then [] else [(3600 - (s.now - m).toNat, ⟨.history, some (endOf m 3600)⟩)]
    | [] => []

/-- The sooner of two waits, MIN_OFF before HISTORY. -/
def keepWait (best : Option (Nat × Wait)) (e : Nat × Wait) : Option (Nat × Wait) := soonerWait best e.1 e.2

theorem pumpWaits_eq (best : Option (Nat × Wait)) (p : PumpId) :
    s.pumpWaits best p = (s.waitEnds p).foldl keepWait best := by
  unfold State.pumpWaits State.waitEnds
  dsimp only
  rw [List.foldl_append]
  cases (s.pump p).stopMark <;> cases (s.pump p).history <;> split_ifs <;> rfl

/-- The ends that the pumps of a house wait for. -/
def State.houseEnds (s : State) (h : HouseId) : List (Nat × Wait) :=
  ((s.pumpsOf h).filter fun p => s.onlyWaits p).flatMap s.waitEnds

/-- The wait of a house for its earliest end, and without one for its station or for nothing. -/
def State.waitUntil (s : State) (h : HouseId) : Option (Nat × Wait) → Wait
  | some b => b.2
  | none => if (s.station h).state = .silent then ⟨.station, none⟩ else ⟨.none, none⟩

theorem waitFor_eq : s.waitFor h = s.waitUntil h ((s.houseEnds h).foldl keepWait none) := by
  have hstep : s.pumpWaits = fun b p => (s.waitEnds p).foldl keepWait b := by
    funext b p; exact pumpWaits_eq b p
  unfold State.waitFor
  rw [hstep, State.houseEnds, List.foldl_flatMap]
  rfl

/-- One wait comes no later than another, and on a tie with MIN_OFF it is MIN_OFF. -/
def WaitBefore (a b : Nat × Wait) : Prop := a.1 < b.1 ∨ (a.1 = b.1 ∧ (b.2.kind = .minOff → a.2.kind = .minOff))

theorem waitBefore_trans (a b c : Nat × Wait) (hab : WaitBefore a b) (hbc : WaitBefore b c) : WaitBefore a c := by
  rcases hab with hab | ⟨hab, hkind⟩
  · exact .inl (hbc.elim hab.trans fun h => hab.trans_eq h.1)
  · rcases hbc with hbc | ⟨hbc, hkind'⟩
    · exact .inl (hab.trans_lt hbc)
    · exact .inr ⟨hab.trans hbc, hkind ∘ hkind'⟩

theorem foldl_keepWait (l : List (Nat × Wait)) : (l.foldl keepWait none = none ↔ l = [])
    ∧ ∀ r, l.foldl keepWait none = some r → r ∈ l ∧ ∀ a ∈ l, WaitBefore r a := by
  refine foldl_picks (R := WaitBefore) (fun _ => rfl) (fun _ => .inr ⟨rfl, id⟩) waitBefore_trans
    (List.pairwise_of_forall fun b a => ?_)
  by_cases hsooner : a.1 < b.1 ∨ (a.1 = b.1 ∧ a.2.kind = .minOff)
  · exact .inl ⟨if_pos hsooner, hsooner.imp_right fun h => ⟨h.1, fun _ => h.2⟩⟩
  · obtain ⟨hlt, hkind⟩ := not_or.mp hsooner
    refine .inr ⟨if_neg hsooner, (Nat.not_lt.mp hlt).lt_or_eq.imp_right fun heq => ⟨heq, fun ha => ?_⟩⟩
    exact absurd ⟨heq.symm, ha⟩ hkind

/-- A pump of a house that fails nothing but its min-off or its start history (R58, R91). -/
theorem onlyWaits_iff {p : PumpId} (hp : (s.pumpE p).house = some h) : s.onlyWaits p = true
    ↔ ((s.pump p).run = .stopped ∧ (s.pump p).panel = some .remote ∧ (s.pump p).fault = some 0
        ∧ (s.pump p).service = .inService ∧ (s.station h).state = .heard)
      ∧ ¬(s.minOffDone p = true ∧ s.historyRoom p = true) := by
  have hheard : s.stationHeard p = true ↔ (s.station h).state = .heard := by simp [State.stationHeard, hp]
  rw [← hheard, State.onlyWaits]
  unfold State.ineligible
  dsimp only
  split_ifs <;> simp_all

/-- A pump that needs the end of its min-off, with its stop mark. -/
def State.awaitsOff (s : State) (h : HouseId) (p : PumpId) (m : Second) : Prop :=
  ((s.pumpE p).house = some h ∧ (s.pump p).run = .stopped ∧ (s.pump p).panel = some .remote
    ∧ (s.pump p).fault = some 0 ∧ (s.pump p).service = .inService ∧ (s.station h).state = .heard)
  ∧ (s.pump p).stopMark = some m ∧ (s.now - m).toNat < (s.pumpE p).minOff

/-- A pump that needs the ageing of its start history, with the oldest entry. -/
def State.awaitsAgeing (s : State) (h : HouseId) (p : PumpId) (m : Second) : Prop :=
  ((s.pumpE p).house = some h ∧ (s.pump p).run = .stopped ∧ (s.pump p).panel = some .remote
    ∧ (s.pump p).fault = some 0 ∧ (s.pump p).service = .inService ∧ (s.station h).state = .heard)
  ∧ (s.pump p).history.head? = some m ∧ (s.pumpE p).maxStarts ≤ (s.pump p).history.length

/-- The end of a min-off, and that of an ageing, as waits with the time left. -/
def State.offWait (s : State) (p : PumpId) (m : Second) : Nat × Wait :=
  ((s.pumpE p).minOff - (s.now - m).toNat, ⟨.minOff, some (m + BitVec.ofNat 32 (s.pumpE p).minOff)⟩)

def State.ageingWait (s : State) (m : Second) : Nat × Wait :=
  (3600 - (s.now - m).toNat, ⟨.history, some (m + 3600)⟩)

theorem mem_waitEnds {p : PumpId} {e : Nat × Wait} : e ∈ s.waitEnds p
    ↔ (∃ m, (s.pump p).stopMark = some m ∧ ¬s.minOffDone p = true ∧ e = s.offWait p m)
      ∨ ∃ m, (s.pump p).history.head? = some m ∧ ¬s.historyRoom p = true ∧ e = s.ageingWait m := by
  unfold State.waitEnds
  rw [List.mem_append]
  refine or_congr ?_ ?_
  · cases (s.pump p).stopMark with
    | none => simp
    | some m =>
      dsimp only
      split_ifs with hdone
      · simp [hdone]
      · simp [hdone, State.offWait, endOf]
  · cases (s.pump p).history with
    | nil => simp
    | cons m rest =>
      dsimp only
      split_ifs with hroom
      · simp [hroom]
      · simp [hroom, State.ageingWait, endOf]

theorem not_minOffDone_iff {p : PumpId} {m : Second} (hm : (s.pump p).stopMark = some m) :
    ¬s.minOffDone p = true ↔ (s.now - m).toNat < (s.pumpE p).minOff := by
  unfold State.minOffDone
  rw [hm, reached_iff, Nat.not_le]

theorem not_historyRoom_iff {p : PumpId} :
    ¬s.historyRoom p = true ↔ (s.pumpE p).maxStarts ≤ (s.pump p).history.length := by
  simp [State.historyRoom]

theorem mem_houseEnds {e : Nat × Wait} : e ∈ s.houseEnds h
    ↔ (∃ p m, s.awaitsOff h p m ∧ e = s.offWait p m) ∨ ∃ p m, s.awaitsAgeing h p m ∧ e = s.ageingWait m := by
  simp only [State.houseEnds, List.mem_flatMap, List.mem_filter, mem_pumpsOf, mem_waitEnds]
  constructor
  · rintro ⟨p, ⟨hp, hwaits⟩, ⟨m, hm, hoff, rfl⟩ | ⟨m, hm, hroom, rfl⟩⟩
    · obtain ⟨hready, -⟩ := (onlyWaits_iff hp).mp hwaits
      exact .inl ⟨p, m, ⟨⟨hp, hready⟩, hm, (not_minOffDone_iff hm).mp hoff⟩, rfl⟩
    · obtain ⟨hready, -⟩ := (onlyWaits_iff hp).mp hwaits
      exact .inr ⟨p, m, ⟨⟨hp, hready⟩, hm, not_historyRoom_iff.mp hroom⟩, rfl⟩
  · rintro (⟨p, m, ⟨⟨hp, hready⟩, hm, hleft⟩, rfl⟩ | ⟨p, m, ⟨⟨hp, hready⟩, hm, hfull⟩, rfl⟩)
    · have hoff := (not_minOffDone_iff hm).mpr hleft
      exact ⟨p, ⟨hp, (onlyWaits_iff hp).mpr ⟨hready, fun hboth => hoff hboth.1⟩⟩, .inl ⟨m, hm, hoff, rfl⟩⟩
    · have hroom := not_historyRoom_iff.mpr hfull
      exact ⟨p, ⟨hp, (onlyWaits_iff hp).mpr ⟨hready, fun hboth => hroom hboth.2⟩⟩, .inr ⟨m, hm, hroom, rfl⟩⟩

/-- Without an end to wait for the house waits for its station or for nothing (R91). -/
theorem waitFor_none (hnone : ∀ p m, ¬s.awaitsOff h p m ∧ ¬s.awaitsAgeing h p m) :
    s.waitFor h = if (s.station h).state = .silent then ⟨.station, none⟩ else ⟨.none, none⟩ := by
  have hends : s.houseEnds h = [] := by
    refine List.eq_nil_iff_forall_not_mem.mpr fun e he => ?_
    rcases mem_houseEnds.mp he with ⟨p, m, hoff, -⟩ | ⟨p, m, hage, -⟩
    · exact (hnone p m).1 hoff
    · exact (hnone p m).2 hage
  rw [waitFor_eq, hends]
  rfl

/-- With one the house waits for the earliest, a tie being MIN_OFF (R91). -/
theorem waitFor_earliest {p : PumpId} {m : Second} (hsome : s.awaitsOff h p m ∨ s.awaitsAgeing h p m) : ∃ q n,
    ((s.awaitsOff h q n ∧ s.waitFor h = ⟨.minOff, some (n + BitVec.ofNat 32 (s.pumpE q).minOff)⟩
        ∧ (∀ r j, s.awaitsOff h r j → (s.pumpE q).minOff - (s.now - n).toNat ≤ (s.pumpE r).minOff - (s.now - j).toNat)
        ∧ ∀ r j, s.awaitsAgeing h r j → (s.pumpE q).minOff - (s.now - n).toNat ≤ 3600 - (s.now - j).toNat)
      ∨ (s.awaitsAgeing h q n ∧ s.waitFor h = ⟨.history, some (n + 3600)⟩
        ∧ (∀ r j, s.awaitsOff h r j → 3600 - (s.now - n).toNat < (s.pumpE r).minOff - (s.now - j).toNat)
        ∧ ∀ r j, s.awaitsAgeing h r j → 3600 - (s.now - n).toNat ≤ 3600 - (s.now - j).toNat)) := by
  obtain ⟨hnone, hbest⟩ := foldl_keepWait (s.houseEnds h)
  obtain ⟨e, he⟩ : ∃ e, e ∈ s.houseEnds h := by
    rcases hsome with hoff | hage
    · exact ⟨_, mem_houseEnds.mpr (.inl ⟨p, m, hoff, rfl⟩)⟩
    · exact ⟨_, mem_houseEnds.mpr (.inr ⟨p, m, hage, rfl⟩)⟩
  obtain ⟨best, hfold⟩ := Option.ne_none_iff_exists'.mp (mt hnone.mp (List.ne_nil_of_mem he))
  obtain ⟨hmem, hbefore⟩ := hbest best hfold
  have hwait : s.waitFor h = best.2 := by rw [waitFor_eq, hfold]; rfl
  have hoffs (r : PumpId) (j : Second) (hr : s.awaitsOff h r j) : WaitBefore best (s.offWait r j) :=
    hbefore _ (mem_houseEnds.mpr (.inl ⟨r, j, hr, rfl⟩))
  have hages (r : PumpId) (j : Second) (hr : s.awaitsAgeing h r j) : WaitBefore best (s.ageingWait j) :=
    hbefore _ (mem_houseEnds.mpr (.inr ⟨r, j, hr, rfl⟩))
  have hle {a b : Nat × Wait} (hab : WaitBefore a b) : a.1 ≤ b.1 := hab.elim Nat.le_of_lt fun h => h.1.le
  rcases mem_houseEnds.mp hmem with ⟨q, n, hq, rfl⟩ | ⟨q, n, hq, rfl⟩
  · exact ⟨q, n, .inl ⟨hq, hwait, fun r j hr => hle (hoffs r j hr), fun r j hr => hle (hages r j hr)⟩⟩
  · refine ⟨q, n, .inr ⟨hq, hwait, fun r j hr => ?_, fun r j hr => hle (hages r j hr)⟩⟩
    exact (hoffs r j hr).resolve_right fun htie => WaitKind.noConfusion (htie.2 rfl)

/-- Settles O58: the stage count by `engage` and `disengage`, and each decision by its own branches. -/
theorem stageCount : Obligations.StageCount := by
  refine ⟨fun b level d => ⟨stagesFor_at_stop, stagesFor_below_stop⟩, fun h s => ?_⟩
  intro x elapsed running unlisted
  refine ⟨fun count out => ?_, ⟨rfl, rfl, rfl⟩, fun p => ⟨stopRequest_running, stopRequest_standing⟩,
    minRunEnd_earliest, decideStart_reached, fun p => decideStart_inFlight, decideStart_staggers,
    fun hwanted hstart => ⟨fun p hp => ?_, fun hp => ?_⟩, waitFor_none, fun p m => waitFor_earliest⟩
  · intro runners leaving due stops waits
    have hdue (p : PumpId) : (p ∈ leaving ∧ s.minRunDone p = true) ↔ due p := and_congr_right fun _ => minRunDone_iff
    refine ⟨fun p => mem_runners, fun p hp hleast => ?_, fun hnone => ?_, fun q hstart hunwanted => ?_,
      fun p hstart hunwanted hrun horder => ?_, fun hrequested hgranted => ?_⟩
    · obtain ⟨hmem, hdone⟩ := (hdue p).mpr hp
      exact decideStop_withdrawn (find?_of_least ((ascending_runners s h out).filter _) hmem hdone
        fun q hq => mt (hdue q).mp (hleast q hq))
    · have hfind : leaving.find? (fun p => s.minRunDone p) = none :=
        List.find?_eq_none.mpr fun p hp hdone => hnone p ((hdue p).mp ⟨hp, hdone⟩)
      refine ⟨fun hexcess => ⟨fun p hp => decideStop_excess hfind hexcess hp,
        fun hp => decideStop_excess_waits hfind hexcess hp⟩, fun hwithin => ⟨fun hleaving => ?_, fun hleaving => ?_⟩⟩
      · exact (decideStop_within hfind hwithin).trans (if_neg hleaving)
      · exact (decideStop_within hfind hwithin).trans (if_pos hleaving)
    · exact stepApart_withdrew (decideWithdraw_requested hstart hunwanted)
    · exact stepApart_ended (decideWithdraw_granted hstart ⟨hunwanted, hrun, horder⟩)
    · exact stepApart_stood (decideWithdraw_wanted hrequested hgranted)
  · rw [decideStart_requests hwanted hstart, requestBest_candidate hp]
    dsimp only [x]
    cases (s.house h).need <;> rfl
  · rw [decideStart_requests hwanted hstart, requestBest_none hp]
    rfl

end

end Sys2Proof.Machine

/-! ## Operations on the pumps of a house's slots, and the completion of a DISPATCH frame (R51, R60, R92, R139, R140) -/

namespace Sys2Proof.Machine

section

variable {s : State} {h : HouseId} {e : DispEntry} {k : SlotId} {p : PumpId}

/-! ### Slots -/

theorem slot_of_pumpAt (hp : s.pumpAt h k = some p) : (s.pumpE p).slot = k := by
  have hmatch := List.find?_some hp
  have hboth := Bool.and_eq_true_iff.mp hmatch
  exact beq_iff_eq.mp hboth.2

/-- A pump stands in one slot. -/
theorem slot_unique {c : SlotId} (hk : s.pumpAt h k = some p) (hc : s.pumpAt h c = some p) : k = c :=
  (slot_of_pumpAt hk).symm.trans (slot_of_pumpAt hc)

theorem pumpAt_eq_of_tables {t : State} (ht : t.tables = s.tables) : t.pumpAt h k = s.pumpAt h k := by
  unfold State.pumpAt State.pumpE
  rw [ht]

theorem markedPump_iff {m : Vector Bool 4} {r : RunState} {o : OrderState} : s.markedPump h m r o k = some p
    ↔ m.get k = true ∧ s.pumpAt h k = some p ∧ (s.pump p).run = r ∧ (s.pump p).order = o := by
  unfold State.markedPump
  split
  · next hm => simp [hm, Option.filter_eq_some_iff]
  · next hm => simp [hm]

/-- The marked pump of a slot depends on the tables and on the pump in the slot. -/
theorem markedPump_eq_of_slot {t : State} (ht : t.tables = s.tables)
    (hpump : ∀ p, s.pumpAt h k = some p → t.pump p = s.pump p) (m : Vector Bool 4) (r : RunState) (o : OrderState) :
    t.markedPump h m r o k = s.markedPump h m r o k := by
  refine Option.ext fun p => ?_
  rw [markedPump_iff, markedPump_iff, pumpAt_eq_of_tables ht]
  refine and_congr_right fun _ => and_congr_right fun hp => ?_
  rw [hpump p hp]

/-- What an operation on each slot does to the pumps: `G` to the pump of the slot, and nothing to another. -/
structure ActsOnSlots (s : State) (h : HouseId) (G : SlotId → PumpId → Pump → Pump) (op : State → SlotId → State) :
    Prop where
  tables : ∀ t k, (op t k).tables = t.tables
  now : ∀ t k, (op t k).now = t.now
  pump : ∀ t k p, t.tables = s.tables → t.now = s.now →
    (op t k).pump p = if s.pumpAt h k = some p then G k p (t.pump p) else t.pump p

section

variable {G : SlotId → PumpId → Pump → Pump} {op : State → SlotId → State} (hop : ActsOnSlots s h G op)

include hop

/-- No slot but its own moves a pump. -/
theorem pump_foldl_elsewhere {l : List SlotId} (hl : ∀ c ∈ l, s.pumpAt h c ≠ some p) {t : State} (ht : t.tables = s.tables)
    (hnow : t.now = s.now) : (l.foldl op t).pump p = t.pump p := by
  induction l generalizing t with
  | nil => rfl
  | cons c rest ih =>
    rw [List.foldl_cons, ih (fun d hd => hl d (List.mem_cons_of_mem _ hd)) ((hop.tables t c).trans ht)
      ((hop.now t c).trans hnow), hop.pump t c p ht hnow, if_neg (hl c List.mem_cons_self)]

theorem pump_foldl_slot {l : List SlotId} (hl : l.Nodup) (hk : k ∈ l) (hp : s.pumpAt h k = some p) {t : State}
    (ht : t.tables = s.tables) (hnow : t.now = s.now) : (l.foldl op t).pump p = G k p (t.pump p) := by
  induction l generalizing t with
  | nil => cases hk
  | cons c rest ih =>
    obtain ⟨hc, hrest⟩ := List.nodup_cons.mp hl
    have htables := (hop.tables t c).trans ht
    have hsecond := (hop.now t c).trans hnow
    rw [List.foldl_cons]
    by_cases hck : c = k
    · subst hck
      rw [pump_foldl_elsewhere hop (fun d hd hat => hc (slot_unique hp hat ▸ hd)) htables hsecond,
        hop.pump t c p ht hnow, if_pos hp]
    · rw [ih hrest (List.mem_of_ne_of_mem (Ne.symm hck) hk) htables hsecond, hop.pump t c p ht hnow,
        if_neg fun hat => hck (slot_unique hat hp)]

/-- Every slot taken in turn moves each pump of the house by its own slot. -/
theorem pump_allSlots (hp : s.pumpAt h k = some p) : (allSlots.foldl op s).pump p = G k p (s.pump p) :=
  pump_foldl_slot hop (List.nodup_finRange 4) (List.mem_finRange k) hp rfl rfl

theorem pump_allSlots_elsewhere (hp : ∀ c, s.pumpAt h c ≠ some p) : (allSlots.foldl op s).pump p = s.pump p :=
  pump_foldl_elsewhere hop (fun c _ => hp c) rfl rfl

end

/-! ### The completion's stamps (R51, R140) -/

/-- The record of a start stamped (R51, R60). -/
def State.stampedStart (s : State) (p : PumpId) (q : Pump) : Pump :=
  { q with
    order := .transmitted
    orderTx := some s.now
    confirmMark := some s.now
    history := q.history.drop (q.history.length + 1 - (s.pumpE p).maxStarts) ++ [s.now] }

/-- The record of a stop stamped (R51). -/
def State.stampedStop (s : State) (q : Pump) : Pump :=
  { q with order := .transmitted, orderTx := some s.now, confirmMark := some s.now }

/-- The slot's start is stamped where its pump is in this state. -/
abbrev DispEntry.starts (e : DispEntry) (k : SlotId) (q : Pump) : Prop :=
  e.startMarks.get k = true ∧ q.run = .startOrdered ∧ q.order = .taken

abbrev DispEntry.stops (e : DispEntry) (k : SlotId) (q : Pump) : Prop :=
  e.stopMarks.get k = true ∧ q.run = .stopOrdered ∧ q.order = .taken

theorem not_stops_of_starts {q : Pump} (h : e.starts k q) : ¬e.stops k q := fun hstop =>
  absurd (h.2.1.symm.trans hstop.2.1) (by decide)

/-- The record that the stamp of a slot leaves its pump. -/
def State.stampedPump (s : State) (e : DispEntry) (k : SlotId) (p : PumpId) (q : Pump) : Pump :=
  if e.starts k q then s.stampedStart p q else if e.stops k q then s.stampedStop q else q

/-- A house whose pump's start is stamped (R92, R140). -/
def House.stamped (now : Second) (x : House) (p : PumpId) : House :=
  { x with lastStartTx := now, start := if x.start = .granted p then .transmitted p else x.start }

theorem stampStart_eq (hp : (s.pumpE p).house = some h) :
    stampStart p s = modHouse h (fun x => x.stamped s.now p) (modPump p (s.stampedStart p) s) :=
  atHouseOf_some _ hp

/-- What the stamp of a slot does, by the slot's pump. -/
theorem stampSlot_cases (e : DispEntry) (s : State) (k : SlotId) :
    (∃ p, s.pumpAt e.house k = some p ∧ e.starts k (s.pump p) ∧ stampSlot e s k = stampStart p s)
    ∨ (∃ p, s.pumpAt e.house k = some p ∧ e.stops k (s.pump p) ∧ stampSlot e s k = stampStop p s)
    ∨ ((∀ p, s.pumpAt e.house k = some p → ¬e.starts k (s.pump p) ∧ ¬e.stops k (s.pump p)) ∧ stampSlot e s k = s) := by
  unfold stampSlot
  cases hstart : s.markedPump e.house e.startMarks .startOrdered .taken k with
  | some p =>
    obtain ⟨hm, hp, hstate⟩ := markedPump_iff.mp hstart
    exact .inl ⟨p, hp, ⟨hm, hstate⟩, rfl⟩
  | none =>
    have hno (p : PumpId) (hp : s.pumpAt e.house k = some p) : ¬e.starts k (s.pump p) := fun hst => by
      rw [markedPump_iff.mpr ⟨hst.1, hp, hst.2⟩] at hstart
      cases hstart
    cases hstop : s.markedPump e.house e.stopMarks .stopOrdered .taken k with
    | some p =>
      obtain ⟨hm, hp, hstate⟩ := markedPump_iff.mp hstop
      exact .inr (.inl ⟨p, hp, ⟨hm, hstate⟩, rfl⟩)
    | none =>
      refine .inr (.inr ⟨fun p hp => ⟨hno p hp, fun hst => ?_⟩, rfl⟩)
      rw [markedPump_iff.mpr ⟨hst.1, hp, hst.2⟩] at hstop
      cases hstop

/-- The stamp of a slot moves pumps and houses alone. -/
theorem stampSlot_eq (e : DispEntry) (s : State) (k : SlotId) :
    ∃ v w, stampSlot e s k = { s with pumps := v, houses := w } := by
  rcases stampSlot_cases e s k with ⟨p, hp, -, heq⟩ | ⟨p, hp, -, heq⟩ | ⟨-, heq⟩
  · rw [heq, stampStart_eq (house_of_pumpAt hp)]; exact ⟨_, _, rfl⟩
  · rw [heq]; exact ⟨_, s.houses, rfl⟩
  · rw [heq]; exact ⟨s.pumps, s.houses, rfl⟩

theorem actsOnSlots_stampSlot (e : DispEntry) (s : State) :
    ActsOnSlots s e.house (s.stampedPump e) (stampSlot e) where
  tables t k := by
    obtain ⟨v, w, heq⟩ := stampSlot_eq e t k
    rw [heq]
  now t k := by
    obtain ⟨v, w, heq⟩ := stampSlot_eq e t k
    rw [heq]
  pump t k p ht hnow := by
    have hstart : s.stampedStart p = t.stampedStart p := by
      unfold State.stampedStart
      rw [hnow, pumpE_eq_of_tables ht]
    have hstop : s.stampedStop = t.stampedStop := by
      unfold State.stampedStop
      rw [hnow]
    have hat : s.pumpAt e.house k = t.pumpAt e.house k := (pumpAt_eq_of_tables ht).symm
    rw [hat]
    unfold State.stampedPump
    rw [hstart, hstop]
    rcases stampSlot_cases e t k with ⟨q, hq, hst, heq⟩ | ⟨q, hq, hst, heq⟩ | ⟨hno, heq⟩
    · rw [heq, stampStart_eq (house_of_pumpAt hq)]
      show (modPump q (t.stampedStart q) t).pump p = _
      rw [pump_modPump, hq]
      by_cases hpq : p = q
      · subst hpq
        rw [if_pos rfl, if_pos rfl, if_pos hst]
      · rw [if_neg hpq, if_neg fun h => hpq (Option.some.inj h).symm]
    · rw [heq, hq]
      show (modPump q t.stampedStop t).pump p = _
      rw [pump_modPump]
      by_cases hpq : p = q
      · subst hpq
        rw [if_pos rfl, if_pos rfl, if_neg fun h => not_stops_of_starts h hst, if_pos hst]
      · rw [if_neg hpq, if_neg fun h => hpq (Option.some.inj h).symm]
    · rw [heq]
      by_cases hp : t.pumpAt e.house k = some p
      · obtain ⟨hnostart, hnostop⟩ := hno p hp
        rw [if_pos hp, if_neg hnostart, if_neg hnostop]
      · rw [if_neg hp]

/-! ### The house of the completed entry -/

/-- The pumps whose starts the completion stamps, in slot order. -/
def State.startsOf (s : State) (e : DispEntry) (l : List SlotId) : List PumpId :=
  l.filterMap (s.markedPump e.house e.startMarks .startOrdered .taken)

theorem house_stampSlot (g : HouseId) : (stampSlot e s k).house g
    = if g = e.house then (s.startsOf e [k]).foldl (House.stamped s.now) (s.house g) else s.house g := by
  rcases stampSlot_cases e s k with ⟨p, hp, ⟨hm, hst⟩, heq⟩ | ⟨p, hp, ⟨hm, hst⟩, heq⟩ | ⟨hno, heq⟩
  · have hstarts : s.startsOf e [k] = [p] := by
      simp [State.startsOf, markedPump_iff.mpr ⟨hm, hp, hst⟩]
    rw [heq, stampStart_eq (house_of_pumpAt hp), house_modHouse, hstarts]
    split
    · next hg => subst hg; rfl
    · rfl
  · have hstarts : s.startsOf e [k] = [] := by
      have hnone : s.markedPump e.house e.startMarks .startOrdered .taken k = none :=
        Option.eq_none_iff_forall_ne_some.mpr fun q hq => by
          obtain ⟨-, hat, hrun, -⟩ := markedPump_iff.mp hq
          obtain rfl := Option.some.inj (hp.symm.trans hat)
          exact absurd (hrun.symm.trans hst.1) (by decide)
      simp [State.startsOf, hnone]
    rw [heq, hstarts]
    exact (ite_self (s.house g)).symm
  · have hstarts : s.startsOf e [k] = [] := by
      have hnone : s.markedPump e.house e.startMarks .startOrdered .taken k = none :=
        Option.eq_none_iff_forall_ne_some.mpr fun q hq => by
          obtain ⟨hm, hat, hst⟩ := markedPump_iff.mp hq
          exact (hno q hat).1 ⟨hm, hst⟩
      simp [State.startsOf, hnone]
    rw [heq, hstarts]
    exact (ite_self (s.house g)).symm

/-- The stamps of several slots act on the house of the entry by the starts among them. -/
theorem house_foldl_stampSlot {l : List SlotId} (hl : l.Nodup) {t : State} (ht : t.tables = s.tables) (hnow : t.now = s.now)
    (hpumps : ∀ c ∈ l, ∀ p, s.pumpAt e.house c = some p → t.pump p = s.pump p) (g : HouseId) :
    (l.foldl (stampSlot e) t).house g
      = if g = e.house then (s.startsOf e l).foldl (House.stamped s.now) (t.house g) else t.house g := by
  induction l generalizing t with
  | nil => exact (ite_self (t.house g)).symm
  | cons c rest ih =>
    obtain ⟨hc, hrest⟩ := List.nodup_cons.mp hl
    have hop := actsOnSlots_stampSlot e s
    have hhead : t.startsOf e [c] = s.startsOf e [c] := by
      have hmarked := markedPump_eq_of_slot ht (hpumps c List.mem_cons_self) e.startMarks .startOrdered .taken
      rw [State.startsOf, State.startsOf, List.filterMap_cons, List.filterMap_cons, hmarked]
      rfl
    have hsplit : s.startsOf e (c :: rest) = s.startsOf e [c] ++ s.startsOf e rest :=
      List.filterMap_append (l := [c])
    have hlater (d : SlotId) (hd : d ∈ rest) (p : PumpId) (hp : s.pumpAt e.house d = some p) :
        (stampSlot e t c).pump p = s.pump p := by
      rw [hop.pump t c p ht hnow, if_neg fun hat => hc (by rw [← slot_unique hp hat]; exact hd)]
      exact hpumps d (List.mem_cons_of_mem _ hd) p hp
    rw [List.foldl_cons, ih hrest ((hop.tables t c).trans ht) ((hop.now t c).trans hnow) hlater, house_stampSlot, hhead,
      hsplit, List.foldl_append, hnow]
    split <;> rfl

/-- The stamps move the last start and the start in flight alone. -/
theorem foldl_stamped_mode (now : Second) (l : List PumpId) (x : House) :
    (l.foldl (House.stamped now) x).mode = x.mode := by
  induction l generalizing x with
  | nil => rfl
  | cons p rest ih => exact ih _

theorem foldl_stamped_lastStartTx (now : Second) {l : List PumpId} (x : House) (hl : l ≠ []) :
    (l.foldl (House.stamped now) x).lastStartTx = now := by
  have hheld (l : List PumpId) (x : House) (hx : x.lastStartTx = now) :
      (l.foldl (House.stamped now) x).lastStartTx = now := by
    induction l generalizing x with
    | nil => exact hx
    | cons p rest ih => exact ih _ rfl
  cases l with
  | nil => exact absurd rfl hl
  | cons p rest => exact hheld rest _ rfl

/-- A start in flight that is not GRANTED for one of the pumps stands. -/
theorem foldl_stamped_start_of_not (now : Second) {l : List PumpId} {x : House} (hx : ∀ p ∈ l, x.start ≠ .granted p) :
    (l.foldl (House.stamped now) x).start = x.start := by
  induction l generalizing x with
  | nil => rfl
  | cons p rest ih =>
    have hsame : (x.stamped now p).start = x.start := if_neg (hx p List.mem_cons_self)
    have hrest : ∀ q ∈ rest, (x.stamped now p).start ≠ .granted q := fun q hq => by
      rw [hsame]; exact hx q (List.mem_cons_of_mem _ hq)
    exact (ih hrest).trans hsame

/-- A start in flight GRANTED for one of the pumps becomes TRANSMITTED. -/
theorem foldl_stamped_start (now : Second) {l : List PumpId} {x : House} {p : PumpId} (hp : p ∈ l)
    (hx : x.start = .granted p) : (l.foldl (House.stamped now) x).start = .transmitted p := by
  induction l generalizing x with
  | nil => cases hp
  | cons q rest ih =>
    by_cases hq : q = p
    · subst hq
      have hstamped : (x.stamped now q).start = .transmitted q := if_pos hx
      have hnever : ∀ r ∈ rest, (x.stamped now q).start ≠ .granted r := fun r _ => by
        rw [hstamped]; exact StartFlight.noConfusion
      exact (foldl_stamped_start_of_not now hnever).trans hstamped
    · have hsame : (x.stamped now q).start = x.start :=
        if_neg fun h => hq (StartFlight.granted.inj (h.symm.trans hx))
      exact ih (List.mem_of_ne_of_mem (Ne.symm hq) hp) (hsame.trans hx)

end

end Sys2Proof.Machine

/-! ## TRANSMIT_COMPLETION of a DISPATCH frame (R51, R60, R92, R140, R171, R172) -/

namespace Sys2Proof.Machine

section

variable {s : State} {e : DispEntry} {p : PumpId}

/-! ### What a take of the field port leaves -/

/-- What a take does before its frame goes out keeps what its operations keep. -/
theorem kept_prepare {I : State → Prop} (K : Kept I) (hsent : ∀ h o t, I t → I (setLastSent h o t)) {rest : List DispEntry}
    (hs : I (dequeue e rest s)) : I (prepare e rest s) := by
  have hguarded := kept_guardEntry K e hs
  unfold prepare
  dsimp only
  generalize guardEntry e (dequeue e rest s) = g at hguarded ⊢
  exact kept_derive K holds_quiet false e.house (kept_takeMarked K g.2 (hsent _ _ _ hguarded))

/-- Orders are placed in the queue alone (R137). -/
theorem placeOrders_queue (forced : Bool) (h : HouseId) (s : State) : ∃ q, placeOrders forced h s = setQueue q s := by
  unfold placeOrders
  dsimp only
  split
  · exact ⟨_, rfl⟩
  · split
    · exact ⟨_, rfl⟩
    · exact ⟨s.dispatcher.queue, rfl⟩

theorem derive_quiet_queue (forced : Bool) (h : HouseId) (s : State) : ∃ q, derive .quiet forced h s = setQueue q s := by
  unfold derive
  split
  · exact placeOrders_queue forced h s
  · exact ⟨s.dispatcher.queue, rfl⟩

/-- The refresh marks are moved by completions and refreshes alone (R135, R140). -/
theorem kept_refresh (r : Vector (Option Second) 12) : Kept fun t => t.dispatcher.refresh = r where
  same hs h := by
    simp only [State.boundParts, Prod.mk.injEq] at h
    obtain ⟨-, -, -, -, -, hdispatcher, -⟩ := h
    rw [hdispatcher]; exact hs
  pump _ _ _ hs := hs
  raised k o v d hs := by rw [dispatcher_of_apartAlarms (apartAlarms_raise _ k o v d)]; exact hs
  cleared k o hs := by rw [dispatcher_of_apartAlarms (apartAlarms_clear _ k o)]; exact hs
  arbiter _ _ hs := hs
  requested h p u hs := by
    obtain ⟨a, ha⟩ := placeRequest_starting h p u _
    rw [ha]; exact hs
  placed forced h hs := by
    obtain ⟨q, hq⟩ := placeOrders_queue forced h _
    rw [hq]; exact hs

theorem refresh_takeDispatch (e : DispEntry) (rest : List DispEntry) (s : State) :
    (takeDispatch e rest s).dispatcher.refresh = s.dispatcher.refresh := by
  have hprepared : (prepare e rest s).dispatcher.refresh = s.dispatcher.refresh :=
    kept_prepare (kept_refresh _) (fun _ _ _ ht => ht) rfl
  rw [takeDispatch_eq_prepare]
  generalize prepare e rest s = u at hprepared ⊢
  exact hprepared

theorem refresh_fieldTake (s : State) : (fieldTake s).dispatcher.refresh = s.dispatcher.refresh := by
  unfold fieldTake
  split
  · rfl
  · split
    · rfl
    · exact refresh_takeDispatch _ _ _
    · rfl
    · split
      · exact refresh_takeDispatch _ _ _
      · rfl

/-! ### The completion -/

/-- The state with the completed entry's slots stamped. -/
def stamped (e : DispEntry) (s : State) : State := allSlots.foldl (stampSlot e) s

theorem stamped_eq (e : DispEntry) (s : State) : ∃ v w, stamped e s = { s with pumps := v, houses := w } := by
  unfold stamped
  induction allSlots generalizing s with
  | nil => exact ⟨s.pumps, s.houses, rfl⟩
  | cons c rest ih =>
    obtain ⟨v, w, hslot⟩ := stampSlot_eq e s c
    obtain ⟨v', w', hrest⟩ := ih (stampSlot e s c)
    refine ⟨v', w', ?_⟩
    rw [List.foldl_cons, hrest, hslot]

theorem house_stamped (g : HouseId) : (stamped e s).house g
    = if g = e.house then (s.startsOf e allSlots).foldl (House.stamped s.now) (s.house g) else s.house g :=
  house_foldl_stampSlot (List.nodup_finRange 4) rfl rfl (fun _ _ _ _ => rfl) g

theorem active_stamped (g : HouseId) : (stamped e s).active g = s.active g := by
  have hmode : ((stamped e s).house g).mode = (s.house g).mode := by
    rw [house_stamped]
    split
    · exact foldl_stamped_mode _ _ _
    · rfl
  obtain ⟨v, w, heq⟩ := stamped_eq e s
  have hengine : (stamped e s).engine = s.engine := by rw [heq]
  have htables : (stamped e s).tables = s.tables := by rw [heq]
  rw [State.active, State.active, hmode, hengine, houseE_eq_of_tables htables]

/-- The completion moves the stamped pumps and house, the queue, the entry in transmission and the refresh mark. -/
theorem completeDispatch_eq (he : s.dispatcher.inTx = some e) : ∃ q, completeDispatch s
    = setInTx none (setRefresh e.house (if e.kind = .orders ∧ s.active e.house = true then some s.now else none)
        (setQueue q (stamped e s))) := by
  obtain ⟨q, hq⟩ := derive_quiet_queue false e.house (stamped e s)
  obtain ⟨v, w, heq⟩ := stamped_eq e s
  have hnow : (setQueue q (stamped e s)).now = s.now := by rw [heq]; rfl
  have hactive : (setQueue q (stamped e s)).active e.house = s.active e.house := active_stamped e.house
  refine ⟨q, ?_⟩
  unfold completeDispatch
  rw [he]
  dsimp only
  rw [show allSlots.foldl (stampSlot e) s = stamped e s from rfl, hq, refreshAfter, hnow, hactive]

section

variable (h : HouseId) (m : Option Second) (q : List DispEntry) (t : State)

theorem pump_completed (p : PumpId) : (setInTx none (setRefresh h m (setQueue q t))).pump p = t.pump p := rfl

theorem house_completed (g : HouseId) : (setInTx none (setRefresh h m (setQueue q t))).house g = t.house g := rfl

end

theorem mem_startsOf : p ∈ s.startsOf e allSlots ↔ ∃ k, e.startMarks.get k = true ∧ s.pumpAt e.house k = some p
    ∧ (s.pump p).run = .startOrdered ∧ (s.pump p).order = .taken := by
  simp only [State.startsOf, List.mem_filterMap, markedPump_iff]
  exact ⟨fun ⟨k, _, h⟩ => ⟨k, h⟩, fun ⟨k, h⟩ => ⟨k, List.mem_finRange k, h⟩⟩

/-- Settles O15: the slots stamped one by one, each pump by its own slot and the house by its starts. -/
theorem dispatchCompleted : Obligations.DispatchCompleted := by
  intro s own f e htx hin started stopped joined u
  obtain ⟨q, hu⟩ := completeDispatch_eq hin
  obtain ⟨v, w, hstamped⟩ := stamped_eq e s
  have hpump (p : PumpId) : u.pump p = (stamped e s).pump p := by
    show (completeDispatch s).pump p = _
    rw [hu, pump_completed]
  have hhouse (g : HouseId) : u.house g = if g = e.house
      then (s.startsOf e allSlots).foldl (House.stamped s.now) (s.house g) else s.house g := by
    show (completeDispatch s).house g = _
    rw [hu, house_completed, house_stamped]
  have hfield : u.field = s.field := by
    show (completeDispatch s).field = _
    rw [hu, hstamped]; rfl
  have hacts := actsOnSlots_stampSlot e s
  have hstarted (p : PumpId) (hp : started p) : u.pump p = s.stampedStart p (s.pump p) := by
    obtain ⟨k, hm, hat, hstate⟩ := hp
    rw [hpump p]
    exact (pump_allSlots hacts hat).trans (if_pos ⟨hm, hstate⟩)
  have hstopped (p : PumpId) (hp : stopped p) : u.pump p = s.stampedStop (s.pump p) := by
    obtain ⟨k, hm, hat, hstate⟩ := hp
    have hstops : e.stops k (s.pump p) := ⟨hm, hstate⟩
    rw [hpump p]
    exact (pump_allSlots hacts hat).trans ((if_neg fun h => not_stops_of_starts h hstops).trans (if_pos hstops))
  have hstands (p : PumpId) (hnostart : ¬started p) (hnostop : ¬stopped p) : u.pump p = s.pump p := by
    rw [hpump p]
    by_cases hat : ∃ k, s.pumpAt e.house k = some p
    · obtain ⟨k, hat⟩ := hat
      refine (pump_allSlots hacts hat).trans ((if_neg fun h => ?_).trans (if_neg fun h => ?_))
      · exact hnostart ⟨k, h.1, hat, h.2⟩
      · exact hnostop ⟨k, h.1, hat, h.2⟩
    · exact pump_allSlots_elsewhere hacts fun c hc => hat ⟨c, hc⟩
  have hnone (hno : ∀ p, ¬started p) : s.startsOf e allSlots = [] :=
    List.eq_nil_iff_forall_not_mem.mpr fun p hp => hno p (mem_startsOf.mp hp)
  refine ⟨?_, hstarted, hstopped, hstands, fun p hp hstart => ?_, fun hno => ?_, fun h hne => ?_, ?_, hfield⟩
  · let t := fieldTake (freeTx .field u)
    have hexec : exec (.transmitCompletion .field) s = .next t := by
      show Host.Outcome.next (completeTx .field s) = _
      unfold completeTx
      rw [show s.port .field = s.field from rfl, htx]
    have hapart : t.apartOrders = (freeTx .field u).apartOrders := apartOrders_fieldTake _
    have hhistory (p : PumpId) : (t.pump p).history = (u.pump p).history := pump_history_of_apartOrders hapart p
    have hlast : (t.house e.house).lastStartTx = (u.house e.house).lastStartTx :=
      house_lastStartTx_of_apartOrders hapart e.house
    refine ⟨t, hexec, rfl, ?_, fun p hp => ⟨?_, ?_⟩, fun p hp => ?_, fun hno => ?_, fun h => ?_⟩
    · rw [field_counters_of_apartOrders hapart, ← hfield]; rfl
    · rw [hhistory, hstarted p hp]; rfl
    · rw [hlast, hhouse, if_pos rfl]
      exact foldl_stamped_lastStartTx _ _ (List.ne_nil_of_mem (mem_startsOf.mpr hp))
    · rw [hhistory]
      by_cases hstop : stopped p
      · rw [hstopped p hstop]; rfl
      · rw [hstands p hp hstop]
    · rw [hlast, hhouse, if_pos rfl, hnone hno]; rfl
    · have hrefresh : t.dispatcher.refresh = (freeTx .field u).dispatcher.refresh := refresh_fieldTake _
      rw [hrefresh]
      show (completeDispatch s).dispatcher.refresh.get h = _
      rw [hu, hstamped]
      exact (getSet _ _ _ _).trans (ite_congr rfl (fun hh => by rw [hh]) fun _ => rfl)
  · rw [hhouse, if_pos rfl]
    exact foldl_stamped_start _ (mem_startsOf.mpr hp) hstart
  · rw [hhouse, if_pos rfl]
    exact foldl_stamped_start_of_not _ fun p hp => hno p (mem_startsOf.mp hp)
  · rw [hhouse, if_neg hne]
  · show (completeDispatch s).dispatcher.inTx = none
    rw [hu]; rfl

end

end Sys2Proof.Machine

/-! ## The field port's take, and the derivation and placing of orders (R51, R134-R137, R139, R169) -/

namespace Sys2Proof.Machine

section

variable {s : State} {h : HouseId} {e : DispEntry} {rest : List DispEntry} {k : SlotId} {p : PumpId}

/-! ### Derived orders and marks (R136) -/

theorem get_ordersOf (s : State) (h : HouseId) (k : SlotId) : (s.ordersOf h).get k = s.slotOrder h k := by
  fin_cases k <;> rfl

theorem get_marksOf (s : State) (h : HouseId) (run : RunState) (k : SlotId) :
    (s.marksOf h run).get k = s.slotMark h run k := by
  fin_cases k <;> rfl

theorem slotOrder_empty (hk : s.pumpAt h k = none) : s.slotOrder h k = .localControl := by
  unfold State.slotOrder; rw [hk]

theorem slotOrder_pump (hk : s.pumpAt h k = some p) : s.slotOrder h k = (s.pump p).order? := by
  unfold State.slotOrder; rw [hk]

theorem slotMark_empty (hk : s.pumpAt h k = none) (run : RunState) : s.slotMark h run k = false := by
  unfold State.slotMark; rw [hk]

theorem slotMark_pump (hk : s.pumpAt h k = some p) (run : RunState) :
    s.slotMark h run k = true ↔ (s.pump p).run = run ∧ (s.pump p).order = .queued := by
  unfold State.slotMark; rw [hk]; simp

theorem order?_eq (q : Pump) : q.order? = if q.panel = some .hand ∨ q.panel = some .off then .localControl
    else if q.run = .startOrdered ∨ (q.run = .running ∧ q.commanded = true) then .run else .stop :=
  if_congr isLocal_iff rfl (if_congr (by simp [Pump.counted, Pump.commandedRunning]) rfl rfl)

theorem marked_iff {e : DispEntry} : e.marked = true ↔ ∃ k : SlotId, e.startMarks.get k = true ∨ e.stopMarks.get k = true := by
  have hany (v : Vector Bool 4) : v.any id = true ↔ ∃ k : SlotId, v.get k = true := by
    rw [Vector.any_eq_true]
    exact ⟨fun ⟨i, hi, hv⟩ => ⟨⟨i, hi⟩, hv⟩, fun ⟨k, hk⟩ => ⟨k.val, k.isLt, hk⟩⟩
  rw [DispEntry.marked, Bool.or_eq_true, hany, hany, exists_or]

/-! ### Orders placed in the queue (R137) -/

/-- An entry of the house is updated in its place. -/
theorem placeOrders_inPlace (forced : Bool) {l l' : List DispEntry} (hqueue : s.dispatcher.queue = l ++ e :: l')
    (he : e.house = h) (hothers : ∀ x ∈ l ++ l', x.house ≠ h) :
    placeOrders forced h s = setQueue (l ++ refreshEntry s e :: l') s := by
  have hsome : (s.queuedEntry h).isSome = true := List.find?_isSome.mpr ⟨e, by rw [hqueue]; simp, by simpa using he⟩
  have hkept (m : List DispEntry) (hm : ∀ x ∈ m, x ∈ l ++ l') :
      (m.map fun x => if x.house = h then refreshEntry s x else x) = m :=
    (List.map_congr_left (g := id) fun x hx => if_neg (hothers x (hm x hx))).trans (List.map_id m)
  have hmap : (s.dispatcher.queue.map fun x => if x.house = h then refreshEntry s x else x)
      = l ++ refreshEntry s e :: l' := by
    rw [hqueue, List.map_append, List.map_cons, if_pos he, hkept l fun x hx => List.mem_append_left _ hx,
      hkept l' fun x hx => List.mem_append_right _ hx]
  rw [placeOrders, if_pos hsome, ← hmap]
  rfl

/-- A house without an entry gains one where it is forced, carries a mark, or differs from the orders last sent. -/
theorem placeOrders_absent (forced : Bool) (habsent : ∀ x ∈ s.dispatcher.queue, x.house ≠ h) : placeOrders forced h s
    = if forced = true ∨ (newEntry s h).marked = true ∨ s.dispatcher.lastSent.get h ≠ some (s.ordersOf h)
      then setQueue (s.dispatcher.queue ++ [newEntry s h]) s else s := by
  have hnone : ¬(s.queuedEntry h).isSome = true := by rw [queuedEntry_none_iff.mpr habsent]; exact Bool.false_ne_true
  rw [placeOrders, if_neg hnone]
  exact if_congr (by rw [Bool.or_eq_true, Bool.or_eq_true, decide_eq_true_iff, or_assoc]; rfl) rfl rfl

/-! ### A take's marked pumps (R51, R139) -/

/-- The record that a take leaves the pump of a slot. -/
def takenPump (e : DispEntry) (k : SlotId) (q : Pump) : Pump :=
  if q.order = .queued ∧ ((e.startMarks.get k = true ∧ q.run = .startOrdered)
      ∨ (e.stopMarks.get k = true ∧ q.run = .stopOrdered)) then { q with order := .taken } else q

theorem modPump_of_fixed {f : Pump → Pump} (hf : f (s.pump p) = s.pump p) : modPump p f s = s := by
  have hset : s.pumps.set p (s.pump p) = s.pumps := by simp [State.pump, Vector.get_eq_getElem]
  rw [modPump, hf, hset]

theorem takeSlot_empty (hk : s.pumpAt e.house k = none) : takeSlot e s k = s := by
  have hnone (m : Vector Bool 4) (r : RunState) : s.markedPump e.house m r .queued k = none :=
    Option.eq_none_iff_forall_ne_some.mpr fun p hp => by
      obtain ⟨-, hat, -⟩ := markedPump_iff.mp hp
      rw [hk] at hat
      cases hat
  rw [takeSlot, hnone, hnone]

theorem takeSlot_pump (hk : s.pumpAt e.house k = some p) : takeSlot e s k = modPump p (takenPump e k) s := by
  have hmarked (m : Vector Bool 4) (r : RunState) : s.markedPump e.house m r .queued k
      = if m.get k = true ∧ (s.pump p).run = r ∧ (s.pump p).order = .queued then some p else none := by
    split
    · next h => exact markedPump_iff.mpr ⟨h.1, hk, h.2⟩
    · next h =>
      refine Option.eq_none_iff_forall_ne_some.mpr fun q hq => ?_
      obtain ⟨hm, hat, hstate⟩ := markedPump_iff.mp hq
      obtain rfl := Option.some.inj (hk.symm.trans hat)
      exact h ⟨hm, hstate⟩
  have htaken (hq : (s.pump p).order = .queued ∧ ((e.startMarks.get k = true ∧ (s.pump p).run = .startOrdered)
      ∨ (e.stopMarks.get k = true ∧ (s.pump p).run = .stopOrdered))) :
      modPump p (fun q => { q with order := .taken }) s = modPump p (takenPump e k) s := by
    rw [modPump, modPump, takenPump, if_pos hq]
  rw [takeSlot, hmarked, hmarked]
  by_cases hstart : e.startMarks.get k = true ∧ (s.pump p).run = .startOrdered ∧ (s.pump p).order = .queued
  · rw [if_pos hstart]
    exact htaken ⟨hstart.2.2, .inl ⟨hstart.1, hstart.2.1⟩⟩
  · rw [if_neg hstart]
    by_cases hstop : e.stopMarks.get k = true ∧ (s.pump p).run = .stopOrdered ∧ (s.pump p).order = .queued
    · rw [if_pos hstop]
      exact htaken ⟨hstop.2.2, .inr ⟨hstop.1, hstop.2.1⟩⟩
    · rw [if_neg hstop]
      refine (modPump_of_fixed (if_neg fun h => ?_)).symm
      exact h.2.elim (fun hs => hstart ⟨hs.1, hs.2, h.1⟩) fun hs => hstop ⟨hs.1, hs.2, h.1⟩

theorem actsOnSlots_takeSlot (e : DispEntry) (s : State) :
    ActsOnSlots s e.house (fun k _ => takenPump e k) (takeSlot e) where
  tables t k := by
    cases hk : t.pumpAt e.house k with
    | none => rw [takeSlot_empty hk]
    | some p => rw [takeSlot_pump hk]; rfl
  now t k := by
    cases hk : t.pumpAt e.house k with
    | none => rw [takeSlot_empty hk]
    | some p => rw [takeSlot_pump hk]; rfl
  pump t k p ht _ := by
    rw [← pumpAt_eq_of_tables (k := k) ht]
    cases hk : t.pumpAt e.house k with
    | none => rw [takeSlot_empty hk]; rfl
    | some q =>
      rw [takeSlot_pump hk, pump_modPump]
      by_cases hpq : p = q
      · subst hpq
        rw [if_pos rfl, if_pos rfl]
      · rw [if_neg hpq, if_neg fun h => hpq (Option.some.inj h).symm]

theorem takeMarked_eq (e : DispEntry) (s : State) : ∃ w, takeMarked e s = setPumps w s := by
  unfold takeMarked
  induction allSlots generalizing s with
  | nil => exact ⟨s.pumps, rfl⟩
  | cons c rest ih =>
    obtain ⟨w, hrest⟩ := ih (takeSlot e s c)
    refine ⟨w, ?_⟩
    rw [List.foldl_cons, hrest]
    cases hc : s.pumpAt e.house c with
    | none => rw [takeSlot_empty hc]
    | some p => rw [takeSlot_pump hc]; rfl

/-- The pumps whose starts and stops an entry takes (R51). -/
def State.takes (s : State) (e : DispEntry) (p : PumpId) : Prop :=
  ∃ k, s.pumpAt e.house k = some p ∧ (s.pump p).order = .queued
    ∧ ((e.startMarks.get k = true ∧ (s.pump p).run = .startOrdered)
      ∨ (e.stopMarks.get k = true ∧ (s.pump p).run = .stopOrdered))

theorem pump_takeMarked_of_takes (hp : s.takes e p) : (takeMarked e s).pump p = { s.pump p with order := .taken } := by
  obtain ⟨k, hk, hstate⟩ := hp
  exact (pump_allSlots (actsOnSlots_takeSlot e s) hk).trans (if_pos hstate)

theorem pump_takeMarked_of_not (hp : ¬s.takes e p) : (takeMarked e s).pump p = s.pump p := by
  by_cases hat : ∃ k, s.pumpAt e.house k = some p
  · obtain ⟨k, hk⟩ := hat
    exact (pump_allSlots (actsOnSlots_takeSlot e s) hk).trans (if_neg fun h => hp ⟨k, hk, h⟩)
  · exact pump_allSlots_elsewhere (actsOnSlots_takeSlot e s) fun k hk => hat ⟨k, hk⟩

/-- The taking of an order leaves the derived orders as they are. -/
theorem ordersOf_takeMarked (h : HouseId) : (takeMarked e s).ordersOf h = s.ordersOf h := by
  have htables : (takeMarked e s).tables = s.tables := by
    obtain ⟨w, hw⟩ := takeMarked_eq e s
    rw [hw]; rfl
  refine vector_eq_of_get fun k => ?_
  rw [get_ordersOf, get_ordersOf]
  have hat : (takeMarked e s).pumpAt h k = s.pumpAt h k := pumpAt_eq_of_tables htables
  cases hk : s.pumpAt h k with
  | none => rw [slotOrder_empty hk, slotOrder_empty (hat.trans hk)]
  | some p =>
    rw [slotOrder_pump hk, slotOrder_pump (hat.trans hk)]
    by_cases hp : s.takes e p
    · rw [pump_takeMarked_of_takes hp]; rfl
    · rw [pump_takeMarked_of_not hp]

/-- Where the entry's marks are those of its house now, none is left after its take. -/
theorem not_marked_takeMarked (hstart : e.startMarks = s.marksOf e.house .startOrdered)
    (hstop : e.stopMarks = s.marksOf e.house .stopOrdered) : ¬(newEntry (takeMarked e s) e.house).marked = true := by
  have htables : (takeMarked e s).tables = s.tables := by
    obtain ⟨w, hw⟩ := takeMarked_eq e s
    rw [hw]; rfl
  have hnone (run : RunState) (hrun : run = .startOrdered ∨ run = .stopOrdered) (k : SlotId) :
      ¬(takeMarked e s).slotMark e.house run k = true := fun hmark => by
    have hat : (takeMarked e s).pumpAt e.house k = s.pumpAt e.house k := pumpAt_eq_of_tables htables
    cases hk : s.pumpAt e.house k with
    | none => rw [slotMark_empty (hat.trans hk)] at hmark; cases hmark
    | some p =>
      obtain ⟨hstate, horder⟩ := (slotMark_pump (hat.trans hk) run).mp hmark
      by_cases hp : s.takes e p
      · rw [pump_takeMarked_of_takes hp] at horder; cases horder
      · rw [pump_takeMarked_of_not hp] at hstate horder
        refine hp ⟨k, hk, horder, hrun.imp (fun h => ⟨?_, hstate.trans h⟩) fun h => ⟨?_, hstate.trans h⟩⟩
        · rw [hstart, get_marksOf]; exact (slotMark_pump hk _).mpr ⟨hstate.trans h, horder⟩
        · rw [hstop, get_marksOf]; exact (slotMark_pump hk _).mpr ⟨hstate.trans h, horder⟩
  rw [marked_iff]
  rintro ⟨k, hk | hk⟩
  · exact hnone .startOrdered (.inl rfl) k ((get_marksOf _ _ _ k).symm.trans hk)
  · exact hnone .stopOrdered (.inr rfl) k ((get_marksOf _ _ _ k).symm.trans hk)

/-! ### The take (R139, R169) -/

/-- A take's preparation leaves the field port. -/
theorem kept_field (f : PortState) : Kept fun t => t.field = f where
  same hs h := by
    simp only [State.boundParts, Prod.mk.injEq] at h
    obtain ⟨-, -, -, -, -, -, -, -, hfield, -⟩ := h
    rw [hfield]; exact hs
  pump _ _ _ hs := hs
  raised k o v d hs := by rw [field_of_apartAlarms (apartAlarms_raise _ k o v d)]; exact hs
  cleared k o hs := by rw [field_of_apartAlarms (apartAlarms_clear _ k o)]; exact hs
  arbiter _ _ hs := hs
  requested h p u hs := by
    obtain ⟨a, ha⟩ := placeRequest_starting h p u _
    rw [ha]; exact hs
  placed forced h hs := by
    obtain ⟨q, hq⟩ := placeOrders_queue forced h _
    rw [hq]; exact hs

theorem ownAddr_sent (f : TxFrame) (g : Option DispEntry) (t : State) :
    (beginSend .field f (setInTx g t)).ownAddr = t.ownAddr := rfl

theorem field_sent (f : TxFrame) (g : Option DispEntry) (t : State) :
    (beginSend .field f (setInTx g t)).field = { t.field with tx := some f } := rfl

theorem ownAddr_prepare (e : DispEntry) (rest : List DispEntry) (s : State) : (prepare e rest s).ownAddr = s.ownAddr := by
  have happly : (takeDispatch e rest s).ownAddr = s.ownAddr := ownAddr_of_apartOrders (apartOrders_takeDispatch s e rest)
  rw [takeDispatch_eq_prepare, ownAddr_sent] at happly
  exact happly

/-- What the guard leaves of an entry beside its orders and marks. -/
theorem guardEntry_dest (e : DispEntry) (s : State) : (guardEntry e s).2.dest = e.dest := by
  unfold guardEntry
  split <;> rfl

/-- The entry taken becomes the entry in transmission and is what is sent. -/
theorem takeDispatch_sends (e : DispEntry) (rest : List DispEntry) (n : Nat) (s : State) :
    ∃ g, g.house = e.house ∧ g.dest = e.dest ∧ (takeDispatch e rest (setFieldRun n s)).dispatcher.inTx = some g
      ∧ (takeDispatch e rest (setFieldRun n s)).field
        = { s.field with tx := some (.dispatch s.ownAddr g), runCount := n } := by
  have hfield : (prepare e rest (setFieldRun n s)).field = { s.field with runCount := n } :=
    kept_prepare (kept_field _) (fun _ _ _ ht => ht) rfl
  have hown := ownAddr_prepare e rest (setFieldRun n s)
  refine ⟨_, (guardEntry_entry e (dequeue e rest (setFieldRun n s))).1, guardEntry_dest e _, ?_⟩
  rw [takeDispatch_eq_prepare]
  generalize prepare e rest (setFieldRun n s) = u at hfield hown ⊢
  refine ⟨rfl, ?_⟩
  rw [field_sent, hfield, hown]
  rfl

/-- An entry that the suction guard leaves alone (R138). -/
theorem guardEntry_unguarded (h : e.kind = .release ∨ s.suctionGuard e.house = false) : guardEntry e s = (s, e) :=
  if_neg fun hboth => by
    rcases h with hrelease | hsuction
    · exact absurd (hboth.1.symm.trans hrelease) (by decide)
    · exact Bool.false_ne_true (hsuction.symm.trans hboth.2)

/-- The state before an unguarded entry's marks are taken. -/
def sentState (e : DispEntry) (rest : List DispEntry) (n : Nat) (s : State) : State :=
  setLastSent e.house (some e.orders) (dequeue e rest (setFieldRun n s))

theorem takeDispatch_unguarded (h : e.kind = .release ∨ s.suctionGuard e.house = false) (n : Nat) :
    takeDispatch e rest (setFieldRun n s)
      = beginSend .field (.dispatch (prepare e rest (setFieldRun n s)).ownAddr e)
          (setInTx (some e) (derive .quiet false e.house (takeMarked e (sentState e rest n s)))) := by
  have hguard : guardEntry e (dequeue e rest (setFieldRun n s)) = (dequeue e rest (setFieldRun n s), e) :=
    guardEntry_unguarded h
  rw [takeDispatch_eq_prepare, hguard]
  unfold prepare
  rw [hguard]
  rfl

theorem dispatcher_sent (f : TxFrame) (g : Option DispEntry) (t : State) :
    (beginSend .field f (setInTx g t)).dispatcher = { t.dispatcher with inTx := g } := rfl

theorem pump_sent (f : TxFrame) (g : Option DispEntry) (t : State) (p : PumpId) :
    (beginSend .field f (setInTx g t)).pump p = t.pump p := rfl

/-- The derivation that follows a take finds no entry of the house in the queue, and joins one at most. -/
theorem derive_absent (habsent : ∀ x ∈ s.dispatcher.queue, x.house ≠ h) :
    derive .quiet false h s = s ∨ derive .quiet false h s = setQueue (s.dispatcher.queue ++ [newEntry s h]) s := by
  unfold derive
  split
  · show placeOrders false h s = s ∨ placeOrders false h s = _
    rw [placeOrders_absent false habsent]
    split
    · exact .inr rfl
    · exact .inl rfl
  · exact .inl rfl

theorem derive_settled (habsent : ∀ x ∈ s.dispatcher.queue, x.house ≠ h) (hmarked : ¬(newEntry s h).marked = true)
    (hsent : s.dispatcher.lastSent.get h = some (s.ordersOf h)) : derive .quiet false h s = s := by
  have hstands : placeOrders false h s = s := by
    rw [placeOrders_absent false habsent]
    refine if_neg fun hany => ?_
    rcases hany with hforced | hmark | hdiffer
    · exact Bool.false_ne_true hforced
    · exact hmarked hmark
    · exact hdiffer hsent
  unfold derive
  split
  · exact hstands
  · rfl

section

variable (e) (rest) (n : Nat) (s)

theorem takeMarked_sentState : ∃ w, takeMarked e (sentState e rest n s) = setPumps w (sentState e rest n s) :=
  takeMarked_eq e _

theorem queue_takeMarked : (takeMarked e (sentState e rest n s)).dispatcher.queue = rest := by
  obtain ⟨w, hw⟩ := takeMarked_sentState s e rest n
  rw [hw]; rfl

theorem lastSent_takeMarked (h : HouseId) : (takeMarked e (sentState e rest n s)).dispatcher.lastSent.get h
    = if h = e.house then some e.orders else s.dispatcher.lastSent.get h := by
  obtain ⟨w, hw⟩ := takeMarked_sentState s e rest n
  rw [hw]
  exact getSet _ _ _ _

/-- What goes before the take of the marks moves no pump and no table. -/
theorem takes_sentState (p : PumpId) : (sentState e rest n s).takes e p ↔ s.takes e p := Iff.rfl

theorem pump_sentState (p : PumpId) : (sentState e rest n s).pump p = s.pump p := rfl

theorem ordersOf_sentState (h : HouseId) : (sentState e rest n s).ordersOf h = s.ordersOf h := rfl

end

/-- The unguarded take of an entry: what it sends, and what it leaves of the orders last sent, the pumps and the queue. -/
theorem takeDispatch_settles (hunguarded : e.kind = .release ∨ s.suctionGuard e.house = false) (n : Nat) :
    let t := takeDispatch e rest (setFieldRun n s)
    t.dispatcher.inTx = some e
    ∧ (∀ h, t.dispatcher.lastSent.get h = if h = e.house then some e.orders else s.dispatcher.lastSent.get h)
    ∧ (∀ p, s.takes e p → t.pump p = { s.pump p with order := .taken })
    ∧ (∀ p, ¬s.takes e p → t.pump p = s.pump p)
    ∧ ((∀ x ∈ rest, x.house ≠ e.house) → ∃ new, t.dispatcher.queue = rest ++ new ∧ ∀ x ∈ new, x.house = e.house)
    ∧ ((∀ x ∈ rest, x.house ≠ e.house) → e.orders = s.ordersOf e.house →
      e.startMarks = s.marksOf e.house .startOrdered → e.stopMarks = s.marksOf e.house .stopOrdered →
      t.dispatcher.queue = rest) := by
  intro t
  have ht : t = _ := takeDispatch_unguarded hunguarded n
  obtain ⟨q, hq⟩ := derive_quiet_queue false e.house (takeMarked e (sentState e rest n s))
  have hqueue := queue_takeMarked s e rest n
  have hlast := lastSent_takeMarked s e rest n
  have hpump (p : PumpId) : t.pump p = (takeMarked e (sentState e rest n s)).pump p := by
    rw [ht, pump_sent, hq]; rfl
  have hdispatcher : t.dispatcher = { (derive .quiet false e.house (takeMarked e (sentState e rest n s))).dispatcher with
      inTx := some e } := by
    rw [ht, dispatcher_sent]
  refine ⟨by rw [hdispatcher], fun h => ?_, fun p hp => ?_, fun p hp => ?_, fun habsent => ?_,
    fun habsent horders hstart hstop => ?_⟩
  · rw [hdispatcher, hq, ← hlast h]; rfl
  · rw [hpump, pump_takeMarked_of_takes ((takes_sentState s e rest n p).mpr hp), pump_sentState]
  · rw [hpump, pump_takeMarked_of_not (mt (takes_sentState s e rest n p).mp hp), pump_sentState]
  · rw [hdispatcher]
    rcases derive_absent (h := e.house) (s := takeMarked e (sentState e rest n s)) (by rw [hqueue]; exact habsent)
      with hsame | hjoined
    · rw [hsame]
      exact ⟨[], hqueue.trans (List.append_nil rest).symm, fun x hx => absurd hx List.not_mem_nil⟩
    · rw [hjoined]
      exact ⟨[_], congrArg (· ++ [_]) hqueue, fun x hx => by rw [List.mem_singleton.mp hx]; rfl⟩
  · have hsettled : derive .quiet false e.house (takeMarked e (sentState e rest n s))
        = takeMarked e (sentState e rest n s) := by
      refine derive_settled (by rw [hqueue]; exact habsent) (not_marked_takeMarked hstart hstop) ?_
      rw [hlast, if_pos rfl, ordersOf_takeMarked, ordersOf_sentState, horders]
    rw [hdispatcher, hsettled]
    exact hqueue

theorem fieldTake_dispatch {f : List Byte} {fs : List (List Byte)} (hidle : s.field.tx = none)
    (hqueue : s.dispatcher.queue = e :: rest) (hfwd : s.field.fwd = f :: fs) (hrun : s.field.runCount < 3) :
    fieldTake s = takeDispatch e rest (setFieldRun (s.field.runCount + 1) s) := by
  simp [fieldTake, hidle, hqueue, hfwd, hrun]

theorem fieldTake_forwarded_run {f : List Byte} {fs : List (List Byte)} (hidle : s.field.tx = none)
    (hqueue : s.dispatcher.queue = e :: rest) (hfwd : s.field.fwd = f :: fs) (hrun : 3 ≤ s.field.runCount) :
    fieldTake s = takeForwarded f fs s := by
  simp [fieldTake, hidle, hqueue, hfwd, Nat.not_lt.mpr hrun]

theorem fieldTake_forwarded {f : List Byte} {fs : List (List Byte)} (hidle : s.field.tx = none)
    (hqueue : s.dispatcher.queue = []) (hfwd : s.field.fwd = f :: fs) : fieldTake s = takeForwarded f fs s := by
  simp [fieldTake, hidle, hqueue, hfwd]

/-- Where the head of the queue is taken, it is with some run count. -/
theorem fieldTake_takes (hidle : s.field.tx = none) (hqueue : s.dispatcher.queue = e :: rest)
    (hfwd : s.field.fwd = [] ∨ s.field.runCount < 3) : ∃ n, fieldTake s = takeDispatch e rest (setFieldRun n s) := by
  cases hlist : s.field.fwd with
  | nil => exact ⟨0, fieldTake_head hidle hqueue hlist⟩
  | cons f fs => exact ⟨_, fieldTake_dispatch hidle hqueue hlist (hfwd.resolve_left (by rw [hlist]; exact List.cons_ne_nil f fs))⟩

/-- Settles O13: the rows of the take, the unguarded take by `takeDispatch_settles`, and the placing by the queue. -/
theorem fieldArbiter : Obligations.FieldArbiter := by
  intro s
  refine ⟨fun hidle => ⟨fieldTake_nothing, fun e rest hqueue hfwd => ?_, fun f fs hqueue hfwd => ?_,
    fun e rest f fs hqueue hfwd hrun => ?_, fun e rest f fs hqueue hfwd hrun => ?_,
    fun e rest hqueue hfwd hunguarded => ?_⟩, fun h => ⟨fun k => ⟨fun hk => ?_, fun p hk => ⟨?_, ?_, ?_⟩⟩,
    fun forced l e l' hqueue he hothers => ?_, fun forced habsent => ?_⟩⟩
  · rw [fieldTake_head hidle hqueue hfwd]
    exact takeDispatch_sends e rest 0 s
  · exact fieldTake_forwarded hidle hqueue hfwd
  · rw [fieldTake_dispatch hidle hqueue hfwd hrun]
    exact takeDispatch_sends e rest _ s
  · exact fieldTake_forwarded_run hidle hqueue hfwd hrun
  · obtain ⟨n, hn⟩ := fieldTake_takes hidle hqueue hfwd
    rw [hn]
    exact takeDispatch_settles hunguarded n
  · rw [get_ordersOf, get_marksOf, get_marksOf]
    exact ⟨slotOrder_empty hk, slotMark_empty hk _, slotMark_empty hk _⟩
  · rw [get_ordersOf, slotOrder_pump hk, order?_eq]
  · rw [get_marksOf]; exact slotMark_pump hk _
  · rw [get_marksOf]; exact slotMark_pump hk _
  · subst he
    exact placeOrders_inPlace forced hqueue rfl hothers
  · intro wanted
    have hwanted : (forced = true ∨ (newEntry s h).marked = true ∨ s.dispatcher.lastSent.get h ≠ some (s.ordersOf h))
        ↔ wanted := by
      rw [marked_iff, or_comm (a := ∃ k : SlotId, _)]
      exact Iff.rfl
    rw [placeOrders_absent forced habsent]
    exact ⟨fun h => if_pos (hwanted.mpr h), fun h => if_neg (mt hwanted.mp h)⟩

end

end Sys2Proof.Machine

/-! ## The clock and the period record (R65-R72) -/

namespace Sys2Proof.Machine

section

variable {s : State}

/-! ### The active CALENDAR entry (R68) -/

/-- The entry `a` starts later than `b`, or at the same minute with an index no higher. -/
def StartsLater (a b : CalId × Nat) : Prop := b.2 < a.2 ∨ (b.2 = a.2 ∧ a.1 ≤ b.1)

theorem startsLater_refl (a : CalId × Nat) : StartsLater a a := .inr ⟨rfl, le_rfl⟩

theorem startsLater_trans (a b c : CalId × Nat) (hab : StartsLater a b) (hbc : StartsLater b c) : StartsLater a c := by
  simp only [StartsLater, Fin.le_def] at *
  omega

/-- Over entries in index order the fold of R68 ends with the latest start, of the lowest index among equals. -/
theorem foldl_laterStart {l : List (CalId × Nat)} (hasc : l.Pairwise fun a b => a.1 < b.1) :
    (l.foldl laterStart none = none ↔ l = [])
      ∧ ∀ r, l.foldl laterStart none = some r → r ∈ l ∧ ∀ a ∈ l, StartsLater r a := by
  refine foldl_picks (fun _ => rfl) startsLater_refl startsLater_trans (hasc.imp fun {b a} hba => ?_)
  by_cases hlt : b.2 < a.2
  · exact .inl ⟨if_pos hlt, .inl hlt⟩
  · exact .inr ⟨if_neg hlt, (not_lt.mp hlt).lt_or_eq.imp_right fun heq => ⟨heq, hba.le⟩⟩

theorem mem_calendarStarts {i : CalId} {x : Nat} : (i, x) ∈ s.calendarStarts ↔ (s.tables.calendar.get i).start = some x := by
  simp [State.calendarStarts]

theorem ascending_calendarStarts : s.calendarStarts.Pairwise fun a b => a.1 < b.1 := by
  unfold State.calendarStarts
  refine List.Pairwise.filterMap _ (fun i j hij a ha b hb => ?_) (List.pairwise_lt_finRange 16)
  obtain ⟨_, -, rfl⟩ := Option.map_eq_some_iff.mp ha
  obtain ⟨_, -, rfl⟩ := Option.map_eq_some_iff.mp hb
  exact hij

/-- The entries whose start is not after a minute. -/
def State.startsBy (s : State) (m : Nat) : List (CalId × Nat) := s.calendarStarts.filter fun e => e.2 ≤ m

theorem mem_startsBy {m : Nat} {i : CalId} {x : Nat} : (i, x) ∈ s.startsBy m
    ↔ (s.tables.calendar.get i).start = some x ∧ x ≤ m := by
  simp [State.startsBy, mem_calendarStarts]

theorem ascending_startsBy {m : Nat} : (s.startsBy m).Pairwise fun a b => a.1 < b.1 := ascending_calendarStarts.filter _

/-- Where an entry starts by the minute, the latest of those is active. -/
theorem activeEntry_today {m : Nat} {r : CalId × Nat} (h : (s.startsBy m).foldl laterStart none = some r) :
    s.activeEntry m = some r.1 := by
  unfold State.activeEntry
  dsimp only
  rw [← State.startsBy, h]

/-- Where none does, the latest of all is active: the one in force since the day before. -/
theorem activeEntry_before {m : Nat} (h : s.startsBy m = []) :
    s.activeEntry m = (s.calendarStarts.foldl laterStart none).map (·.1) := by
  unfold State.activeEntry
  dsimp only
  rw [← State.startsBy, h]
  rfl

/-- The active entry as R68 gives it. -/
theorem activeEntry_cases (s : State) (m : Nat) :
    (∃ i x, s.activeEntry m = some i ∧ (i, x) ∈ s.startsBy m ∧ ∀ a ∈ s.startsBy m, StartsLater (i, x) a)
    ∨ (∃ i x, s.activeEntry m = some i ∧ s.startsBy m = [] ∧ (i, x) ∈ s.calendarStarts
        ∧ ∀ a ∈ s.calendarStarts, StartsLater (i, x) a)
    ∨ (s.activeEntry m = none ∧ s.calendarStarts = []) := by
  obtain ⟨htoday, hlatest⟩ := foldl_laterStart (ascending_startsBy (s := s) (m := m))
  obtain ⟨hall, hgreatest⟩ := foldl_laterStart (ascending_calendarStarts (s := s))
  cases ht : (s.startsBy m).foldl laterStart none with
  | some r => exact .inl ⟨r.1, r.2, activeEntry_today ht, hlatest r ht⟩
  | none =>
    have hempty := htoday.mp ht
    rw [activeEntry_before hempty]
    cases ha : s.calendarStarts.foldl laterStart none with
    | some r => exact .inr (.inl ⟨r.1, r.2, rfl, hempty, hgreatest r ha⟩)
    | none => exact .inr (.inr ⟨rfl, hall.mp ha⟩)

/-- Settles O40: both folds of R68 end with the latest start of the lowest index. -/
theorem activeEntry : Obligations.ActiveEntry := by
  intro m s start
  refine ⟨fun i hi => ?_, ?_, fun hset => if_pos hset, fun hset => ?_, fun c => rfl⟩
  · rcases activeEntry_cases s m with ⟨j, x, hj, hmem, hbest⟩ | ⟨j, x, hj, hempty, hmem, hbest⟩ | ⟨hnone, -⟩
    · obtain rfl := Option.some.inj (hi.symm.trans hj)
      obtain ⟨hx, hby⟩ := mem_startsBy.mp hmem
      exact ⟨x, hx, .inl ⟨hby, fun k y hk hle => hbest (k, y) (mem_startsBy.mpr ⟨hk, hle⟩)⟩⟩
    · obtain rfl := Option.some.inj (hi.symm.trans hj)
      have hafter (k : CalId) (y : Nat) (hk : start k = some y) : m < y := not_le.mp fun hle =>
        List.not_mem_nil (hempty ▸ mem_startsBy.mpr ⟨hk, hle⟩)
      exact ⟨x, mem_calendarStarts.mp hmem, .inr ⟨hafter, fun k y hk => hbest (k, y) (mem_calendarStarts.mpr hk)⟩⟩
    · cases hnone.symm.trans hi
  · have hunused : s.calendarStarts = [] ↔ ∀ j, start j = none := by
      simp only [List.eq_nil_iff_forall_not_mem, Prod.forall, mem_calendarStarts, Option.eq_none_iff_forall_ne_some]
      rfl
    rw [← hunused]
    rcases activeEntry_cases s m with ⟨j, x, hj, hmem, -⟩ | ⟨j, x, hj, -, hmem, -⟩ | ⟨hnone, hempty⟩
    · exact iff_of_false (by simp [hj]) (List.ne_nil_of_mem (List.mem_of_mem_filter hmem))
    · exact iff_of_false (by simp [hj]) (List.ne_nil_of_mem hmem)
    · exact iff_of_true hnone hempty
  · simp [State.lookup, hset]

/-! ### SET_TIME and RELATCH (R69, R71, R72) -/

theorem setTime_late {d x : Nat} (hx : 86399 < x) : setTime d x s = refuse .badValue s := if_pos (.inr hx)

theorem setTime_taken {d x : Nat} (hd : d ≤ 65535) (hx : x ≤ 86399) :
    setTime d x s = done (latchNow .live .setTime { s with sod := x, day := d, timeSet := true }) :=
  if_neg (by omega)

theorem apartHouses_latchNow (cause : LatchCause) (s : State) :
    (latchNow .live cause s).apartHouses = ({ s with period := s.periodOf s.lookup cause } : State).apartHouses :=
  apartHouses_latch s keeps_live s.lookup cause

/-- Settles O41: both requests latch from the lookup at the time they leave, and a latch hands on no more than
`apartHouses_latch` allows. -/
theorem timeRequests : Obligations.TimeRequests := by
  intro d x s hs latched
  have hset : exec (.setTime d x) s = .next (answer 0x43 (setTime d.toNat x.toNat s)) :=
    congrArg Host.Outcome.next (asked_of_serves hs 0x43 (setTime d.toNat x.toNat))
  have hrelatch : exec .relatch s = .next (answer 0x4A (askRelatch s)) :=
    congrArg Host.Outcome.next (asked_of_serves hs 0x4A askRelatch)
  have hperiod (i : Option CalId) (cause : LatchCause) : latched i cause = s.periodOf i cause := by cases i <;> rfl
  refine ⟨fun hx => ?_, fun hx => ?_, ?_⟩
  · rw [hset, setTime_late hx, answer_refuse]
  · rw [hset, setTime_taken (Nat.le_of_lt_succ d.isLt) hx, answer_done, hperiod]
    exact ⟨_, rfl, apartHouses_latchNow .setTime _⟩
  · rw [hrelatch, askRelatch, answer_done, hperiod]
    exact ⟨_, rfl, apartHouses_latchNow .relatch s⟩

/-! ### The advance of the seconds (R65, R66, R70) -/

/-- The state a second later, before the boundary test. -/
def State.ticked (s : State) : State := tickCalendar { s with now := s.now + 1 }

theorem ticked_eq : s.ticked = { s with
    now := s.now + 1
    sod := if s.timeSet = true then (if s.sod = 86399 then 0 else s.sod + 1) else s.sod
    day := if s.timeSet = true ∧ s.sod = 86399 then (s.day + 1) % 65536 else s.day } := by
  unfold State.ticked tickCalendar
  cases hset : s.timeSet with
  | false => simp
  | true => by_cases hlast : s.sod = 86399 <;> simp [hlast]

/-- A boundary is a whole minute at which the active entry starts (R70). -/
theorem boundary_iff {i : CalId} : s.boundary = some i ↔ s.timeSet = true ∧ s.sod % 60 = 0
    ∧ s.activeEntry (s.sod / 60) = some i ∧ (s.tables.calendar.get i).start = some (s.sod / 60) := by
  unfold State.boundary
  by_cases hminute : s.timeSet = true ∧ s.sod % 60 = 0
  · simp [hminute, Option.filter_eq_some_iff]
  · rw [if_neg (by simpa using hminute)]
    refine iff_of_false (fun h => by cases h) fun h => hminute ⟨h.1, h.2.1⟩

theorem advance_within (h : s.ticked.boundary = none) : advance s = s.ticked := by
  unfold advance
  dsimp only
  rw [← State.ticked, h]

theorem advance_boundary {i : CalId} (h : s.ticked.boundary = some i) :
    advance s = latch .live (some i) .boundary s.ticked := by
  unfold advance
  dsimp only
  rw [← State.ticked, h]

/-- Settles O42: `ticked` is the second's advance, and the latch of a boundary moves no more than `apartHouses_latch`
allows. -/
theorem secondAdvance : Obligations.SecondAdvance := by
  intro s sod day t0 reached
  have hticked : s.ticked = t0 := ticked_eq
  have hreached (i : CalId) : s.ticked.boundary = some i ↔ reached i := by rw [hticked]; exact boundary_iff
  refine ⟨fun hnone => ?_, fun i hi => ?_⟩
  · have hwithin : s.ticked.boundary = none :=
      Option.eq_none_iff_forall_ne_some.mpr fun i => mt (hreached i).mp (hnone i)
    exact congrArg Host.Outcome.next ((advance_within hwithin).trans hticked)
  · refine ⟨_, congrArg Host.Outcome.next (advance_boundary ((hreached i).mpr hi)), ?_⟩
    rw [apartHouses_latch _ keeps_live, hticked]
    rfl

end

end Sys2Proof.Machine

/-! ## The parts of the state that only named commands change (R66, R96, R173, R180, R183, R184) -/

namespace Sys2Proof.Machine

/-- The parts that have owners: the straps' values, the store, the tables, the calendar time and the modes of the houses. -/
structure Owned where
  ownAddr : Byte
  fieldRate : BitVec 2
  supRate : BitVec 2
  store : Vector StoreImage 9
  tables : Tables
  timeSet : Bool
  sod : Nat
  day : Nat
  modes : Vector Mode 12

/-- The owned parts of a state. -/
def State.owned (s : State) : Owned where
  ownAddr := s.ownAddr
  fieldRate := s.field.rate
  supRate := s.sup.rate
  store := s.store
  tables := s.tables
  timeSet := s.timeSet
  sod := s.sod
  day := s.day
  modes := s.houses.map House.mode

section

variable {R : ResId → Prop} {P : PumpId → Prop} {s t : State}

/-! ### Operations framed before keep the owned parts -/

theorem owned_apartHouses (s : State) : s.apartHouses.owned = s.owned := by
  simp [State.owned, State.apartHouses, State.apartOrders, State.apartAlarms, PortState.apartOut, House.fresh,
    Function.comp_def]

theorem owned_of_apartHouses (h : t.apartHouses = s.apartHouses) : t.owned = s.owned := by
  rw [← owned_apartHouses t, h, owned_apartHouses]

theorem owned_of_apartHouse {g : HouseId} (h : t.apartHouse g = s.apartHouse g) : t.owned = s.owned :=
  owned_of_apartHouses (apartHouses_of_apartHouse g h)

theorem owned_of_apartOrders (h : t.apartOrders = s.apartOrders) : t.owned = s.owned :=
  owned_of_apartHouses (apartHouses_of_apartOrders h)

theorem owned_of_apartAlarms (h : t.apartAlarms = s.apartAlarms) : t.owned = s.owned :=
  owned_of_apartOrders (apartOrders_of_apartAlarms h)

/-- An operation on records that touches no house. -/
theorem owned_of_touches (h : Touches R P noRecord s t) : t.owned = s.owned := by
  have hkey (u : State) : u.owned = { u.apartRecords.owned with modes := u.houses.map House.mode } := rfl
  rw [hkey t, hkey s, h.apart, h.houses]

section

variable (s)

@[simp] theorem owned_modRes (r : ResId) (f : Reservoir → Reservoir) : (modRes r f s).owned = s.owned := rfl

@[simp] theorem owned_modPump (p : PumpId) (f : Pump → Pump) : (modPump p f s).owned = s.owned := rfl

@[simp] theorem owned_modStation (h : HouseId) (f : Station → Station) : (modStation h f s).owned = s.owned := rfl

@[simp] theorem owned_setPumps (v : Vector Pump 32) : (setPumps v s).owned = s.owned := rfl

@[simp] theorem owned_mark (h : HouseId) : (mark h s).owned = s.owned := rfl

@[simp] theorem owned_markPump (p : PumpId) : (markPump p s).owned = s.owned := owned_of_apartOrders (by simp)

@[simp] theorem owned_accrue (p : PumpId) : (accrue p s).owned = s.owned := rfl

@[simp] theorem owned_raise (k : AlarmKind) (o : Nat) (v : Option Nat) (d : Side) : (raise k o v d s).owned = s.owned :=
  owned_of_apartAlarms (by simp)

@[simp] theorem owned_raisePump (k : AlarmKind) (p : PumpId) : (raisePump k p s).owned = s.owned :=
  owned_of_apartAlarms (by simp)

@[simp] theorem owned_clear (k : AlarmKind) (o : Nat) : (clear k o s).owned = s.owned := owned_of_apartAlarms (by simp)

@[simp] theorem owned_respond (c : Byte) (r : Result) (d : RespData) : (respond c r d s).owned = s.owned :=
  owned_of_apartAlarms (by simp)

@[simp] theorem owned_fieldTake : (fieldTake s).owned = s.owned := owned_of_apartOrders (by simp)

/-- An update of a house's record that keeps its mode. -/
theorem owned_modHouse {h : HouseId} {f : House → House} (hf : (f (s.house h)).mode = (s.house h).mode) :
    (modHouse h f s).owned = s.owned :=
  congrArg (fun v => { s.owned with modes := v }) (map_set_same s.houses House.mode h (f (s.house h)) hf)

/-- An update of a port that keeps its rate. -/
theorem owned_modPort {p : Port} {f : PortState → PortState} (hf : ∀ q, (f q).rate = q.rate) :
    (modPort p f s).owned = s.owned := by
  cases p with
  | field => exact congrArg (fun b => { s.owned with fieldRate := b }) (hf s.field)
  | supervisory => exact congrArg (fun b => { s.owned with supRate := b }) (hf s.sup)

theorem owned_onlyIf (b : Bool) {f : State → State} (hf : ∀ t, (f t).owned = t.owned) : (onlyIf b f s).owned = s.owned := by
  unfold onlyIf
  split
  · exact hf s
  · rfl

theorem owned_foldl {α : Type} {f : State → α → State} (hf : ∀ t a, (f t a).owned = t.owned) (l : List α) :
    (l.foldl f s).owned = s.owned := by
  induction l generalizing s with
  | nil => rfl
  | cons a rest ih => rw [List.foldl_cons, ih, hf]

end

/-! ### Pump supervision (R47-R57, R63, R64) -/

section

variable (s)

@[simp] theorem owned_adoptCore (p : PumpId) : (adoptCore p s).owned = s.owned := rfl

@[simp] theorem owned_clearStartFail (b : Bool) (p : PumpId) : (clearStartFail b p s).owned = s.owned :=
  owned_onlyIf s b fun t => owned_clear t _ _

@[simp] theorem owned_clearStopFail (b : Bool) (p : PumpId) : (clearStopFail b p s).owned = s.owned :=
  owned_onlyIf s b fun t => owned_clear t _ _

@[simp] theorem owned_failCore (p : PumpId) : (failCore p s).owned = s.owned := owned_of_apartOrders (by simp)

@[simp] theorem owned_endFlight (p : PumpId) : (endFlight p s).owned = s.owned := owned_of_apartOrders (by simp)

@[simp] theorem owned_runOnCore (p : PumpId) : (runOnCore p s).owned = s.owned := rfl

theorem owned_serviceReturn (p : PumpId) : (serviceReturn p s).owned = s.owned := by
  unfold serviceReturn
  dsimp only
  split <;> simp

theorem owned_serviceWithdraw (p : PumpId) : (serviceWithdraw p s).owned = s.owned := by
  unfold serviceWithdraw
  dsimp only
  split <;> simp

theorem owned_applyFault (p : PumpId) (fault : Nat) : (applyFault p fault s).owned = s.owned := by
  have hmarked (b : Bool) (t : State) : (onlyIf b (markPump p) t).owned = t.owned :=
    owned_onlyIf t b fun u => owned_markPump u p
  unfold applyFault
  dsimp only
  repeat' split
  all_goals simp [hmarked]

theorem owned_holdPumps (held : Bool) (h : HouseId) : (holdPumps held h s).owned = s.owned := by
  rw [holdPumps_eq]
  exact owned_setPumps s _

theorem owned_restartConfirm (p : PumpId) : (restartConfirm p s).owned = s.owned := rfl

theorem owned_houseHeard (h : HouseId) : (houseHeard h s).owned = s.owned := by
  unfold houseHeard
  split
  · rfl
  · dsimp only
    rw [owned_mark, owned_foldl _ fun t p => owned_restartConfirm t p, owned_holdPumps, owned_clear, owned_modStation]

theorem owned_stationHeardFrom (src : Nat) : (stationHeardFrom src s).owned = s.owned := by
  unfold stationHeardFrom
  split
  · rfl
  · exact owned_foldl s (fun t h => owned_houseHeard t h) _

variable {k : Ctx} (hk : k.Keeps)

include hk

theorem owned_derive (forced : Bool) (h : HouseId) : (derive k forced h s).owned = s.owned :=
  owned_of_apartOrders (apartOrders_derive s hk forced h)

theorem owned_derivePump (p : PumpId) : (derivePump k p s).owned = s.owned :=
  owned_of_apartOrders (apartOrders_derivePump s hk p)

theorem owned_shed : (shed k s).owned = s.owned := owned_of_apartOrders (apartOrders_shed s hk)

theorem owned_consider : (consider k s).owned = s.owned := owned_of_apartOrders (apartOrders_consider s hk)

theorem owned_loadFell : (loadFell k s).owned = s.owned := owned_of_apartOrders (apartOrders_loadFell s hk)

theorem owned_loadRose : (loadRose k s).owned = s.owned := owned_of_apartOrders (apartOrders_loadRose s hk)

theorem owned_loadChanged (before : Nat) : (loadChanged k before s).owned = s.owned :=
  owned_of_apartOrders (apartOrders_loadChanged s hk before)

theorem owned_adopt (p : PumpId) : (adopt k p s).owned = s.owned := by
  unfold adopt
  dsimp only
  rw [owned_derivePump _ hk, owned_clearStartFail, owned_onlyIf _ _ fun t => owned_markPump t p, owned_adoptCore]

theorem owned_foundRunning (p : PumpId) : (foundRunning k p s).owned = s.owned := by
  unfold foundRunning
  dsimp only
  rw [owned_derivePump _ hk, owned_onlyIf _ _ fun t => owned_raisePump t _ p, owned_clearStartFail, owned_markPump,
    owned_loadRose _ hk, owned_onlyIf _ _ fun t => owned_adoptCore t p, owned_modPump, owned_accrue]

theorem owned_startConfirmed (p : PumpId) : (startConfirmed k p s).owned = s.owned := by
  unfold startConfirmed
  dsimp only
  rw [owned_derivePump _ hk, owned_markPump, owned_endFlight, owned_modPump, owned_accrue]

theorem owned_foundStopped (p : PumpId) : (foundStopped k p s).owned = s.owned := by
  unfold foundStopped
  rw [owned_derivePump _ hk, owned_markPump, owned_modPump, owned_accrue]

theorem owned_stopSeen (p : PumpId) : (stopSeen k p s).owned = s.owned := by
  unfold stopSeen
  dsimp only
  rw [owned_derivePump _ hk, owned_onlyIf _ _ fun t => owned_raisePump t _ p, owned_clearStopFail, owned_markPump,
    owned_loadFell _ hk, owned_modPump, owned_accrue]

theorem owned_applyFeedback (p : PumpId) (running : Bool) : (applyFeedback k p running s).owned = s.owned := by
  unfold applyFeedback
  split
  · exact owned_foundRunning s hk p
  · exact owned_foundRunning s hk p
  · exact owned_startConfirmed s hk p
  · exact owned_foundStopped s hk p
  · exact owned_stopSeen s hk p
  · exact owned_stopSeen s hk p
  all_goals rfl

theorem owned_leaveRemote (p : PumpId) : (leaveRemote k p s).owned = s.owned := by
  unfold leaveRemote
  dsimp only
  split
  · rfl
  · exact owned_of_apartOrders (apartOrders_withdrawStart s hk p)
  · split
    · rw [owned_clearStopFail, owned_markPump, owned_shed _ hk, owned_runOnCore]
    · rfl
  all_goals rfl

theorem owned_enterRemote (p : PumpId) : (enterRemote k p s).owned = s.owned := by
  unfold enterRemote
  split
  · exact owned_adopt s hk p
  · rfl

theorem owned_applyPanel (p : PumpId) (panel : Panel) : (applyPanel k p panel s).owned = s.owned := by
  unfold applyPanel
  dsimp only
  split
  · rfl
  · rw [owned_derivePump _ hk]
    split
    · rw [owned_leaveRemote _ hk, owned_markPump, owned_modPump]
    · split
      · rw [owned_enterRemote _ hk, owned_markPump, owned_modPump]
      · rw [owned_markPump, owned_modPump]

theorem owned_pumpRecord (p : PumpId) (run panel fault : Nat) : (pumpRecord k p run panel fault s).owned = s.owned := by
  unfold pumpRecord
  split
  · rfl
  · split
    · rfl
    · rw [owned_applyFeedback _ hk, owned_applyFault, owned_applyPanel _ hk]

end

/-! ### Levels (R26-R42) -/

section

variable (s)

theorem owned_levelMoved (r : ResId) : (levelMoved r s).owned = s.owned :=
  owned_of_touches (P := noRecord) (touches_levelMoved r s)

theorem owned_loseLevel (r : ResId) : (loseLevel r s).owned = s.owned :=
  owned_of_touches (P := noRecord) (touches_loseLevel r s)

theorem owned_watchEstimate (r : ResId) : (watchEstimate r s).owned = s.owned :=
  owned_of_touches (P := noRecord) (touches_watchEstimate r s)

theorem owned_estimateOnce (r : ResId) : (estimateOnce r s).owned = s.owned :=
  owned_of_touches (P := noRecord) (touches_estimateOnce r s)

theorem owned_accept (r : ResId) (level : Nat) : (accept r level s).owned = s.owned := by
  unfold accept
  rw [owned_levelMoved, owned_of_apartAlarms (apartAlarms_clearSourceAlarm _ r _), owned_modRes]

theorem owned_levelRecord (r : ResId) (raw : Nat) (flag : Bool) : (levelRecord r raw flag s).owned = s.owned := by
  unfold levelRecord stepCheck
  dsimp only
  split
  · simp
  · have hvalid (b : Bool) (t : State) : (onlyIf b (clear .levelSensor r.val) t).owned = t.owned :=
      owned_onlyIf t b fun u => owned_clear u _ _
    split
    · rw [owned_accept, hvalid, owned_modRes, owned_modRes]
    · rw [owned_modRes, hvalid, owned_modRes, owned_modRes]

theorem owned_silenceOver (r : ResId) : (silenceOver r s).owned = s.owned := by
  unfold silenceOver
  split
  · unfold beginEstimate
    dsimp only
    rw [owned_levelMoved, owned_raise, owned_modRes]
  · exact owned_loseLevel s r

theorem owned_stationSilenced (h : HouseId) : (stationSilenced h s).owned = s.owned := by
  unfold stationSilenced
  dsimp only
  rw [owned_mark, owned_of_touches (P := noRecord) (touches_stationLost h _), owned_holdPumps, owned_raise, owned_modStation]

end

end

end Sys2Proof.Machine

/-! ## What each command changes of the owned parts -/

namespace Sys2Proof.Machine

/-! ### Owned parts apart from those of one owner -/

/-- Apart from the store. -/
def Owned.apartStore (o : Owned) : Owned := { o with store := .replicate 9 .blank }

/-- Apart from the tables. -/
def Owned.apartTables (o : Owned) : Owned := { o with tables := .cleared }

/-- Apart from the calendar time. -/
def Owned.apartClock (o : Owned) : Owned := { o with timeSet := false, sod := 0, day := 0 }

/-- Apart from the modes of the houses. -/
def Owned.apartModes (o : Owned) : Owned := { o with modes := .replicate 12 .auto }

/-- Apart from all that a request of some kind owns. -/
def Owned.apartRequests (o : Owned) : Owned := o.apartTables.apartClock.apartModes

section

variable (s : State)

/-! ### Ports and reception (R165-R168, R171) -/

theorem owned_countOn (p : Port) (f : Counters → Counters) : (countOn p f s).owned = s.owned :=
  owned_modPort s fun _ => rfl

theorem owned_setRx (p : Port) (rx : RxState) (buf : List Byte) : (setRx p rx buf s).owned = s.owned :=
  owned_modPort s fun _ => rfl

theorem owned_abandonFrame (p : Port) : (abandonFrame p s).owned = s.owned := by
  unfold abandonFrame
  split
  · rfl
  · rw [owned_countOn, owned_setRx]

theorem owned_forward (p : Port) (bytes : List Byte) : (forward p bytes s).owned = s.owned := by
  unfold forward
  split
  · exact owned_modPort s fun _ => rfl
  · rw [owned_of_apartOrders (apartOrders_portTake _ _)]
    exact owned_modPort s fun _ => rfl

theorem owned_stampSlot (e : DispEntry) (k : SlotId) : (stampSlot e s k).owned = s.owned := by
  unfold stampSlot
  split
  · unfold stampStart atHouseOf
    split
    · rfl
    · exact owned_modHouse _ rfl
  · split <;> rfl

theorem owned_completeDispatch : (completeDispatch s).owned = s.owned := by
  unfold completeDispatch
  split
  · rfl
  · next e _ =>
    dsimp only
    rw [owned_of_apartOrders (apartOrders_setInTx _ _), owned_of_apartOrders (apartOrders_setRefresh _ _ _),
      owned_derive _ keeps_quiet, owned_foldl _ fun t k => owned_stampSlot t e k]

theorem owned_completeTx (p : Port) : (completeTx p s).owned = s.owned := by
  have hfree (q : Port) (t : State) : (freeTx q t).owned = t.owned := owned_modPort t fun _ => rfl
  unfold completeTx
  split
  · rfl
  · rw [owned_fieldTake, hfree, owned_completeDispatch]
  · rw [owned_fieldTake, hfree]
  · rw [owned_of_apartAlarms (apartAlarms_supTake _), hfree]

theorem owned_takeRecord (src : Nat) (r : Rec) : (takeRecord src s r).owned = s.owned := by
  unfold takeRecord takeLevel takePump
  split
  · split
    · split
      · rfl
      · exact owned_levelRecord s _ _ _
    · split
      · split
        · rfl
        · exact owned_pumpRecord s keeps_live _ _ _ _
      · rfl
  · rfl

theorem owned_routeField (src kind : Byte) (rs : List Rec) : (routeField src kind rs s).owned = s.owned := by
  unfold routeField
  dsimp only
  split
  · rw [owned_foldl _ fun t r => owned_takeRecord t _ r, owned_stationHeardFrom]
  · exact owned_stationHeardFrom s _

/-! ### The engine (R20-R23, R96, R145, R185) -/

theorem owned_startEngine : (startEngine s).owned = s.owned := by
  rw [owned_of_apartHouses (apartHouses_startEngine s)]
  rfl

theorem owned_autoRun : (autoRun s).owned = s.owned := by
  unfold autoRun
  split
  · rfl
  · split
    · exact owned_startEngine _
    · rfl

theorem owned_releaseRecord (h : HouseId) : (releaseRecord h s).owned = s.owned := by
  unfold releaseRecord houseBegins
  rw [owned_modHouse _ rfl, owned_of_apartAlarms (apartAlarms_clearHouseAlarms h s)]

theorem owned_handRelease (before : State) : (handRelease before s).owned = s.owned := by
  unfold handRelease
  rw [owned_onlyIf _ _ fun t => owned_shed t keeps_live, owned_loadChanged _ keeps_live]

theorem owned_stopEngine : (stopEngine s).owned = s.owned := by
  unfold stopEngine
  dsimp only
  rw [owned_fieldTake, owned_handRelease, owned_foldl _ fun t h => owned_releaseRecord t h,
    owned_foldl _ fun t p => owned_of_apartOrders (apartOrders_releasePump t p),
    owned_of_apartOrders (apartOrders_refreshIdle _), owned_of_apartOrders (apartOrders_releaseAll _)]
  rfl

/-- A change of mode writes the modes alone. -/
theorem owned_changeMode (h : HouseId) (m : Mode) : (changeMode h m s).owned.apartModes = s.owned.apartModes := by
  have hset : (setMode h m s).owned.apartModes = s.owned.apartModes := rfl
  unfold changeMode
  dsimp only
  split
  · rfl
  · split
    · exact hset
    · split
      · rw [leaveAuto_eq, owned_handRelease, owned_of_apartHouse (apartHouse_left h _), owned_fieldTake,
          owned_of_apartOrders (apartOrders_leaving h m s), hset]
      · split
        · next hauto =>
          subst hauto
          rw [enterAuto, owned_derive _ keeps_live, owned_mark, owned_of_touches (adopts_adoptHouse h _).touches, hset]
        · exact hset

theorem owned_resetLive : (resetLive s).owned = s.owned := by
  have hmodes : (resetLive s).houses.map House.mode = s.houses.map House.mode :=
    vector_eq_of_get fun h => by simp [resetLive, Vector.get_eq_getElem, House.fresh, State.house]
  exact congrArg (fun v => { s.owned with modes := v }) hmodes

theorem owned_latchNow {k : Ctx} (hk : k.Keeps) (cause : LatchCause) : (latchNow k cause s).owned = s.owned := by
  rw [latchNow, owned_of_apartHouses (apartHouses_latch s hk s.lookup cause)]
  rfl

theorem owned_restartEngine : (restartEngine s).owned = s.owned := by
  unfold restartEngine
  dsimp only
  rw [owned_fieldTake, owned_latchNow _ keeps_quiet, owned_resetLive, owned_of_apartOrders (apartOrders_accrueAll _ _)]
  split
  · exact owned_of_apartOrders (apartOrders_releaseAll s)
  · rfl

/-! ### Tables (R12, R180) -/

theorem owned_minRunOver (p : PumpId) : (minRunOver p s).owned = s.owned := by
  rw [minRunOver, owned_shed _ keeps_live, owned_markPump, owned_modPump]

theorem owned_minOffOver (p : PumpId) : (minOffOver p s).owned = s.owned := by
  rw [minOffOver, owned_markPump, owned_modPump]

theorem owned_pumpBegins (p : PumpId) : (pumpBegins p s).owned = s.owned :=
  owned_of_touches (R := noRecord) (touches_pumpBegins p s)

theorem owned_pumpWritten (old : PumpEntry) (p : PumpId) : (pumpWritten old p s).owned = s.owned := by
  unfold pumpWritten limitsWritten reopenLimits trimHistory
  dsimp only
  rw [owned_modPump, owned_onlyIf _ _ fun t => owned_minOffOver t p, owned_onlyIf _ _ fun t => owned_minRunOver t p,
    owned_modPump, owned_onlyIf _ _ fun t => owned_pumpBegins t p]

theorem owned_houseWritten (old : HouseEntry) (h : HouseId) : (houseWritten old h s).owned = s.owned := by
  unfold houseWritten houseBegins
  split
  · rfl
  · dsimp only
    rw [owned_foldl _ fun t p => owned_pumpBegins t p, owned_modHouse _ rfl, owned_clear, owned_modStation]

theorem owned_entriesWritten (x : TableId) (old : Tables) (first count : Nat) :
    (entriesWritten x old first count s).owned = s.owned := by
  cases x with
  | reservoir => exact owned_foldl s (fun t r => owned_of_touches (P := noRecord) (touches_resWritten r t _)) _
  | house => exact owned_foldl s (fun t h => owned_houseWritten t _ h) _
  | pump => exact owned_foldl s (fun t p => owned_pumpWritten t _ p) _
  | site | band | draw | calendar | plan => rfl

/-- An accepted write changes the tables alone. -/
theorem owned_writeTables (x : TableId) (first : Nat) (ws : List (List Nat)) :
    (writeTables x first ws s).owned.apartTables = s.owned.apartTables := by
  unfold writeTables
  dsimp only
  split
  · have hsummed := owned_of_apartOrders (apartOrders_accrueAll s allPumps)
    rw [owned_loadChanged _ keeps_live, watchAll, owned_foldl _ fun t r => owned_watchEstimate t r, owned_entriesWritten,
      ← hsummed]
    rfl
  · rfl

end

end Sys2Proof.Machine

/-! ## Requests, the store and the expiries by the owned parts, and the commands -/

namespace Sys2Proof.Machine

section

variable (s : State)

/-! ### Requests (R173, R175-R185) -/

/-- What a request's own rule keeps of the owned parts, the request keeps: its response is no part of them. -/
theorem owned_asked (π : Owned → Owned) (code : Byte) {op : State → State × Reply}
    (hop : ∀ t, π (op t).1.owned = π t.owned) : π (asked code op s).owned = π s.owned := by
  unfold asked answer
  split
  · rfl
  · split
    · rw [owned_respond]
    · split
      · exact hop s
      · rw [owned_respond, hop]

@[simp] theorem fst_done : (done s).1 = s := rfl

theorem owned_readTable (table index count : Byte) : (readTable table index count s).1.owned = s.owned := by
  unfold readTable
  split
  · rfl
  · split
    · rfl
    · split <;> rfl

theorem owned_writeTable (table index count : Byte) (entries : List Byte) :
    (writeTable table index count entries s).1.owned.apartTables = s.owned.apartTables := by
  have hchecked (x : TableId) (first : Nat) (ws : List (List Nat)) :
      (writeChecked x first ws s).1.owned.apartTables = s.owned.apartTables := by
    unfold writeChecked
    split
    · rfl
    · split
      · rfl
      · exact owned_writeTables s x first ws
  unfold writeTable
  split
  · rfl
  · split
    · rfl
    all_goals
      split
      · rfl
      · split
        · rfl
        · split
          · exact hchecked _ _ _
          · rfl

theorem owned_readLive (view first : Byte) : (readLive view first s).1.owned = s.owned := by
  have hafter (n m : Nat) (t : State) : (afterView n m t).owned = t.owned := by
    unfold afterView
    split <;> rfl
  have hbefore (n : Nat) : (beforeView n s).owned = s.owned := by
    unfold beforeView
    split
    · exact owned_of_apartOrders (apartOrders_accrueAll s allPumps)
    · rfl
  unfold readLive
  split
  · rfl
  · split
    · rfl
    · exact (hafter _ _ _).trans (hbefore _)

theorem owned_setTime (day second : Nat) : (setTime day second s).1.owned.apartClock = s.owned.apartClock := by
  unfold setTime
  split
  · rfl
  · rw [fst_done, owned_latchNow _ keeps_live]
    rfl

theorem owned_cancelAuto : (cancelAuto s).owned = s.owned := by
  unfold cancelAuto
  split <;> rfl

theorem owned_askStart : (askStart s).1.owned = s.owned := by
  unfold askStart
  split
  · rfl
  · dsimp only
    split
    · exact owned_cancelAuto s
    · rw [fst_done, owned_startEngine, owned_cancelAuto]

theorem owned_askStop : (askStop s).1.owned = s.owned := by
  rw [askStop, fst_done]
  split
  · exact owned_stopEngine s
  · exact owned_cancelAuto s

theorem owned_askMode (house mode : Byte) : (askMode house mode s).1.owned.apartModes = s.owned.apartModes := by
  unfold askMode
  split
  · rfl
  · rfl
  · rw [fst_done, owned_changeMode]

theorem owned_askService (pump : Byte) {action : Option (PumpId → State → State)}
    (haction : ∀ f, action = some f → ∀ p t, (f p t).owned = t.owned) : (askService pump action s).1.owned = s.owned := by
  unfold askService
  split
  · rfl
  · rfl
  · rw [fst_done, haction _ rfl]

theorem owned_serviceAction (pump : Byte) (n : Nat) : (askService pump (serviceAction n) s).1.owned = s.owned := by
  refine owned_askService s pump fun f hf p t => ?_
  unfold serviceAction at hf
  split at hf
  · cases hf; exact owned_serviceReturn t p
  · cases hf; exact owned_serviceWithdraw t p
  · cases hf

theorem owned_askRunSeconds (pump : Byte) (value : Nat) : (askRunSeconds pump value s).1.owned = s.owned := by
  unfold askRunSeconds
  split <;> rfl

theorem owned_askAckAll : (askAckAll s).1.owned = s.owned := by
  rw [askAckAll, fst_done, owned_of_apartAlarms (apartAlarms_acknowledgeAll s)]

theorem owned_askAckByte (kind object : Byte) : (askAckByte kind object s).1.owned = s.owned := by
  unfold askAckByte askAck
  split
  · exact owned_askAckAll s
  · split
    · rfl
    · split
      · rw [fst_done, owned_of_apartAlarms (apartAlarms_acknowledge s _ _)]
      · rfl

theorem owned_askRelatch : (askRelatch s).1.owned = s.owned := by
  rw [askRelatch, fst_done, owned_latchNow _ keeps_live]

theorem owned_askSave : (askSave s).1.owned = s.owned := by
  obtain ⟨w, hbegun, -⟩ := beginSave_eq s
  unfold askSave
  split
  · rfl
  all_goals
    rw [hbegun]
    rfl

theorem owned_askRestart : (askRestart s).1.owned = s.owned := by
  unfold askRestart
  split
  · rfl
  · rw [fst_done, owned_restartEngine]
  · rw [fst_done, owned_restartEngine]

/-- A request keeps the straps' values and the store. -/
def KeepsWired (op : State → State × Reply) : Prop := ∀ t, (op t).1.owned.apartRequests = t.owned.apartRequests

theorem keepsWired_of_owned {op : State → State × Reply} (hop : ∀ t, (op t).1.owned = t.owned) : KeepsWired op :=
  fun t => congrArg Owned.apartRequests (hop t)

/-- A request of each tag by its parameter bytes; any other number of them is refused. -/
theorem keepsWired_requestOf {tag : Nat} (hlo : 0x40 ≤ tag) (hhi : tag ≤ 0x4C) (c : List Byte) :
    KeepsWired (requestOf tag c) := by
  have bad : KeepsWired (refuse .badFormat) := fun _ => rfl
  interval_cases tag
  · match c with
    | [a, b, n] => exact keepsWired_of_owned fun t => owned_readTable t a b n
    | [] | [_] | [_, _] | _ :: _ :: _ :: _ :: _ => exact bad
  · match c with
    | a :: b :: n :: e => exact fun t => congrArg (·.apartClock.apartModes) (owned_writeTable t a b n e)
    | [] | [_] | [_, _] => exact bad
  · match c with
    | [a, b] => exact keepsWired_of_owned fun t => owned_readLive t a b
    | [] | [_] | _ :: _ :: _ :: _ => exact bad
  · match c with
    | [_, _, _, _, _] => exact fun t => congrArg (·.apartTables.apartModes) (owned_setTime t _ _)
    | [] | [_] | [_, _] | [_, _, _] | [_, _, _, _] | _ :: _ :: _ :: _ :: _ :: _ :: _ => exact bad
  · match c with
    | [] => exact keepsWired_of_owned owned_askStart
    | _ :: _ => exact bad
  · match c with
    | [] => exact keepsWired_of_owned owned_askStop
    | _ :: _ => exact bad
  · match c with
    | [h, m] => exact fun t => congrArg (·.apartTables.apartClock) (owned_askMode t h m)
    | [] | [_] | _ :: _ :: _ :: _ => exact bad
  · match c with
    | [p, _] => exact keepsWired_of_owned fun t => owned_serviceAction t p _
    | [] | [_] | _ :: _ :: _ :: _ => exact bad
  · match c with
    | [p, _, _, _, _] => exact keepsWired_of_owned fun t => owned_askRunSeconds t p _
    | [] | [_] | [_, _] | [_, _, _] | [_, _, _, _] | _ :: _ :: _ :: _ :: _ :: _ :: _ => exact bad
  · match c with
    | [a, o] => exact keepsWired_of_owned fun t => owned_askAckByte t a o
    | [] | [_] | _ :: _ :: _ :: _ => exact bad
  · match c with
    | [] => exact keepsWired_of_owned owned_askRelatch
    | _ :: _ => exact bad
  · match c with
    | [] => exact keepsWired_of_owned owned_askSave
    | _ :: _ => exact bad
  · match c with
    | [] => exact keepsWired_of_owned owned_askRestart
    | _ :: _ => exact bad

theorem owned_takeRequest (rs : List Rec) : (takeRequest rs s).owned.apartRequests = s.owned.apartRequests := by
  refine owned_asked s Owned.apartRequests _ fun t => ?_
  unfold judgeRequest
  split
  · split
    · next htag =>
      obtain ⟨hlo, hhi⟩ := of_decide_eq_true htag
      exact keepsWired_requestOf hlo hhi _ t
    · rfl
  · rfl

/-! ### Bytes of the trunk lines -/

theorem owned_routeGood (p : Port) (bytes : List Byte) (rs : List Rec) :
    (routeGood p bytes rs s).owned.apartRequests = s.owned.apartRequests := by
  unfold routeGood routeSup
  split
  · rw [owned_forward, owned_routeField]
  · dsimp only
    split
    · exact owned_takeRequest s rs
    · split
      · rw [owned_of_apartAlarms (apartAlarms_pushNotice s _)]
      · rw [owned_forward]

theorem owned_receiveByte (p : Port) (b : Byte) : (receiveByte p b s).owned.apartRequests = s.owned.apartRequests := by
  have hjudge (bytes : List Byte) (t : State) : (judgeFrame p bytes t).owned.apartRequests = t.owned.apartRequests := by
    unfold judgeFrame
    split
    · rw [owned_countOn]
    · split
      · rw [owned_routeGood, owned_countOn]
      · rw [owned_forward, owned_countOn]
  unfold receiveByte
  dsimp only
  split
  · split
    · rw [owned_setRx]
    · rfl
  · split
    · rw [owned_setRx]
    · rw [owned_countOn, owned_setRx]
  · rw [owned_setRx]
  · rw [hjudge, owned_setRx]

/-! ### The store and the clock (R65, R66, R183, R184) -/

theorem owned_endSave (ok : Bool) : (endSave ok s).owned = s.owned := by
  rw [endSave, owned_respond]
  rfl

theorem owned_imageWritten : (imageWritten s).owned.apartStore = s.owned.apartStore := by
  unfold imageWritten
  split
  · rfl
  · rfl
  · dsimp only
    split
    · rfl
    · rw [owned_endSave]
      rfl

theorem owned_saveFault : (saveFault s).owned.apartStore = s.owned.apartStore := by
  unfold saveFault
  split
  · rfl
  · rfl
  · rw [owned_endSave]
    rfl

theorem owned_endStartup : (endStartup s).owned = s.owned := by
  have hlatch := owned_of_apartHouses
    (apartHouses_latch (beginRecords (rebuildMaps { s with storeTx := .idle })) keeps_quiet none .powerUp)
  have hbegan (t : State) (m : Second) (a : AutoStart) :
      ({ t with engine := .standby, settleMark := m, autoStart := a } : State).owned = t.owned := rfl
  unfold endStartup
  exact (hbegan _ _ _).trans hlatch

theorem owned_imageRead (r : StoreRead) : (imageRead r s).owned.apartTables = s.owned.apartTables := by
  unfold imageRead
  split
  · rfl
  · rfl
  · split
    · unfold restoreTable
      split <;> rfl
    · obtain ⟨w, hw, -⟩ := restoreRuns_eq (s.readBytes _ r) s
      rw [owned_endStartup, hw]
      rfl

theorem owned_advance : (advance s).owned.apartClock = s.owned.apartClock := by
  have hticked : s.ticked.owned.apartClock = s.owned.apartClock := by
    rw [ticked_eq]
    rfl
  cases hb : s.ticked.boundary with
  | none => rw [advance_within hb, hticked]
  | some i =>
    rw [advance_boundary hb, owned_of_apartHouses (apartHouses_latch _ keeps_live _ _)]
    exact hticked

/-! ### Expiries -/

theorem owned_whenDue (due : Bool) {f : State → State} (hf : (f s).owned = s.owned) : (whenDue due f s).owned = s.owned := by
  unfold whenDue
  split
  · exact hf
  · rfl

theorem owned_startUnconfirmed (p : PumpId) : (startUnconfirmed p s).owned = s.owned := by
  unfold startUnconfirmed
  dsimp only
  rw [owned_derivePump _ keeps_live, owned_onlyIf _ _ fun t => owned_raisePump t _ p, owned_markPump,
    owned_loadFell _ keeps_live, owned_onlyIf _ _ fun t => owned_modPump t p _, owned_failCore]

theorem owned_stopUnconfirmed (p : PumpId) : (stopUnconfirmed p s).owned = s.owned := by
  unfold stopUnconfirmed
  split
  · rw [owned_derivePump _ keeps_live, owned_markPump, owned_shed _ keeps_live, owned_runOnCore]
  · rw [owned_markPump, owned_raisePump, owned_modPump]

theorem owned_historyAged (p : PumpId) : (historyAged p s).owned = s.owned := by
  rw [historyAged, owned_markPump, owned_modPump]

theorem owned_takeHouseMark (h : HouseId) : (takeHouseMark h s).owned = s.owned := by
  unfold takeHouseMark
  split
  · exact owned_of_apartHouse (apartHouse_takeMark _ h keeps_live)
  · rfl

theorem owned_staggerOver (h : HouseId) : (staggerOver h s).owned = s.owned := by
  rw [staggerOver, owned_mark, owned_modHouse s rfl]

theorem owned_rotationOver (h : HouseId) : (rotationOver h s).owned = s.owned := by
  rw [rotationOver, owned_mark, owned_modHouse s rfl]

theorem owned_requestAged (h : HouseId) : (requestAged h s).owned = s.owned := owned_consider _ keeps_live

end

/-! ### The commands -/

/-- Of the owned parts, those that a command other than POWER_UP leaves as they are. -/
def Owned.standing (o : Owned) : Instr → Owned
  | .writeTable _ _ _ _ | .restoreImageRead _ => o.apartTables
  | .setTime _ _ | .engineSecondAdvance => o.apartClock
  | .houseMode _ _ => o.apartModes
  | .storeImageWritten | .storeFault => o.apartStore
  | .frameArrival _ _ | .badLengthByte _ _ | .receivedByte _ _ | .mgmtRequestMalformed _ => o.apartRequests
  | _ => o

theorem standing_of_exec {c : Instr} {s t : State} (hexec : exec c s = .next t) (hc : ∀ a f r, c ≠ .powerUp a f r) :
    t.owned.standing c = s.owned.standing c := by
  suffices h : ∃ u, exec c s = .next u ∧ u.owned.standing c = s.owned.standing c by
    obtain ⟨u, hu, howned⟩ := h
    obtain rfl := Host.Outcome.next.inj (hexec.symm.trans hu)
    exact howned
  cases c with
  | powerUp a f r => exact absurd rfl (hc a f r)
  | frameArrival p b => exact ⟨_, rfl, owned_receiveByte s p b⟩
  | badLengthByte p b => exact ⟨_, rfl, owned_receiveByte s p b⟩
  | gapExpiry p => exact ⟨_, rfl, owned_abandonFrame s p⟩
  | framingError p => exact ⟨_, rfl, owned_abandonFrame s p⟩
  | mgmtRequestMalformed records =>
    refine ⟨_, rfl, ?_⟩
    split
    · rfl
    · exact owned_takeRequest s _
  | readTable a b n => exact ⟨_, rfl, owned_asked s id _ fun t => owned_readTable t a b n⟩
  | writeTable a b n e => exact ⟨_, rfl, owned_asked s Owned.apartTables _ fun t => owned_writeTable t a b n e⟩
  | readLive a b => exact ⟨_, rfl, owned_asked s id _ fun t => owned_readLive t a b⟩
  | setTime d x => exact ⟨_, rfl, owned_asked s Owned.apartClock _ fun t => owned_setTime t _ _⟩
  | engineStart => exact ⟨_, rfl, owned_asked s id _ owned_askStart⟩
  | engineStop => exact ⟨_, rfl, owned_asked s id _ owned_askStop⟩
  | houseMode h m => exact ⟨_, rfl, owned_asked s Owned.apartModes _ fun t => owned_askMode t h m⟩
  | pumpServiceReturn p => exact ⟨_, rfl, owned_asked s id _ fun t => owned_serviceAction t p 0⟩
  | pumpServiceWithdraw p => exact ⟨_, rfl, owned_asked s id _ fun t => owned_serviceAction t p 1⟩
  | setRunSeconds p v => exact ⟨_, rfl, owned_asked s id _ fun t => owned_askRunSeconds t p _⟩
  | alarmAck a o => exact ⟨_, rfl, owned_asked s id _ fun t => owned_askAckByte t a o⟩
  | alarmAckAll o => exact ⟨_, rfl, owned_asked s id _ owned_askAckAll⟩
  | relatch => exact ⟨_, rfl, owned_asked s id _ owned_askRelatch⟩
  | save => exact ⟨_, rfl, owned_asked s id _ owned_askSave⟩
  | restart => exact ⟨_, rfl, owned_asked s id _ owned_askRestart⟩
  | storeImageWritten => exact ⟨_, rfl, owned_imageWritten s⟩
  | storeFault => exact ⟨_, rfl, owned_saveFault s⟩
  | restoreImageRead r => exact ⟨_, rfl, owned_imageRead s r⟩
  | engineSecondAdvance => exact ⟨_, rfl, owned_advance s⟩
  | automaticStart => exact ⟨_, rfl, owned_whenDue s _ (owned_autoRun s)⟩
  | silenceExpiry r => exact ⟨_, rfl, owned_whenDue s _ (owned_silenceOver s r)⟩
  | lossExpiry r => exact ⟨_, rfl, owned_whenDue s _ (owned_loseLevel s r)⟩
  | estimateStep r => exact ⟨_, rfl, owned_whenDue s _ (owned_estimateOnce s r)⟩
  | stationSilenceExpiry h => exact ⟨_, rfl, owned_whenDue s _ (owned_stationSilenced s h)⟩
  | startConfirmExpiry p => exact ⟨_, rfl, owned_whenDue s _ (owned_startUnconfirmed s p)⟩
  | stopConfirmExpiry p => exact ⟨_, rfl, owned_whenDue s _ (owned_stopUnconfirmed s p)⟩
  | minRunExpiry p => exact ⟨_, rfl, owned_whenDue s _ (owned_minRunOver s p)⟩
  | minOffExpiry p => exact ⟨_, rfl, owned_whenDue s _ (owned_minOffOver s p)⟩
  | historyAgeing p => exact ⟨_, rfl, owned_whenDue s _ (owned_historyAged s p)⟩
  | houseEvaluation h => exact ⟨_, rfl, owned_takeHouseMark s h⟩
  | staggerExpiry h => exact ⟨_, rfl, owned_whenDue s _ (owned_staggerOver s h)⟩
  | fallbackPhaseExpiry h => exact ⟨_, rfl, owned_whenDue s _ (owned_of_apartHouse (apartHouse_passPhase s h))⟩
  | rotationExpiry h => exact ⟨_, rfl, owned_whenDue s _ (owned_rotationOver s h)⟩
  | requestAgeingExpiry h => exact ⟨_, rfl, owned_whenDue s _ (owned_requestAged s h)⟩
  | grantGapExpiry => exact ⟨_, rfl, owned_whenDue s _ (owned_consider s keeps_live)⟩
  | refreshExpiry h => exact ⟨_, rfl, owned_whenDue s _ (owned_derive s keeps_live true h)⟩
  | transmitCompletion p => exact ⟨_, rfl, owned_completeTx s p⟩
  | receivedByte p b => exact ⟨_, rfl, owned_receiveByte s p b⟩

section

variable {c : Instr}

theorem ownAddr_standing (o : Owned) : (o.standing c).ownAddr = o.ownAddr := by cases c <;> rfl

theorem fieldRate_standing (o : Owned) : (o.standing c).fieldRate = o.fieldRate := by cases c <;> rfl

theorem supRate_standing (o : Owned) : (o.standing c).supRate = o.supRate := by cases c <;> rfl

theorem store_standing (hwritten : c ≠ .storeImageWritten) (hfault : c ≠ .storeFault) (o : Owned) :
    (o.standing c).store = o.store := by
  cases c with
  | storeImageWritten => exact absurd rfl hwritten
  | storeFault => exact absurd rfl hfault
  | _ => rfl

section

variable (hcarry : mayCarryRequest c = false)

include hcarry

theorem tables_standing (hwrite : ∀ b i n e, c ≠ .writeTable b i n e) (hread : ∀ r, c ≠ .restoreImageRead r) (o : Owned) :
    (o.standing c).tables = o.tables := by
  cases c with
  | writeTable b i n e => exact absurd rfl (hwrite b i n e)
  | restoreImageRead r => exact absurd rfl (hread r)
  | frameArrival | badLengthByte | receivedByte | mgmtRequestMalformed => cases hcarry
  | _ => rfl

theorem clock_standing (hset : ∀ d x, c ≠ .setTime d x) (htick : c ≠ .engineSecondAdvance) (o : Owned) :
    ((o.standing c).timeSet, (o.standing c).sod, (o.standing c).day) = (o.timeSet, o.sod, o.day) := by
  cases c with
  | setTime d x => exact absurd rfl (hset d x)
  | engineSecondAdvance => exact absurd rfl htick
  | frameArrival | badLengthByte | receivedByte | mgmtRequestMalformed => cases hcarry
  | _ => rfl

theorem modes_standing (hmode : ∀ h m, c ≠ .houseMode h m) (o : Owned) : (o.standing c).modes = o.modes := by
  cases c with
  | houseMode h m => exact absurd rfl (hmode h m)
  | frameArrival | badLengthByte | receivedByte | mgmtRequestMalformed => cases hcarry
  | _ => rfl

end

/-- Settles O3: a command leaves its `standing` parts, and each part stands for every command but its owners. -/
theorem ownersAlone : Obligations.OwnersAlone := by
  intro c s t hexec hc
  have hstanding := standing_of_exec hexec hc
  have kept {α : Type} (part : Owned → α) (hpart : ∀ o, part (o.standing c) = part o) : part t.owned = part s.owned := by
    rw [← hpart, hstanding, hpart]
  refine ⟨kept Owned.ownAddr ownAddr_standing, kept Owned.fieldRate fieldRate_standing,
    kept Owned.supRate supRate_standing, fun hwritten hfault => kept Owned.store (store_standing hwritten hfault),
    fun hcarry => ⟨fun hwrite hread => kept Owned.tables (tables_standing hcarry hwrite hread), fun hset htick => ?_,
      fun hmode h => ?_⟩⟩
  · have hclock := kept (fun o => (o.timeSet, o.sod, o.day)) (clock_standing hcarry hset htick)
    rw [Prod.mk.injEq, Prod.mk.injEq] at hclock
    exact hclock
  · have hmodes := congrArg (fun v => v.get h) (kept Owned.modes (modes_standing hcarry hmode))
    simpa only [State.owned, getMap, State.house] using hmodes

end

end Sys2Proof.Machine

/-! ## Invariants of the starts and stops that a cascade of orders makes (R50, R119-R139) -/

namespace Sys2Proof.Machine

/-- The parts of a state by which starts are granted and withdrawn and stops are made, and what the field port sends. -/
def State.orderParts (s : State) :=
  (s.tables, s.now, s.pumps, s.houses, s.arbiter.requests, s.arbiter.lastGrantMark, s.arbiter.lastGrant, s.field.tx)

/-- The record of a grant, before its rise of site load is handed on (R127). -/
def grantCore (e : Request) (s : State) : State :=
  recordGrant e (startCore e.pump e.effective (dropRequest e.house s))

/-- An invariant of the order parts that a stop of a pump running under command keeps (R129). -/
structure StopKept (I : State → Prop) : Prop where
  same : ∀ {s t : State}, I s → t.orderParts = s.orderParts → I t
  stop : ∀ {s : State} {p : PumpId}, (s.pump p).commandedRunning = true → I s → I (stopCore p s)

/-- One that the grant of a winner after the grant gap keeps too (R124). -/
structure GrantKept (I : State → Prop) : Prop extends StopKept I where
  granted : ∀ {s : State} {e : Request}, s.reached s.arbiter.lastGrantMark s.site.grantGap = true →
    s.winner = some e → I s → I (grantCore e s)

/-- One that the suction guard keeps too: a QUEUED start is undone and a TRANSMITTED one ends (R138). -/
structure GuardKept (I : State → Prop) : Prop extends GrantKept I where
  undone : ∀ {s : State} {p : PumpId}, (s.pump p).run = .startOrdered → (s.pump p).order = .queued → I s →
    I (undoCore p s)
  failed : ∀ {s : State} {p : PumpId}, (s.pump p).run = .startOrdered → (s.pump p).order = .transmitted → I s →
    I (failCore p s)

/-- One that a take of the field port keeps too: QUEUED orders become TAKEN, and a frame goes out (R139, R169). -/
structure TakeKept (I : State → Prop) : Prop extends GuardKept I where
  taken : ∀ {s : State} {p : PumpId}, (s.pump p).order = .queued → I s →
    I (modPump p (fun q => { q with order := .taken }) s)
  sent : ∀ {s : State} (f : PortState), I s → I { s with field := f }

section

variable {I : State → Prop} {s : State} {k : Ctx}

/-! ### Marks, the window and placed orders leave the order parts -/

theorem orderParts_recompute (s : State) : (recompute s).orderParts = s.orderParts := by
  obtain ⟨o, b, c, d, h⟩ := recompute_window s
  rw [h]
  rfl

theorem orderParts_markPump (p : PumpId) (s : State) : (markPump p s).orderParts = s.orderParts := by
  rw [markPump_eq]
  rfl

theorem orderParts_placeOrders (forced : Bool) (h : HouseId) (s : State) :
    (placeOrders forced h s).orderParts = s.orderParts := by
  obtain ⟨q, hq⟩ := placeOrders_queue forced h s
  rw [hq]
  rfl

/-! ### Shedding -/

section

variable (K : StopKept I) (hk : k.Holds I)

include K

theorem stopKept_mark (h : HouseId) (hs : I s) : I (mark h s) := K.same hs rfl

theorem stopKept_markPump (p : PumpId) (hs : I s) : I (markPump p s) := K.same hs (orderParts_markPump p s)

theorem stopKept_recompute (hs : I s) : I (recompute s) := K.same hs (orderParts_recompute s)

include hk

theorem stopKept_derive (forced : Bool) (h : HouseId) (hs : I s) : I (derive k forced h s) := by
  unfold derive
  split
  · exact hk _ (K.same hs (orderParts_placeOrders forced h s))
  · exact hs

theorem stopKept_derivePump (p : PumpId) (hs : I s) : I (derivePump k p s) :=
  kept_atHouseOf p (fun h _ => stopKept_derive K hk false h) hs

theorem stopKept_shedLoop (fuel : Nat) (hs : I s) : I (shedLoop k fuel s) := by
  induction fuel generalizing s with
  | zero => exact hs
  | succ fuel ih =>
    unfold shedLoop
    split
    · exact K.same hs rfl
    · split
      · exact K.same hs rfl
      · next p hp =>
        obtain ⟨h, -, hrun, hcommanded, -⟩ := shedable_iff.mp (shedable_of_shedNext s hp)
        have hstopped := K.stop (commandedRunning_iff.mpr ⟨hrun, hcommanded⟩) hs
        exact ih (stopKept_derivePump K hk p (stopKept_markPump K p hstopped))

theorem stopKept_shed (hs : I s) : I (shed k s) := by
  unfold shed
  split
  · exact stopKept_shedLoop K hk 33 hs
  · exact hs

/-- What follows the record of a grant (R127). -/
theorem stopKept_grant (e : Request) (hs : I (grantCore e s)) : I (grant k e s) :=
  stopKept_derive K hk false _ (stopKept_mark K _ (stopKept_shed K hk (stopKept_recompute K hs)))

theorem stopKept_stopRequest (p : PumpId) (hs : I s) : I (stopRequest k p s) := by
  unfold stopRequest
  split
  · next hp => exact stopKept_derivePump K hk p (stopKept_markPump K p (stopKept_shed K hk (K.stop hp hs)))
  · exact hs

end

/-! ### Grants -/

section

variable (K : GrantKept I) (hk : k.Holds I)

include K hk

theorem grantKept_consider (hs : I s) : I (consider k s) := by
  unfold consider
  split
  · next hdue =>
    obtain ⟨-, hgap⟩ := Bool.and_eq_true_iff.mp hdue
    split
    · exact hs
    · next e he => exact stopKept_grant K.toStopKept hk e (K.granted hgap he hs)
  · exact hs

theorem grantKept_loadFell (hs : I s) : I (loadFell k s) :=
  grantKept_consider K hk (stopKept_recompute K.toStopKept hs)

/-- What follows the record of a start undone (R50). -/
theorem grantKept_undoStart (p : PumpId) (hs : I (undoCore p s)) : I (undoStart k p s) :=
  stopKept_derivePump K.toStopKept hk p (stopKept_markPump K.toStopKept p (grantKept_loadFell K hk hs))

end

/-! ### The suction guard -/

section

variable (K : GuardKept I)

include K

theorem guardKept_guardPump (p : PumpId) (hs : I s) : I (guardPump p s) := by
  unfold guardPump
  split
  · next hrun horder =>
    exact stopKept_markPump K.toStopKept p (grantKept_loadFell K.toGrantKept holds_quiet (K.undone hrun horder hs))
  · next hrun horder =>
    exact stopKept_markPump K.toStopKept p (grantKept_loadFell K.toGrantKept holds_quiet (K.failed hrun horder hs))
  · next hrun =>
    split
    · next hcommanded =>
      have hstopped := K.stop (commandedRunning_iff.mpr ⟨hrun, hcommanded⟩) hs
      exact stopKept_markPump K.toStopKept p (stopKept_shed K.toStopKept holds_quiet hstopped)
    · exact hs
  · exact hs

theorem guardKept_guardSlot (h : HouseId) (orders : Vector Order 4) (c : SlotId) (hs : I s) :
    I (guardSlot h orders s c) := by
  unfold guardSlot
  split
  · split
    · exact hs
    · exact guardKept_guardPump K _ hs
  · exact hs

theorem guardKept_guardSlots (h : HouseId) (orders : Vector Order 4) (l : List SlotId) (hs : I s) :
    I (l.foldl (guardSlot h orders) s) := kept_foldl (fun _ c => guardKept_guardSlot K h orders c) l hs

theorem guardKept_guardPass (h : HouseId) (orders : Vector Order 4) (hs : I s) : I (guardPass h orders s) :=
  guardKept_guardSlots K h orders allSlots hs

theorem guardKept_guardAgain (h : HouseId) (hs : I s) : I (guardAgain h s) := guardKept_guardPass K h _ hs

theorem guardKept_guardEntry (e : DispEntry) (hs : I s) : I (guardEntry e s).1 := by
  unfold guardEntry
  split
  · dsimp only
    exact guardKept_guardAgain K _ (guardKept_guardAgain K _ (guardKept_guardPass K _ _ hs))
  · exact hs

end

/-! ### The take -/

/-- A marked pump has its order in the order state asked for. -/
theorem order_of_markedPump {h : HouseId} {m : Vector Bool 4} {r : RunState} {o : OrderState} {c : SlotId} {p : PumpId}
    (hp : s.markedPump h m r o c = some p) : (s.pump p).order = o := by
  unfold State.markedPump at hp
  split at hp
  · obtain ⟨-, hmatch⟩ := Option.filter_eq_some_iff.mp hp
    exact beq_iff_eq.mp (Bool.and_eq_true_iff.mp hmatch).2
  · cases hp

section

variable (K : TakeKept I)

include K

theorem takeKept_takeMarked (e : DispEntry) (hs : I s) : I (takeMarked e s) := by
  refine kept_foldl (fun t c ht => ?_) _ hs
  unfold takeSlot
  split
  · next p hp => exact K.taken (order_of_markedPump hp) ht
  · split
    · next p hp => exact K.taken (order_of_markedPump hp) ht
    · exact ht

theorem takeKept_takeDispatch (e : DispEntry) (rest : List DispEntry) (hs : I s) : I (takeDispatch e rest s) := by
  have hguarded := guardKept_guardEntry K.toGuardKept e (s := dequeue e rest s) (K.same hs rfl)
  have hprepared : I (prepare e rest s) := by
    unfold prepare
    dsimp only
    exact stopKept_derive K.toStopKept holds_quiet false _ (takeKept_takeMarked K _ (K.same hguarded rfl))
  rw [takeDispatch_eq_prepare]
  have hout := K.same (t := setInTx (some (guardEntry e (dequeue e rest s)).2) (prepare e rest s)) hprepared rfl
  exact K.sent _ hout

theorem takeKept_fieldTake (hs : I s) : I (fieldTake s) := by
  unfold fieldTake
  split
  · exact hs
  · split
    · exact hs
    · exact takeKept_takeDispatch K _ _ (K.sent _ hs)
    · exact K.sent _ hs
    · split
      · exact takeKept_takeDispatch K _ _ (K.sent _ hs)
      · exact K.sent _ hs

theorem holds_live_takeKept : Ctx.live.Holds I := fun _ hs => takeKept_fieldTake K hs

end

/-- At a busy field port an invariant that says so holds through every take. -/
theorem holds_live_busy (hbusy : ∀ t, I t → t.field.tx ≠ none) : Ctx.live.Holds I := fun t ht => by
  show I (fieldTake t)
  rwa [fieldTake_busy (hbusy t ht)]

end

/-! ### The records of a stop, a grant and a start undone -/

section

variable {s : State} {p : PumpId} {e : Request}

/-- A stop leaves the other pumps, and the rest of the order parts. -/
theorem pump_stopCore (q : PumpId) : (stopCore p s).pump q = if q = p then { s.pump p with
    run := .stopOrdered, commanded := false, order := .queued, orderTx := none, confirmMark := none
    stopExpired := false, runSeconds := s.runSecondsNow p, accrualMark := s.now } else s.pump q := by
  rw [stopCore, modPump_accrue]
  exact getSet _ _ _ _

theorem pump_grantCore (q : PumpId) : (grantCore e s).pump q = if q = e.pump then { s.pump q with
    run := .startOrdered, commanded := false, order := .queued, orderTx := none, confirmMark := none
    admission := some e.effective, stopExpired := false, runSeconds := s.runSecondsNow q, accrualMark := s.now }
    else s.pump q := by
  unfold grantCore recordGrant
  rw [pump_modHouse, pump_modArbiter, startCore, modPump_accrue]
  refine (getSet _ _ _ _).trans ?_
  split
  · next hq => rw [hq]; rfl
  · rfl

theorem house_grantCore (g : HouseId) : (grantCore e s).house g
    = if g = e.house then { s.house g with start := .granted e.pump } else s.house g := by
  unfold grantCore recordGrant
  rw [house_modHouse, house_modArbiter, startCore, modPump_accrue]
  split
  · next hg => rw [hg]; rfl
  · rfl

theorem requests_grantCore :
    (grantCore e s).arbiter.requests = s.arbiter.requests.filter fun x => x.house ≠ e.house := rfl

theorem endFlight_houses (p : PumpId) (s : State) : ∃ hs, endFlight p s = { s with houses := hs } := by
  unfold endFlight atHouseOf
  split
  · exact ⟨s.houses, rfl⟩
  · exact ⟨_, rfl⟩

/-- A start undone moves records of pumps and houses alone. -/
theorem undoCore_records (p : PumpId) (s : State) : ∃ ps hs, undoCore p s = { s with pumps := ps, houses := hs } := by
  unfold undoCore
  rw [modPump_accrue]
  exact ⟨_, endFlight_houses p _⟩

/-- A start that ends with the pump standing moves records of pumps and houses alone. -/
theorem failCore_records (p : PumpId) (s : State) : ∃ ps hs, failCore p s = { s with pumps := ps, houses := hs } := by
  unfold failCore
  rw [modPump_accrue]
  exact ⟨_, endFlight_houses p _⟩

theorem eligible_of_winner (he : s.winner = some e) : s.eligible e.pump = true := by
  have hpick : ∀ b x, betterRequest b x = some x ∨ betterRequest b x = b := fun b x => by
    unfold betterRequest
    repeat' split
    all_goals simp
  have hmem := (mem_foldl_pick hpick _ none he).resolve_right (by simp)
  have hfits := (List.mem_filter.mp hmem).2
  unfold State.fits State.unfit at hfits
  split at hfits
  · cases hfits
  · next hne => simpa using hne

end

end Sys2Proof.Machine

/-! ## GRANT_GAP_EXPIRY (R92, R124, R127, R128) -/

namespace Sys2Proof.Machine

section

variable {s : State} {e : Request}

/-- A grant gap of which nothing has elapsed is not over (R124). -/
theorem not_reached_now {m : Second} {l : Nat} (hm : m = s.now) (hl : 1 ≤ l) : s.reached m l ≠ true := by
  rw [Ne, reached_iff, hm, BitVec.sub_self]
  exact Nat.not_le.mpr hl

theorem gapDue_iff : s.gapDue = true
    ↔ (s.now - s.arbiter.lastGrantMark).toNat = s.site.grantGap ∧ 1 ≤ s.site.grantGap := by
  simp [State.gapDue, State.firstReached, State.since, Nat.one_le_iff_ne_zero]

/-- The entry's grant stands recorded. -/
structure Recorded (s : State) (e : Request) (t : State) : Prop where
  tables : t.tables = s.tables
  now : t.now = s.now
  mark : t.arbiter.lastGrantMark = s.now
  last : t.arbiter.lastGrant = some (e.house, e.pump)
  requests : t.arbiter.requests = s.arbiter.requests.filter fun x => x.house ≠ e.house

/-- Where a grant gap holds, a recorded grant stands: no other follows it in its second (R124). -/
theorem takeKept_recorded (hgap : 1 ≤ s.site.grantGap) : TakeKept (Recorded s e) where
  same hu h := by
    simp only [State.orderParts, Prod.mk.injEq] at h
    obtain ⟨htables, hnow, -, -, hrequests, hmark, hlast, -⟩ := h
    exact ⟨htables.trans hu.tables, hnow.trans hu.now, hmark.trans hu.mark, hlast.trans hu.last,
      hrequests.trans hu.requests⟩
  stop _ hu := ⟨hu.tables, hu.now, hu.mark, hu.last, hu.requests⟩
  granted {u _} hreached _ hu := by
    have hsite : u.site = s.site := congrArg Tables.site hu.tables
    exact absurd hreached (not_reached_now (hu.mark.trans hu.now.symm) (by rwa [hsite]))
  undone {u p} _ _ hu := by
    obtain ⟨ps, hs, h⟩ := undoCore_records p u
    rw [h]
    exact ⟨hu.tables, hu.now, hu.mark, hu.last, hu.requests⟩
  failed {u p} _ _ hu := by
    obtain ⟨ps, hs, h⟩ := failCore_records p u
    rw [h]
    exact ⟨hu.tables, hu.now, hu.mark, hu.last, hu.requests⟩
  taken _ hu := ⟨hu.tables, hu.now, hu.mark, hu.last, hu.requests⟩
  sent _ hu := ⟨hu.tables, hu.now, hu.mark, hu.last, hu.requests⟩

theorem recorded_grantCore (s : State) (e : Request) : Recorded s e (grantCore e s) := by
  have hcore : (grantCore e s).apartOrders = s.apartOrders := by
    unfold grantCore
    rw [apartOrders_recordGrant, apartOrders_startCore, apartOrders_dropRequest]
  have hnow : (startCore e.pump e.effective (dropRequest e.house s)).now = s.now := rfl
  have hmark : (grantCore e s).arbiter.lastGrantMark = s.now := hnow
  exact ⟨tables_of_apartOrders hcore, now_of_apartOrders hcore, hmark, rfl, requests_grantCore⟩

theorem recorded_grant (hgap : 1 ≤ s.site.grantGap) : Recorded s e (grant .live e s) :=
  stopKept_grant (takeKept_recorded hgap).toStopKept (holds_live_takeKept (takeKept_recorded hgap)) e
    (recorded_grantCore s e)

/-- The granted pump's record and the start in flight of its house, with the frame in transmission. -/
structure Granted (x : Option TxFrame) (e : Request) (v : Pump) (t : State) : Prop where
  tx : t.field.tx = x
  pump : t.pump e.pump = v
  start : (t.house e.house).start = .granted e.pump

/-- Shedding stops pumps that run under command, and so never one just granted. -/
theorem stopKept_granted {x : Option TxFrame} {v : Pump} (hv : v.run = .startOrdered) : StopKept (Granted x e v) where
  same hu h := by
    simp only [State.orderParts, Prod.mk.injEq] at h
    obtain ⟨-, -, hpumps, hhouses, -, -, -, htx⟩ := h
    refine ⟨htx.trans hu.tx, ?_, ?_⟩
    · rw [← hu.pump, State.pump, hpumps]; rfl
    · rw [← hu.start, State.house, hhouses]; rfl
  stop {u p} hp hu := by
    refine ⟨hu.tx, ?_, hu.start⟩
    have hne : e.pump ≠ p := by
      rintro rfl
      rw [hu.pump, commandedRunning_iff, hv] at hp
      exact RunState.noConfusion hp.1
    rw [pump_stopCore, if_neg hne, hu.pump]

theorem granted_grantCore (s : State) (e : Request) :
    Granted s.field.tx e ((grantCore e s).pump e.pump) (grantCore e s) :=
  ⟨rfl, rfl, by rw [house_grantCore, if_pos rfl]⟩

theorem granted_grant {k : Ctx} (hk : k.Holds (Granted s.field.tx e ((grantCore e s).pump e.pump))) :
    Granted s.field.tx e ((grantCore e s).pump e.pump) (grant k e s) :=
  stopKept_grant (stopKept_granted (by rw [pump_grantCore, if_pos rfl])) hk e (granted_grantCore s e)

/-- A grant marks its house, and what follows in the grant adds marks alone (R127). -/
theorem mem_marks_grant (e : Request) (s : State) : e.house ∈ (grant .live e s).marks := by
  have hall (u : State) : Confined (fun _ => True) (fun _ => True) u :=
    ⟨fun _ _ _ _ => trivial, fun _ _ => trivial, fun _ _ => ⟨trivial, trivial⟩, fun _ _ h => absurd trivial h⟩
  have hderived (u : State) := carries_derive (k := .live) u carries_live false e.house (hall u)
  have hmarked (u : State) : e.house ∈ (mark e.house u).marks :=
    List.mem_append_right _ (List.mem_singleton_self _)
  unfold grant
  exact (hderived _).marks e.house (hmarked _)

theorem consider_winner {k : Ctx} (he : s.winner = some e) (hrun : s.engine = .run)
    (hreached : s.reached s.arbiter.lastGrantMark s.site.grantGap = true) : consider k s = grant k e s := by
  unfold consider
  rw [if_pos (Bool.and_eq_true_iff.mpr ⟨decide_eq_true hrun, hreached⟩), he]

theorem consider_none {k : Ctx} (he : s.winner = none) : consider k s = s := by
  unfold consider
  rw [he]
  exact ite_self s

/-- Settles O55: the grant is recorded once and stands through what it hands on, since shedding stops other pumps and the
grant gap admits no second grant. -/
theorem grantGapExpiry : Obligations.GrantGapExpiry := by
  intro s due
  have hdue : s.gapDue = true ↔ due := gapDue_iff
  refine ⟨fun hidle => ?_, fun e hd hrun he => ?_⟩
  · refine congrArg Host.Outcome.next ?_
    unfold whenDue
    split
    · next hd =>
      rcases hidle with hnot | hstopped | hnone
      · exact absurd (hdue.mp hd) hnot
      · exact consider_of_not_run hstopped _
      · exact consider_none hnone
    · rfl
  · obtain ⟨hreached, hgap⟩ := hd
    have hexec : exec .grantGapExpiry s = .next (grant .live e s) := by
      refine congrArg Host.Outcome.next ?_
      rw [whenDue, if_pos (hdue.mpr ⟨hreached, hgap⟩)]
      exact consider_winner he hrun (reached_iff.mpr hreached.ge)
    have hrecorded := recorded_grant (e := e) hgap
    have hquiet := granted_grant (e := e) (s := s) holds_quiet
    rw [pump_grantCore, if_pos rfl] at hquiet
    refine ⟨⟨grant .live e s, hexec, hrecorded.mark, hrecorded.last, hrecorded.requests,
      apartOrders_grant s keeps_live e, mem_marks_grant e s, fun hbusy => ?_⟩, ?_⟩
    · have hlive := granted_grant (e := e) (holds_live_busy fun t ht => by rwa [ht.tx])
      rw [pump_grantCore, if_pos rfl] at hlive
      rw [hlive.pump]
      exact ⟨rfl, rfl, rfl, rfl, rfl, rfl, hlive.start, hlive.tx⟩
    · rw [hquiet.pump]
      exact ⟨rfl, rfl, rfl, hquiet.start⟩

end

end Sys2Proof.Machine

/-! ## What an evaluation judges and sets before step 6 (R80-R89) -/

namespace Sys2Proof.Machine

section

variable {s t : State} {h : HouseId}

/-! ### A house record in its state -/

theorem modHouse_of_fixed {f : House → House} (hf : f (s.house h) = s.house h) : modHouse h f s = s := by
  have hset : s.houses.set h (s.house h) = s.houses := by simp [State.house, Vector.get_eq_getElem]
  rw [modHouse, hf, hset]

/-- Updates of a house that give the same record at the record it holds. -/
theorem modHouse_congr {f g : House → House} (hf : f (s.house h) = g (s.house h)) : modHouse h f s = modHouse h g s := by
  rw [modHouse, modHouse, hf]

theorem modHouse_apartAlarms (f : House → House) (ht : t.apartAlarms = s.apartAlarms) :
    (modHouse h f t).apartAlarms = (modHouse h f s).apartAlarms := by
  have hkey (u : State) : (modHouse h f u).apartAlarms
      = { u.apartAlarms with houses := u.apartAlarms.houses.set h (f (u.apartAlarms.house h)) } := rfl
  rw [hkey, hkey, ht]

theorem deliveryUsable_iff : s.deliveryUsable h = true
    ↔ (s.res (s.houseE h).delivery).source = .live ∨ (s.res (s.houseE h).delivery).source = .estimated := usable_iff

/-! ### The protections (R81-R83) -/

theorem dryNext_iff {latch : Bool} {level : Nat} {e : ResEntry} : dryNext latch level e = true
    ↔ if latch = true then level < e.dryCut + e.dryHyst else level ≤ e.dryCut := by
  cases latch <;> simp [dryNext]

theorem judgeSuction_none (hr : (s.houseE h).suction = none) : judgeSuction h s = s := by
  rw [judgeSuction, hr]

theorem judgeSuction_unknown {r : ResId} (hr : (s.houseE h).suction = some r) (hu : (s.res r).source.usable = false) :
    judgeSuction h s = s := by
  simp only [judgeSuction, hr, hu, Bool.false_eq_true, if_false]

/-- The dry latch on a usable suction level, with its alarm at a change (R81). -/
theorem judgeSuction_known {r : ResId} (hr : (s.houseE h).suction = some r) (hu : (s.res r).source.usable = true) :
    let was := (s.house h).dryLatch
    let now := dryNext was (s.res r).level (s.resE r)
    let t := modHouse h (fun x => { x with dryLatch := now }) s
    judgeSuction h s = if !was && now then raise .dryRunTrip h.val (some (s.res r).level) .none t
      else if was && !now then clear .dryRunTrip h.val t else t := by
  simp only [judgeSuction, hr, hu, if_true]

/-- The dry latch as an evaluation judges it (R81). -/
def State.dryJudged (s : State) (h : HouseId) : Bool :=
  match (s.houseE h).suction with
  | none => (s.house h).dryLatch
  | some r =>
    if (s.res r).source.usable then dryNext (s.house h).dryLatch (s.res r).level (s.resE r) else (s.house h).dryLatch

theorem judgeSuction_apart :
    (judgeSuction h s).apartAlarms = (modHouse h (fun x => { x with dryLatch := s.dryJudged h }) s).apartAlarms := by
  have hkept (hjudged : s.dryJudged h = (s.house h).dryLatch) :
      s.apartAlarms = (modHouse h (fun x => { x with dryLatch := s.dryJudged h }) s).apartAlarms := by
    rw [modHouse_of_fixed (by rw [hjudged])]
  cases hr : (s.houseE h).suction with
  | none =>
    rw [judgeSuction_none hr]
    exact hkept (by rw [State.dryJudged, hr])
  | some r =>
    cases hu : (s.res r).source.usable with
    | false =>
      rw [judgeSuction_unknown hr hu]
      exact hkept (by simp only [State.dryJudged, hr, hu, Bool.false_eq_true, if_false])
    | true =>
      have hjudged : s.dryJudged h = dryNext (s.house h).dryLatch (s.res r).level (s.resE r) := by
        simp only [State.dryJudged, hr, hu, if_true]
      rw [judgeSuction_known hr hu, hjudged]
      split
      · exact apartAlarms_raise ..
      · split
        · exact apartAlarms_clear ..
        · rfl

theorem judgeOverflow_apart :
    (judgeOverflow h s).apartAlarms = (modHouse h (fun x => { x with overflow := s.overflows h }) s).apartAlarms := by
  unfold judgeOverflow
  dsimp only
  split
  · exact apartAlarms_raise ..
  · split
    · exact apartAlarms_clear ..
    · rfl

/-- The first protection that holds for a dry latch and an overflow condition (R83). -/
def State.protectionFor (s : State) (h : HouseId) (dry overflow : Bool) : Protection :=
  match (s.houseE h).suction with
  | none => if overflow then .overflow else .none
  | some r =>
    if !(s.res r).source.usable then .suctionLost else if dry then .dryTrip else if overflow then .overflow else .none

/-- The record of a house after steps 1 and 2 of an evaluation (R80). -/
def State.judged (s : State) (h : HouseId) : House :=
  { s.house h with
    commanded := s.commandedCount h
    usable := s.usableCount h
    dryLatch := s.dryJudged h
    overflow := s.overflows h
    protection := s.protectionFor h (s.dryJudged h) (s.overflows h) }

/-- Steps 1 and 2 of an evaluation move the house's record and the alarms alone (R80). -/
theorem judge_apart : (judge h s).apartAlarms = (modHouse h (fun _ => s.judged h) s).apartAlarms := by
  have hsuction : (judgeSuction h (countPumps h s)).apartAlarms = (modHouse h (fun x => { x with
      commanded := s.commandedCount h, usable := s.usableCount h, dryLatch := s.dryJudged h }) s).apartAlarms := by
    have hjudged : (countPumps h s).dryJudged h = s.dryJudged h := by
      simp only [State.dryJudged, countPumps, house_modHouse_same]
      rfl
    rw [judgeSuction_apart, hjudged, countPumps, modHouse_modHouse]
  have hres := res_of_apartAlarms hsuction
  have htables := tables_of_apartAlarms hsuction
  have hoverflow : (judgeOverflow h (judgeSuction h (countPumps h s))).apartAlarms = (modHouse h (fun x => { x with
      commanded := s.commandedCount h, usable := s.usableCount h, dryLatch := s.dryJudged h
      overflow := s.overflows h }) s).apartAlarms := by
    have hjudged : (judgeSuction h (countPumps h s)).overflows h = s.overflows h := by
      unfold State.overflows State.deliveryUsable State.deliveryLevel
      rw [houseE_eq_of_tables htables, resE_eq_of_tables htables, hres]
      rfl
    rw [judgeOverflow_apart, hjudged, modHouse_apartAlarms _ hsuction, modHouse_modHouse]
  have hprotection : (judgeOverflow h (judgeSuction h (countPumps h s))).protectionOf h
      = s.protectionFor h (s.dryJudged h) (s.overflows h) := by
    have hhouse := house_of_apartAlarms hoverflow h
    rw [house_modHouse_same] at hhouse
    unfold State.protectionOf State.protectionFor
    dsimp only
    rw [hhouse, houseE_eq_of_tables (tables_of_apartAlarms hoverflow)]
    have hres' := res_of_apartAlarms hoverflow
    simp only [hres']
    rfl
  unfold judge judgeProtection
  dsimp only
  rw [hprotection, modHouse_apartAlarms _ hoverflow, modHouse_modHouse]
  rfl

theorem house_judge : (judge h s).house h = s.judged h :=
  (house_of_apartAlarms judge_apart h).trans (house_modHouse_same s h _)

/-! ### The fallback phase (R85, R86) -/

/-- The phase that a house enters with the loss of its level, and its mark. -/
def State.fallbackEntered (s : State) (h : HouseId) : Phase × Option Second :=
  if 1 ≤ (s.planE h).fallbackOn then (.on, some s.now) else (.off, none)

/-- The fallback phase with its mark as an evaluation leaves it without a usable level (R85, R86; log 21). -/
def State.fallbackPhase (s : State) (h : HouseId) : Phase × Option Second :=
  match (s.house h).phase, (s.house h).phaseMark with
  | .on, some m =>
    if (s.now - m).toNat < (s.planE h).fallbackOn then (.on, some m)
    else if 1 ≤ (s.planE h).fallbackOff then (.off, some s.now) else s.fallbackEntered h
  | .off, some m => if (s.now - m).toNat < (s.planE h).fallbackOff then (.off, some m) else s.fallbackEntered h
  | _, _ => s.fallbackEntered h

/-- From `s` to `t` the house has this phase and mark, and no more than that and new marks of houses have moved. -/
def EntersPhase (h : HouseId) (ph : Phase × Option Second) (s t : State) : Prop :=
  ∃ len ms, t = { inPhase h ph.1 ph.2 len s with marks := ms }

theorem entersPhase_inPhase (ph : Phase) (m : Option Second) (len : Nat) : EntersPhase h (ph, m) s (inPhase h ph m len s) :=
  ⟨len, s.marks, rfl⟩

theorem entersPhase_mark {ph : Phase × Option Second} (ht : EntersPhase h ph s t) : EntersPhase h ph s (mark h t) := by
  obtain ⟨len, ms, rfl⟩ := ht
  exact ⟨len, ms ++ [h], rfl⟩

theorem entersPhase_enterOn : EntersPhase h (s.fallbackEntered h) s (modHouse h (enterOn (s.planE h) s.now) s) := by
  unfold State.fallbackEntered
  by_cases hon : 1 ≤ (s.planE h).fallbackOn
  · have henter : modHouse h (enterOn (s.planE h) s.now) s = inPhase h .on (some s.now) (s.planE h).fallbackOn s :=
      modHouse_congr (if_pos (Nat.lt_of_succ_le hon))
    rw [if_pos hon, henter]
    exact entersPhase_inPhase ..
  · have henter : modHouse h (enterOn (s.planE h) s.now) s = inPhase h .off none 0 s :=
      modHouse_congr (if_neg (mt Nat.succ_le_of_lt hon))
    rw [if_neg hon, henter]
    exact entersPhase_inPhase ..

/-- An OFF phase expires into the phase that a loss of the level enters (R86). -/
theorem expirePhase_off (hphase : (s.house h).phase = .off) :
    expirePhase h s = mark h (modHouse h (enterOn (s.planE h) s.now) s) := by
  have hexpired : phaseExpired (s.planE h) s.now (s.house h) = enterOn (s.planE h) s.now (s.house h) := by
    rw [phaseExpired, hphase]
  rw [expirePhase, modHouse_congr hexpired]

theorem entersPhase_passPhase_off (hphase : (s.house h).phase = .off) :
    EntersPhase h (s.fallbackEntered h) s (passPhase h s) := by
  have hexpire := expirePhase_off hphase
  have hstays : ((expirePhase h s).house h).offAtOnce = false := by
    have hhouse : (expirePhase h s).house h = enterOn (s.planE h) s.now (s.house h) := by
      rw [hexpire]
      exact house_modHouse_same ..
    rw [hhouse, enterOn, House.offAtOnce]
    split
    · rfl
    · rfl
  unfold passPhase
  dsimp only
  rw [hstays, onlyIf_false, hexpire]
  exact entersPhase_mark entersPhase_enterOn

theorem entersPhase_passPhase_on (hphase : (s.house h).phase = .on) :
    EntersPhase h (if 1 ≤ (s.planE h).fallbackOff then (.off, some s.now) else s.fallbackEntered h) s
      (passPhase h s) := by
  by_cases hoff : 1 ≤ (s.planE h).fallbackOff
  · rw [if_pos hoff, passPhase_once (expirePhase_on hphase) (by simp [Nat.one_le_iff_ne_zero.mp hoff])]
    exact entersPhase_mark (entersPhase_inPhase ..)
  · rw [if_neg hoff, passPhase_twice hphase (Nat.lt_one_iff.mp (Nat.not_le.mp hoff)),
      expirePhase_off (by rw [house_inPhase])]
    obtain ⟨len, ms, hon⟩ := entersPhase_enterOn (s := mark h (inPhase h .off (some s.now) 0 s)) (h := h)
    refine entersPhase_mark ⟨len, ms, hon.trans ?_⟩
    have hagain := inPhase_inPhase (h := h) (s := s) .off (s.fallbackEntered h).1 (some s.now)
      (s.fallbackEntered h).2 0 len
    exact congrArg (fun u : State => { u with marks := ms }) hagain

/-- A timed phase stands until the length in force has elapsed, and then expires (R86; log 21). -/
theorem entersPhase_timed {ph : Phase} {m : Second} {next : Phase × Option Second} (len : Nat)
    (hphase : (s.house h).phase = ph) (hmark : (s.house h).phaseMark = some m)
    (hnext : EntersPhase h next s (passPhase h s)) :
    EntersPhase h (if (s.now - m).toNat < len then (ph, some m) else next) s
      (if s.reached m len then passPhase h s else modHouse h (fun y => { y with phaseLen := len }) s) := by
  by_cases hover : s.reached m len = true
  · rw [if_pos hover, if_neg (Nat.not_lt.mpr (reached_iff.mp hover))]
    exact hnext
  · have hstays : modHouse h (fun y => { y with phaseLen := len }) s = inPhase h ph (some m) len s :=
      modHouse_congr (by rw [← hphase, ← hmark])
    rw [if_neg hover, if_pos (Nat.not_le.mp (mt reached_iff.mpr hover)), hstays]
    exact entersPhase_inPhase ..

/-- The fallback phase judged while the delivery level is not usable (R85, R86). -/
theorem entersPhase_judgeFallback : EntersPhase h (s.fallbackPhase h) s (judgeFallback h s) := by
  unfold judgeFallback State.fallbackPhase
  dsimp only
  cases hphase : (s.house h).phase with
  | none => exact entersPhase_enterOn
  | on =>
    cases hmark : (s.house h).phaseMark with
    | none => exact entersPhase_enterOn
    | some m => exact entersPhase_timed _ hphase hmark (entersPhase_passPhase_on hphase)
  | off =>
    cases hmark : (s.house h).phaseMark with
    | none => exact entersPhase_enterOn
    | some m => exact entersPhase_timed _ hphase hmark (entersPhase_passPhase_off hphase)

theorem entersPhase_judgePhase :
    EntersPhase h (if s.deliveryUsable h then (.none, none) else s.fallbackPhase h) s (judgePhase h s) := by
  unfold judgePhase
  split
  · exact entersPhase_inPhase .none none 0
  · exact entersPhase_judgeFallback

/-! ### Stages, target and need (R87-R89) -/

/-- D as an evaluation sets it (R85, R87). -/
def State.stagesSet (s : State) (h : HouseId) (x : House) : Nat :=
  if s.deliveryUsable h then stagesFor (s.bandE h s.period.cls) (s.deliveryLevel h) x.stages else 0

/-- T as an evaluation sets it (R85, R88). -/
def State.targetSet (s : State) (h : HouseId) (x : House) : Nat :=
  if x.protection ≠ .none then 0
  else if !s.deliveryUsable h then (if x.phase = .on then 1 else 0)
  else min (s.stagesSet h x) (s.houseE h).maxRun

/-- Need as an evaluation sets it for the target of a record (R89). -/
def State.needSet (s : State) (h : HouseId) (x : House) : Need :=
  if x.protection ≠ .none then .none
  else if !s.deliveryUsable h then (if x.commanded < x.target then .demand else .none)
  else if s.deliveryLevel h ≤ (s.resE (s.houseE h).delivery).emerg ∧ 1 ≤ x.target then .emergency
  else if x.target ≤ x.commanded then .none
  else if s.period.cls ≠ .cheap then .demand
  else if (s.bandE h .standard).inUse (x.commanded + 1) = true
      ∧ s.deliveryLevel h ≤ (s.bandE h .standard).stage (x.commanded + 1) then .demand
  else .fill

/-- A record with D and T set. -/
def State.targeted (s : State) (h : HouseId) (x : House) : House :=
  { x with stages := s.stagesSet h x, target := s.targetSet h x }

/-- A record with D, T and need set. -/
def State.demanded (s : State) (h : HouseId) (x : House) : House :=
  { s.targeted h x with need := s.needSet h (s.targeted h x) }

theorem setTarget_eq (s : State) : setTarget h s = modHouse h (s.targeted h) s := rfl

theorem setNeed_eq (s : State) : setNeed h s = modHouse h (fun x => { x with need := s.needSet h x }) s := rfl

/-- D, T and need are read from the tables, the reservoirs and the period record (R80). -/
theorem setNeed_setTarget (s : State) : setNeed h (setTarget h s) = modHouse h (s.demanded h) s := by
  rw [setTarget_eq, setNeed_eq, modHouse_modHouse]
  rfl

theorem demanded_of_same (htables : t.tables = s.tables) (hres : t.reservoirs = s.reservoirs)
    (hperiod : t.period = s.period) : t.demanded h = s.demanded h := by
  cases s
  cases t
  cases htables
  cases hres
  cases hperiod
  rfl

/-- Steps 4 and 5 of an evaluation set the phase, D, T and need of the house's record, and may mark it (R80). -/
theorem setDemand_sets {ph : Phase × Option Second} (hph : EntersPhase h ph s (judgePhase h s)) : ∃ len ms,
    setDemand h s = { modHouse h (fun x =>
      s.demanded h { x with phase := ph.1, phaseMark := ph.2, phaseLen := len }) s with marks := ms } := by
  obtain ⟨len, ms, hjudged⟩ := hph
  have hdemanded : (judgePhase h s).demanded h = s.demanded h := by
    rw [hjudged]
    exact demanded_of_same rfl rfl rfl
  refine ⟨len, ms, ?_⟩
  rw [setDemand, setNeed_setTarget, hdemanded, hjudged]
  exact congrArg (fun u : State => { u with marks := ms }) (modHouse_modHouse ..)

end

end Sys2Proof.Machine

/-! ## Step 6 and what follows it keep the demand of the house (R90-R113) -/

namespace Sys2Proof.Machine

/-- What steps 2 to 5 of an evaluation set and no later step moves (R80). -/
structure Demand where
  stages : Nat
  target : Nat
  need : Need
  protection : Protection
  phase : Phase
  phaseMark : Option Second

/-- The demand that a house's record holds. -/
def House.demand (x : House) : Demand := ⟨x.stages, x.target, x.need, x.protection, x.phase, x.phaseMark⟩

/-- The house's record holds this demand. -/
def HasDemand (h : HouseId) (d : Demand) (s : State) : Prop := (s.house h).demand = d

section

variable {s t : State} {h : HouseId} {d : Demand} {k : Ctx}

theorem House.demand_apartStart (x : House) : x.apartStart.demand = x.demand := rfl

theorem hasDemand_of_apartOrders (ht : t.apartOrders = s.apartOrders) (hs : HasDemand h d s) : HasDemand h d t := by
  have hstart := congrArg House.demand (house_of_apartOrders ht h)
  rw [House.demand_apartStart, House.demand_apartStart] at hstart
  exact hstart.trans hs

theorem hasDemand_modHouse {f : House → House} (hf : ∀ x, (f x).demand = x.demand) (hs : HasDemand h d s) :
    HasDemand h d (modHouse h f s) := by
  unfold HasDemand
  rw [house_modHouse_same, hf]
  exact hs

theorem hasDemand_setWait (w : WaitKind) (m : Option Second) (hs : HasDemand h d s) : HasDemand h d (setWait h w m s) :=
  hasDemand_modHouse (fun _ => rfl) hs

theorem hasDemand_endChange (m : Option Second) (hs : HasDemand h d s) : HasDemand h d (endChange h m s) :=
  hasDemand_modHouse (fun _ => rfl) hs

theorem hasDemand_accrueAll (ps : List PumpId) (hs : HasDemand h d s) : HasDemand h d (accrueAll ps s) :=
  hasDemand_of_apartOrders (apartOrders_accrueAll s ps) hs

theorem hasDemand_dropStart (hs : HasDemand h d s) : HasDemand h d (dropStart h s) :=
  hasDemand_modHouse (fun _ => rfl) (hasDemand_of_apartOrders (apartOrders_dropRequest s h) hs)

theorem hasDemand_readChoice (old : PumpId) (hs : HasDemand h d s) : HasDemand h d (readChoice h old s) :=
  hasDemand_of_apartOrders (apartOrders_accrue _ old) (hasDemand_accrueAll _ hs)

theorem hasDemand_setShort (b : Bool) (hs : HasDemand h d s) : HasDemand h d (setShort h b s) := by
  have ht : HasDemand h d (modHouse h (fun x => { x with short := b }) s) := hasDemand_modHouse (fun _ => rfl) hs
  unfold setShort
  dsimp only
  split
  · exact hasDemand_of_apartOrders (apartOrders_raise ..) ht
  · split
    · exact hasDemand_of_apartOrders (apartOrders_clear ..) ht
    · exact ht

theorem hasDemand_timeRotation (hs : HasDemand h d s) : HasDemand h d (timeRotation h s) :=
  hasDemand_modHouse (fun _ => rfl) hs

theorem hasDemand_timeStagger (hs : HasDemand h d s) : HasDemand h d (timeStagger h s) :=
  hasDemand_modHouse (fun _ => rfl) hs

section

variable (hk : k.Keeps)

include hk

theorem hasDemand_stopRequest (p : PumpId) (hs : HasDemand h d s) : HasDemand h d (stopRequest k p s) :=
  hasDemand_of_apartOrders (apartOrders_stopRequest s hk p) hs

theorem hasDemand_undoStart (p : PumpId) (hs : HasDemand h d s) : HasDemand h d (undoStart k p s) :=
  hasDemand_of_apartOrders (apartOrders_undoStart s hk p) hs

theorem hasDemand_requestStart (p : PumpId) (u : Urgency) (hs : HasDemand h d s) :
    HasDemand h d (requestStart k h p u s) :=
  hasDemand_of_apartOrders (apartOrders_placeRequest _ hk h p u) (hasDemand_modHouse (fun _ => rfl) hs)

theorem hasDemand_requestBest (hs : HasDemand h d s) : HasDemand h d (requestBest k h s) := by
  have hread : HasDemand h d (readEligible h s) := hasDemand_accrueAll _ hs
  unfold requestBest
  dsimp only
  split
  · exact hasDemand_requestStart hk _ _ hread
  · exact hasDemand_modHouse (fun _ => rfl)
      (hasDemand_of_apartOrders (apartOrders_onlyIf _ _ _ fun t => apartOrders_dropRequest t h) hread)

theorem hasDemand_decideStart (hs : HasDemand h d s) : HasDemand h d (decideStart k h s) := by
  unfold decideStart
  dsimp only
  split
  · exact hs
  · split
    · split
      · exact hasDemand_requestBest hk hs
      · exact hasDemand_setWait _ _ hs
    · exact hasDemand_requestBest hk (hasDemand_modHouse (fun _ => rfl) hs)
    · exact hs
    · exact hs

theorem hasDemand_decideStop (count : Nat) (out : List PumpId) (hs : HasDemand h d s) :
    HasDemand h d (decideStop k h count out s).1 := by
  have hwait (due : Bool) (ps : List PumpId) :
      HasDemand h d (if due then (setWait h .minRun (s.minRunEnd ps) s, Stopped.no) else (s, Stopped.no)).1 := by
    split
    · exact hasDemand_setWait _ _ hs
    · exact hs
  unfold decideStop
  dsimp only
  split
  · exact hasDemand_stopRequest hk _ hs
  · split
    · exact hasDemand_stopRequest hk _ (hasDemand_accrueAll _ hs)
    · exact hwait _ _

theorem hasDemand_decideWithdraw (hs : HasDemand h d s) : HasDemand h d (decideWithdraw k h s).1 := by
  cases hstart : (s.house h).start <;> simp only [decideWithdraw, hstart]
  case none => exact hs
  case transmitted => exact hs
  case requested =>
    split
    · exact hasDemand_dropStart hs
    · exact hs
  case granted p =>
    split
    · dsimp only
      exact hasDemand_undoStart hk p hs
    · exact hs

theorem hasDemand_stepApart (count : Nat) (out : List PumpId) (hs : HasDemand h d s) :
    HasDemand h d (stepApart k h count out s).1 := by
  have hwithdrawn := hasDemand_decideWithdraw hk hs
  unfold stepApart
  split
  · next t _ e => rw [e] at hwithdrawn; exact hwithdrawn
  · next t _ e =>
    rw [e] at hwithdrawn
    have hstopped := hasDemand_decideStop hk count out hwithdrawn
    split
    · next u e' => rw [e'] at hstopped; exact hstopped
    · next u e' => rw [e'] at hstopped; exact hstopped
    · next u e' =>
      rw [e'] at hstopped
      dsimp only
      split
      · exact hstopped
      · exact hasDemand_decideStart hk hstopped

theorem hasDemand_stepOutside (hs : HasDemand h d s) : HasDemand h d (stepOutside k h s).1 :=
  hasDemand_stepApart hk _ _ hs

theorem hasDemand_outsideAfter (m : Option Second) (hs : HasDemand h d s) :
    HasDemand h d (stepOutside k h (endChange h m s)).1 := hasDemand_stepOutside hk (hasDemand_endChange m hs)

theorem hasDemand_stopInChange (old new : PumpId) (hs : HasDemand h d s) :
    HasDemand h d (stopInChange k h old new s).1 := hasDemand_decideStop hk _ _ hs

theorem hasDemand_rechoose (old : PumpId) (hs : HasDemand h d s) : HasDemand h d (rechoose k h old s).1 := by
  have hread := hasDemand_readChoice old hs
  unfold rechoose
  dsimp only
  split
  · exact hasDemand_requestStart hk _ _ (hasDemand_modHouse (fun _ => rfl) hread)
  · exact hasDemand_outsideAfter hk _ (hasDemand_dropStart hread)

theorem hasDemand_changeFalls (old new : PumpId) (hs : HasDemand h d s) :
    HasDemand h d (changeFalls k h old new s).1 := by
  unfold changeFalls
  split
  · exact hasDemand_outsideAfter hk _ (hasDemand_dropStart hs)
  · split
    · dsimp only
      exact hasDemand_undoStart hk _ (hasDemand_endChange _ hs)
    · exact hasDemand_stopInChange hk old new hs
  · exact hasDemand_stopInChange hk old new hs
  · exact hasDemand_stopInChange hk old new hs

theorem hasDemand_changeDemand (old new : PumpId) (hs : HasDemand h d s) :
    HasDemand h d (changeDemand k h old new s).1 := by
  unfold changeDemand
  dsimp only
  split
  · exact hasDemand_outsideAfter hk _ hs
  · split
    · exact hasDemand_changeFalls hk old new hs
    · split
      · exact hasDemand_rechoose hk old hs
      all_goals exact hs

theorem hasDemand_stepStarting (old new : PumpId) (hs : HasDemand h d s) :
    HasDemand h d (stepStarting k h old new s).1 := by
  unfold stepStarting changeFailed changeConfirmed changeWithdrawn
  dsimp only
  split
  · exact hasDemand_outsideAfter hk _ hs
  · split
    · split
      · dsimp only
        exact hasDemand_undoStart hk _ (hasDemand_endChange _ hs)
      · exact hasDemand_changeDemand hk old new hs
    · split
      · split
        · exact hasDemand_stepApart hk _ _ (hasDemand_endChange _ hs)
        · dsimp only
          exact hasDemand_modHouse (fun _ => rfl) (hasDemand_stopRequest hk old hs)
      · exact hasDemand_outsideAfter hk _ hs
    · split
      · exact hasDemand_outsideAfter hk _ hs
      · exact hasDemand_changeDemand hk old new hs
    all_goals exact hasDemand_changeDemand hk old new hs

theorem hasDemand_stepStopping (old new : PumpId) (hs : HasDemand h d s) :
    HasDemand h d (stepStopping k h old new s).1 := by
  unfold stepStopping
  split
  · exact hasDemand_setWait _ _ (hasDemand_stopInChange hk old new hs)
  · exact hasDemand_outsideAfter hk _ hs

theorem hasDemand_stepSix (hs : HasDemand h d s) : HasDemand h d (stepSix k h s).1 := by
  unfold stepSix
  split
  · exact hasDemand_stepOutside hk hs
  · exact hasDemand_stepStarting hk _ _ hs
  · exact hasDemand_stepStopping hk _ _ hs

theorem hasDemand_rotationTest (old : PumpId) (hs : HasDemand h d s) : HasDemand h d (rotationTest k h old s) := by
  have hread := hasDemand_readChoice old hs
  unfold rotationTest
  dsimp only
  split
  · exact hasDemand_modHouse (fun _ => rfl) hread
  · split
    · exact hasDemand_requestStart hk _ _ (hasDemand_modHouse (fun _ => rfl) hread)
    · exact hasDemand_setWait _ _ hread

theorem hasDemand_rotation (hs : HasDemand h d s) : HasDemand h d (rotation k h s) := by
  have hmarked (m : Second) : HasDemand h d (modHouse h (fun x => { x with rotMark := some m }) s) :=
    hasDemand_modHouse (fun _ => rfl) hs
  unfold rotation
  split
  · split
    · exact hs
    · dsimp only
      split
      · exact hasDemand_rotationTest hk _ (hmarked _)
      · exact hmarked _
  · exact hasDemand_modHouse (fun _ => rfl) hs

theorem hasDemand_steps (hs : HasDemand h d s) : HasDemand h d (steps k h s) := by
  have hsix := hasDemand_stepSix hk hs
  unfold steps
  split
  · next t e => rw [e] at hsix; exact hsix
  · next t e => rw [e] at hsix; exact hasDemand_setShort _ hsix
  · next t e => rw [e] at hsix; exact hasDemand_setShort _ (hasDemand_rotation hk hsix)

end

end

end Sys2Proof.Machine

/-! ## The rows of step 6, of the rotation test and of the timers and the shortage test (R95, R101-R115) -/

namespace Sys2Proof.Machine

section

variable {s : State} {h : HouseId} {k : Ctx} {old new : PumpId}

/-! ### The count, the choice and the request of a changeover (R103-R105) -/

theorem changeCount_eq : s.changeCount h old new = (allPumps.filter fun p => (s.pumpE p).house == some h && p != old
    && p != new && ((s.pump p).run == .startOrdered || ((s.pump p).run == .running && (s.pump p).commanded))).length + 1 := by
  rw [State.changeCount, State.pumpsOf, List.countP_filter, List.countP_eq_length_filter]
  refine congrArg (fun f => (allPumps.filter f).length + 1) (funext fun p => ?_)
  have hold : decide (p ≠ old) = (p != old) := decide_not
  have hnew : decide (p ≠ new) = (p != new) := decide_not
  rw [hold, hnew, Bool.and_comm, Bool.and_assoc, Bool.and_assoc, Bool.and_assoc]
  rfl

theorem readChoice_eq (old : PumpId) (s : State) : readChoice h old s
    = accrue old (accrueAll (allPumps.filter fun p => (s.pumpE p).house == some h && s.eligible p) s) := by
  have hlist : (s.pumpsOf h).filter (fun p => s.eligible p)
      = allPumps.filter fun p => (s.pumpE p).house == some h && s.eligible p := by
    rw [State.pumpsOf, List.filter_filter]
    exact congrArg (fun f => allPumps.filter f) (funext fun p => Bool.and_comm _ _)
  rw [readChoice, readEligible, hlist]

theorem house_readChoice (g : HouseId) : (readChoice h old s).house g = s.house g :=
  congrArg (fun v : Vector House 12 => v.get g) (houses_accrueAll _)

theorem lesserCandidate_iff {p : PumpId} : s.lesserCandidate h old = some p
    ↔ s.startCandidate h = some p ∧ s.runSecondsNow p < s.runSecondsNow old := by
  rw [State.lesserCandidate, Option.filter_eq_some_iff, decide_eq_true_iff]

theorem lesserCandidate_none (hnone : ∀ p, ¬(s.startCandidate h = some p ∧ s.runSecondsNow p < s.runSecondsNow old)) :
    s.lesserCandidate h old = none := Option.eq_none_iff_forall_ne_some.mpr fun p => mt lesserCandidate_iff.mp (hnone p)

/-- A changeover to a pump asked for, with the rotation mark given. -/
def askChange (k : Ctx) (h : HouseId) (old p : PumpId) (mark : Option Second) (s : State) : State :=
  placeRequest k h p .rotate (modHouse h (fun x =>
    { x with change := .startingNew old p, start := .requested p, rotMark := mark, wait := ⟨.none, none⟩ }) s)

/-! ### Step 6 in STARTING_NEW (R105-R113) -/

theorem stepSix_apart (hchange : (s.house h).change = .none) : stepSix k h s = stepOutside k h s := by
  rw [stepSix, hchange]

theorem stepSix_starting (hchange : (s.house h).change = .startingNew old new) :
    stepSix k h s = stepStarting k h old new s := by
  rw [stepSix, hchange]

theorem stepSix_stopping (hchange : (s.house h).change = .stoppingOld old new) :
    stepSix k h s = stepStopping k h old new s := by
  rw [stepSix, hchange]

theorem stepStarting_gone (hold : ¬((s.pump old).run = .running ∧ (s.pump old).commanded = true)) :
    stepStarting k h old new s = stepOutside k h (endChange h none s) := by
  have hstops : (s.pump old).commandedRunning = false := Bool.eq_false_iff.mpr (mt commandedRunning_iff.mp hold)
  simp only [stepStarting, hstops, Bool.not_false, if_true]

section

variable (hold : (s.pump old).run = .running ∧ (s.pump old).commanded = true)

include hold

theorem stepStarting_withdrawn (hrun : (s.pump new).run = .startOrdered) (horder : (s.pump new).order = .queued)
    (hservice : (s.pump new).service = .withdrawn) :
    stepStarting k h old new s = (undoStart k new (endChange h (some s.now) s), .nothing) := by
  simp only [stepStarting, commandedRunning_iff.mpr hold, Bool.not_true, Bool.false_eq_true, if_false, hrun, horder,
    hservice, and_self, if_true]

theorem stepStarting_runsWithdrawn (hrun : (s.pump new).run = .running) (hcommanded : (s.pump new).commanded = true)
    (hservice : (s.pump new).service = .withdrawn) :
    stepStarting k h old new s = stepApart k h (s.changeCount h old new) [old] (endChange h none s) := by
  simp only [stepStarting, commandedRunning_iff.mpr hold, Bool.not_true, Bool.false_eq_true, if_false, hrun, hcommanded,
    hservice, if_true, changeWithdrawn]

theorem stepStarting_confirmed (hrun : (s.pump new).run = .running) (hcommanded : (s.pump new).commanded = true)
    (hservice : (s.pump new).service ≠ .withdrawn) : stepStarting k h old new s
      = (modHouse h (fun x => { x with change := .stoppingOld old new }) (stopRequest k old s), .nothing) := by
  simp only [stepStarting, commandedRunning_iff.mpr hold, Bool.not_true, Bool.false_eq_true, if_false, hrun, hcommanded,
    if_neg hservice, if_true, changeConfirmed]

theorem stepStarting_failed (hfailed : ((s.pump new).run = .running ∧ (s.pump new).commanded = false)
    ∨ ((s.pump new).run = .stopped ∧ (s.house h).start = .none)) :
    stepStarting k h old new s = stepOutside k h (endChange h (some s.now) s) := by
  rcases hfailed with ⟨hrun, hcommanded⟩ | ⟨hrun, hstart⟩
  · simp only [stepStarting, commandedRunning_iff.mpr hold, Bool.not_true, Bool.false_eq_true, if_false, hrun,
      hcommanded, changeFailed]
  · simp only [stepStarting, commandedRunning_iff.mpr hold, Bool.not_true, Bool.false_eq_true, if_false, hrun, hstart,
      if_true, changeFailed]

theorem stepStarting_demand (hstands : ((s.pump new).run = .startOrdered
      ∧ ¬((s.pump new).order = .queued ∧ (s.pump new).service = .withdrawn))
    ∨ ((s.pump new).run = .stopped ∧ (s.house h).start ≠ .none) ∨ (s.pump new).run = .unused
    ∨ (s.pump new).run = .unknown ∨ (s.pump new).run = .stopOrdered) :
    stepStarting k h old new s = changeDemand k h old new s := by
  unfold stepStarting
  rw [commandedRunning_iff.mpr hold]
  dsimp only
  rw [if_neg (by decide)]
  rcases hstands with ⟨hrun, hkept⟩ | ⟨hrun, hstart⟩ | hrun | hrun | hrun
  · rw [hrun]
    exact if_neg hkept
  · rw [hrun]
    exact if_neg hstart
  all_goals rw [hrun]

end

theorem changeDemand_above (hcount : s.changeCount h old new < (s.house h).target) :
    changeDemand k h old new s = stepOutside k h (endChange h none s) := if_pos hcount

theorem changeDemand_below (hcount : (s.house h).target < s.changeCount h old new) :
    changeDemand k h old new s = changeFalls k h old new s := by
  unfold changeDemand
  dsimp only
  rw [if_neg (Nat.lt_asymm hcount), if_pos hcount]

theorem changeDemand_rechooses {p : PumpId} (hcount : (s.house h).target = s.changeCount h old new)
    (hstart : (s.house h).start = .requested p) : changeDemand k h old new s = rechoose k h old s := by
  unfold changeDemand
  dsimp only
  rw [hcount, if_neg (Nat.lt_irrefl _), if_neg (Nat.lt_irrefl _), hstart]

theorem changeDemand_waits (hcount : (s.house h).target = s.changeCount h old new)
    (hstart : ∀ p, (s.house h).start ≠ .requested p) : changeDemand k h old new s = (s, .rotation) := by
  unfold changeDemand
  dsimp only
  rw [hcount, if_neg (Nat.lt_irrefl _), if_neg (Nat.lt_irrefl _)]
  cases hflight : (s.house h).start with
  | requested p => exact absurd hflight (hstart p)
  | none | granted | transmitted => rfl

theorem fallen_eq (a : After) : a.fallen = if a = .nothing then .nothing else .shortage := by cases a <;> rfl

theorem changeFalls_requested {p : PumpId} (hstart : (s.house h).start = .requested p) :
    let d := stepOutside k h (endChange h none (dropStart h s))
    changeFalls k h old new s = (d.1, if d.2 = .nothing then .nothing else .shortage) := by
  intro d
  rw [← fallen_eq, changeFalls, hstart]

theorem changeFalls_granted {p : PumpId} (hstart : (s.house h).start = .granted p)
    (hqueued : (s.pump p).run = .startOrdered ∧ (s.pump p).order = .queued) :
    changeFalls k h old new s = (undoStart k p (endChange h none s), .nothing) := by
  rw [changeFalls, hstart]
  exact if_pos hqueued

theorem changeFalls_stops (hrequested : ∀ p, (s.house h).start ≠ .requested p)
    (hgranted : ∀ p, (s.house h).start = .granted p → ¬((s.pump p).run = .startOrdered ∧ (s.pump p).order = .queued)) :
    changeFalls k h old new s = stopInChange k h old new s := by
  unfold changeFalls
  cases hstart : (s.house h).start with
  | requested p => exact absurd hstart (hrequested p)
  | granted p => exact if_neg (hgranted p hstart)
  | none | transmitted => rfl

theorem rechoose_lesser {p : PumpId} (hlesser : s.lesserCandidate h old = some p) :
    rechoose k h old s = (askChange k h old p (s.house h).rotMark (readChoice h old s), .rotation) := by
  unfold rechoose
  dsimp only
  rw [hlesser]
  dsimp only
  rw [requestStart, modHouse_modHouse, askChange]
  refine congrArg (fun u => (placeRequest k h p .rotate u, After.rotation)) (modHouse_congr ?_)
  rw [house_readChoice]

theorem rechoose_none (hnone : s.lesserCandidate h old = none) :
    rechoose k h old s = stepOutside k h (endChange h (some s.now) (dropStart h (readChoice h old s))) := by
  unfold rechoose
  dsimp only
  rw [hnone]

/-! ### Step 6 in STOPPING_OLD (R109, R112) -/

theorem stepStopping_waits (hrun : (s.pump old).run = .stopOrdered) (hexpired : (s.pump old).stopExpired = false) :
    stepStopping k h old new s
      = (setWait h .none none (stopInChange k h old new s).1, (stopInChange k h old new s).2) := if_pos ⟨hrun, hexpired⟩

theorem stepStopping_ends (hover : (s.pump old).run ≠ .stopOrdered ∨ (s.pump old).stopExpired = true) :
    stepStopping k h old new s = stepOutside k h (endChange h none s) := by
  refine if_neg fun ⟨hrun, hexpired⟩ => ?_
  rcases hover with hover | hover
  · exact hover hrun
  · rw [hexpired] at hover
    exact Bool.noConfusion hover

/-! ### The rotation test (R101, R103) -/

theorem steady_iff : s.steady h = true ↔ 1 ≤ (s.planE h).rotate ∧ (s.house h).protection = .none
    ∧ (s.house h).change = .none ∧ (s.house h).start = .none ∧ (s.house h).target = s.commandedCount h
    ∧ 1 ≤ s.commandedCount h := by
  simp only [State.steady, Bool.and_eq_true, beq_iff_eq, decide_eq_true_iff, and_assoc, Nat.succ_le_iff]

theorem rotation_unsteady (hsteady : ¬s.steady h = true) :
    rotation k h s = modHouse h (fun x => { x with rotMark := none }) s := if_neg hsteady

section

variable (hsteady : s.steady h = true)

include hsteady

theorem rotation_runless (holdest : s.oldest h = none) : rotation k h s = s := by
  rw [rotation, if_pos hsteady, holdest]

variable (holdest : s.oldest h = some old)

include holdest

theorem rotation_early (hearly : (s.now - (s.house h).rotMark.getD (s.pump old).runStart).toNat < (s.planE h).rotate) :
    rotation k h s
      = modHouse h (fun x => { x with rotMark := some ((s.house h).rotMark.getD (s.pump old).runStart) }) s := by
  rw [rotation, if_pos hsteady, holdest]
  exact if_neg (mt reached_iff.mp (Nat.not_le.mpr hearly))

theorem rotation_due (hdue : (s.planE h).rotate ≤ (s.now - (s.house h).rotMark.getD (s.pump old).runStart).toNat) :
    rotation k h s = rotationTest k h old
      (modHouse h (fun x => { x with rotMark := some ((s.house h).rotMark.getD (s.pump old).runStart) }) s) := by
  rw [rotation, if_pos hsteady, holdest]
  exact if_pos (reached_iff.mpr hdue)

end

theorem rotationTest_kept (hnone : s.lesserCandidate h old = none) :
    rotationTest k h old s = modHouse h (fun x => { x with rotMark := some s.now }) (readChoice h old s) := by
  unfold rotationTest
  dsimp only
  rw [hnone]

section

variable {p : PumpId} (hlesser : s.lesserCandidate h old = some p)

include hlesser

theorem rotationTest_asks (hstagger : (s.houseE h).stagger ≤ (s.now - (s.house h).lastStartTx).toNat) :
    rotationTest k h old s = askChange k h old p none (readChoice h old s) := by
  have hdone : s.staggerDone h = true := reached_iff.mpr hstagger
  unfold rotationTest
  dsimp only
  rw [hlesser]
  dsimp only
  rw [if_pos hdone, requestStart, modHouse_modHouse, askChange]

theorem rotationTest_staggers (hstagger : (s.now - (s.house h).lastStartTx).toNat < (s.houseE h).stagger) :
    rotationTest k h old s = modHouse h (fun x => { x with
      wait := ⟨.stagger, some ((s.house h).lastStartTx + BitVec.ofNat 32 (s.houseE h).stagger)⟩ }) (readChoice h old s) := by
  have hdone : ¬s.staggerDone h = true := mt reached_iff.mp (Nat.not_le.mpr hstagger)
  have htables : (readChoice h old s).houseE h = s.houseE h := by
    rw [readChoice, readEligible]
    exact houseE_eq_of_tables (tables_of_apartOrders ((apartOrders_accrue _ old).trans (apartOrders_accrueAll _ _))) h
  unfold rotationTest
  dsimp only
  rw [hlesser]
  dsimp only
  rw [if_neg hdone, waitStagger, setWait, house_readChoice, htables]
  rfl

end

/-! ### The timers and the shortage test (R91, R95, R102) -/

theorem timeRotation_stands (hnow : (s.house h).rotAt = some s.now) : timeRotation h s = s := by
  unfold timeRotation
  refine modHouse_of_fixed ?_
  rw [if_pos hnow]

theorem timeRotation_runs {m : Second} (hnow : (s.house h).rotAt ≠ some s.now) (hmark : (s.house h).rotMark = some m)
    (hearly : (s.now - m).toNat < (s.planE h).rotate) : timeRotation h s
      = modHouse h (fun x => { x with rotAt := some (m + BitVec.ofNat 32 (s.planE h).rotate) }) s := by
  have hnot : ¬s.reached m (s.planE h).rotate = true := mt reached_iff.mp (Nat.not_le.mpr hearly)
  unfold timeRotation
  refine modHouse_congr ?_
  rw [if_neg hnow, hmark, Option.bind_some, if_neg hnot]
  rfl

theorem timeRotation_idle (hnow : (s.house h).rotAt ≠ some s.now)
    (hover : ∀ m, (s.house h).rotMark = some m → (s.planE h).rotate ≤ (s.now - m).toNat) :
    timeRotation h s = modHouse h (fun x => { x with rotAt := none }) s := by
  unfold timeRotation
  refine modHouse_congr ?_
  rw [if_neg hnow]
  cases hmark : (s.house h).rotMark with
  | none => rfl
  | some m =>
    rw [Option.bind_some, if_pos (reached_iff.mpr (hover m hmark))]

theorem timeStagger_stands (hnow : (s.house h).staggerAt = some s.now) : timeStagger h s = s := by
  unfold timeStagger
  refine modHouse_of_fixed ?_
  rw [if_pos hnow]

theorem timeStagger_sets (hnow : (s.house h).staggerAt ≠ some s.now) : timeStagger h s
    = modHouse h (fun x => { x with
        staggerAt := if (s.house h).wait.kind = .stagger then (s.house h).wait.ends else none }) s := by
  unfold timeStagger
  refine modHouse_congr ?_
  rw [if_neg hnow]

theorem shortCount_eq : s.shortCount h = (allPumps.filter fun p => (s.pumpE p).house == some h
    && (((s.pump p).service == .inService && (s.pump p).panel == some .remote && (s.pump p).fault == some 0)
      || (s.pump p).run == .unknown)).length := by
  rw [State.shortCount, State.pumpsOf, List.countP_filter, List.countP_eq_length_filter]
  exact congrArg (fun f => (allPumps.filter f).length) (funext fun p => Bool.and_comm _ _)

theorem setShort_rises {b : Bool} (hwas : (s.house h).short = false) (hnow : b = true) : setShort h b s
    = raise .houseShort h.val (some (s.shortValue h)) .none (modHouse h (fun x => { x with short := b }) s) := by
  simp only [setShort, hwas, hnow, Bool.not_false, Bool.and_self, if_true]

theorem setShort_falls {b : Bool} (hwas : (s.house h).short = true) (hnow : b = false) : setShort h b s
    = clear .houseShort h.val (modHouse h (fun x => { x with short := b }) s) := by
  simp [setShort, hwas, hnow]

theorem setShort_stands {b : Bool} (hsame : (s.house h).short = b) : setShort h b s = s := by
  have hfixed : modHouse h (fun x => { x with short := b }) s = s := modHouse_of_fixed (by rw [← hsame])
  cases b <;> simp [setShort, hsame, hfixed]

end

end Sys2Proof.Machine

/-! ## The demand that an evaluation leaves without a protection (R79-R89) -/

namespace Sys2Proof.Machine

section

variable {s : State} {h : HouseId} {k : Ctx}

/-! ### The protection that holds (R81-R83) -/

theorem dryJudged_known {r : ResId} (hr : (s.houseE h).suction = some r) (hu : (s.res r).source.usable = true) :
    s.dryJudged h = dryNext (s.house h).dryLatch (s.res r).level (s.resE r) := by
  simp only [State.dryJudged, hr, hu, if_true]

theorem overflows_iff : s.overflows h = true
    ↔ ((s.res (s.houseE h).delivery).source = .live ∨ (s.res (s.houseE h).delivery).source = .estimated)
      ∧ (s.resE (s.houseE h).delivery).overflow ≤ (s.res (s.houseE h).delivery).level := by
  rw [State.overflows, Bool.and_eq_true, deliveryUsable_iff, decide_eq_true_iff]
  rfl

/-- With a usable suction level above the latch, where there is a suction reservoir, and no overflow, none holds. -/
theorem protection_judged_none
    (hdry : ∀ r, (s.houseE h).suction = some r → (s.res r).source.usable = true
      ∧ dryNext (s.house h).dryLatch (s.res r).level (s.resE r) = false)
    (hspill : s.overflows h = false) : (s.judged h).protection = .none := by
  change s.protectionFor h (s.dryJudged h) (s.overflows h) = .none
  rw [hspill, State.protectionFor]
  cases hr : (s.houseE h).suction with
  | none => rfl
  | some r =>
    obtain ⟨hu, hclear⟩ := hdry r hr
    simp only [dryJudged_known hr hu, hu, hclear, Bool.not_true, Bool.false_eq_true, if_false]

/-! ### The demand that steps 4 and 5 set (R85-R89) -/

/-- The fallback phase and its mark as an evaluation sets them (R85). -/
def State.phaseSet (s : State) (h : HouseId) : Phase × Option Second :=
  if s.deliveryUsable h then (.none, none) else s.fallbackPhase h

theorem entersPhase_judge : EntersPhase h (s.phaseSet h) (judge h s) (judgePhase h (judge h s)) := by
  have htables := tables_of_apartAlarms (judge_apart (s := s) (h := h))
  have hres := res_of_apartAlarms (judge_apart (s := s) (h := h))
  have hnow := now_of_apartAlarms (judge_apart (s := s) (h := h))
  have husable : (judge h s).deliveryUsable h = s.deliveryUsable h := by
    rw [State.deliveryUsable, houseE_eq_of_tables htables, hres]
    rfl
  have hplan : (judge h s).planE h = s.planE h := congrArg (fun v : Tables => v.plan.get h) htables
  have hfallback : (judge h s).fallbackPhase h = s.fallbackPhase h := by
    unfold State.fallbackPhase State.fallbackEntered
    rw [house_judge, hplan, hnow]
    rfl
  have hphase := entersPhase_judgePhase (s := judge h s) (h := h)
  rw [husable, hfallback] at hphase
  exact hphase

/-- The record that steps 1 to 5 of an evaluation leave where no protection acts between them, apart from the length in
force of the phase. -/
def State.evaluated (s : State) (h : HouseId) : House :=
  s.demanded h { s.judged h with phase := (s.phaseSet h).1, phaseMark := (s.phaseSet h).2 }

theorem demanded_judge : (judge h s).demanded h = s.demanded h := by
  have hjudge := judge_apart (s := s) (h := h)
  have hreservoirs := congrArg State.reservoirs hjudge
  have hperiod := congrArg State.period hjudge
  exact demanded_of_same ((tables_of_apartAlarms hjudge).trans rfl) hreservoirs hperiod

theorem hasDemand_setDemand : HasDemand h (s.evaluated h).demand (setDemand h (judge h s)) := by
  obtain ⟨len, ms, hset⟩ := setDemand_sets (entersPhase_judge (s := s) (h := h))
  have hhouse : (setDemand h (judge h s)).house h = s.demanded h
      { s.judged h with phase := (s.phaseSet h).1, phaseMark := (s.phaseSet h).2, phaseLen := len } := by
    rw [hset, demanded_judge, ← house_judge]
    exact house_modHouse_same (judge h s) h fun x =>
      s.demanded h { x with phase := (s.phaseSet h).1, phaseMark := (s.phaseSet h).2, phaseLen := len }
  unfold HasDemand
  rw [hhouse]
  rfl

theorem evaluate_unprotected (hnone : (s.judged h).protection = .none) : evaluate k h s
    = timeStagger h (timeRotation h (steps k h (setWait h .none none (setDemand h (judge h s))))) := by
  unfold evaluate
  dsimp only
  rw [house_judge, if_neg (not_not_intro hnone)]

theorem hasDemand_evaluate (hk : k.Keeps) (hnone : (s.judged h).protection = .none) :
    HasDemand h (s.evaluated h).demand (evaluate k h s) := by
  rw [evaluate_unprotected hnone]
  exact hasDemand_timeStagger (hasDemand_timeRotation (hasDemand_steps hk (hasDemand_setWait _ _ hasDemand_setDemand)))

/-! ### The marks taken (R79) -/

theorem takeHouseMark_unmarked (hmark : h ∉ s.marks) : takeHouseMark h s = s := if_neg hmark

theorem takeHouseMark_idle (hmark : h ∈ s.marks)
    (hidle : ¬(s.engine = .run ∧ (s.houseE h).used = true ∧ (s.house h).mode = .auto)) :
    takeHouseMark h s = { s with marks := s.marks.erase h } := by
  have htaken : ¬({ s with marks := s.marks.erase h } : State).active h = true := mt active_iff.mp hidle
  rw [takeHouseMark, if_pos hmark, takeMark, if_neg htaken]

theorem takeHouseMark_active (hmark : h ∈ s.marks)
    (hactive : s.engine = .run ∧ (s.houseE h).used = true ∧ (s.house h).mode = .auto) :
    takeHouseMark h s = evaluate .live h { s with marks := s.marks.erase h } := by
  have htaken : ({ s with marks := s.marks.erase h } : State).active h = true := active_iff.mpr hactive
  rw [takeHouseMark, if_pos hmark, takeMark, if_pos htaken]

theorem apartHouse_takeHouseMark : (takeHouseMark h s).apartHouse h = s.apartHouse h := by
  unfold takeHouseMark
  split
  · exact (apartHouse_takeMark _ h keeps_live).trans rfl
  · rfl

end

end Sys2Proof.Machine

/-! ## The evaluation of a house settled (R79-R115) -/

namespace Sys2Proof.Machine

section

variable {s : State} {h : HouseId}

theorem exec_houseEvaluation : exec (.houseEvaluation h) s = .next (takeHouseMark h s) := rfl

/-- A house without protection after its mark is taken: the demand as steps 4 and 5 set it (R80). -/
theorem demand_takeHouseMark (hmark : h ∈ s.marks)
    (hactive : s.engine = .run ∧ (s.houseE h).used = true ∧ (s.house h).mode = .auto)
    (hnone : (s.judged h).protection = .none) : ((takeHouseMark h s).house h).demand = (s.evaluated h).demand := by
  rw [takeHouseMark_active hmark hactive]
  exact hasDemand_evaluate (s := { s with marks := s.marks.erase h }) keeps_live hnone

theorem takeHouseMark_unprotected (hmark : h ∈ s.marks)
    (hactive : s.engine = .run ∧ (s.houseE h).used = true ∧ (s.house h).mode = .auto)
    (hnone : (s.judged h).protection = .none) : takeHouseMark h s = timeStagger h (timeRotation h (steps .live h
      (setWait h .none none (setDemand h (judge h { s with marks := s.marks.erase h }))))) := by
  rw [takeHouseMark_active hmark hactive]
  exact evaluate_unprotected (s := { s with marks := s.marks.erase h }) hnone

/-- The demand of a record without protection on a usable delivery level (R85, R87-R89). -/
theorem demand_usable (husable : s.deliveryUsable h = true) (hnone : (s.judged h).protection = .none) :
    let C := s.commandedCount h
    let D := stagesFor (s.bandE h s.period.cls) (s.deliveryLevel h) (s.house h).stages
    let T := min D (s.houseE h).maxRun
    let std := s.bandE h .standard
    (s.evaluated h).demand = ⟨D, T,
      if s.deliveryLevel h ≤ (s.resE (s.houseE h).delivery).emerg ∧ 1 ≤ T then .emergency
      else if T ≤ C then .none
      else if s.period.cls ≠ .cheap then .demand
      else if std.inUse (C + 1) = true ∧ s.deliveryLevel h ≤ std.stage (C + 1) then .demand
      else .fill, .none, .none, none⟩ := by
  intro C D T std
  have hphase : s.phaseSet h = (.none, none) := if_pos husable
  have hstages (x : House) : s.stagesSet h x = stagesFor (s.bandE h s.period.cls) (s.deliveryLevel h) x.stages :=
    if_pos husable
  simp only [State.evaluated, hphase, State.demanded, State.targeted, House.demand, State.targetSet, State.needSet,
    hstages, hnone, husable, ne_eq, not_true_eq_false, if_false, Bool.not_true, Bool.false_eq_true]
  rfl

/-- The demand of a record without protection while the delivery level is not usable (R85, R86, R89). -/
theorem demand_fallback (husable : s.deliveryUsable h = false) (hnone : (s.judged h).protection = .none) :
    let ph := s.fallbackPhase h
    (s.evaluated h).demand = ⟨0, if ph.1 = .on then 1 else 0,
      if ph.1 = .on ∧ s.commandedCount h = 0 then .demand else .none, .none, ph.1, ph.2⟩ := by
  intro ph
  have hphase : s.phaseSet h = ph := if_neg (by rw [husable]; exact Bool.false_ne_true)
  have hcommanded : (s.judged h).commanded = s.commandedCount h := rfl
  simp only [State.evaluated, hphase, State.demanded, State.targeted, House.demand, State.targetSet, State.needSet,
    State.stagesSet, hnone, husable, ne_eq, not_true_eq_false, if_false, Bool.not_false, if_true, Bool.false_eq_true,
    hcommanded]
  by_cases hon : ph.1 = .on
  · simp [hon]
  · simp [hon]

/-- Settles O60: steps 4 and 5 set the demand and nothing after them moves it, and step 6, the rotation test, the timers
and the shortage test each act by their rows. -/
theorem evaluationSets : Obligations.EvaluationSets := by
  intro h s e x C D T std known latch taken runs enters phase
  have hlatch (r : ResId) : dryNext (s.house h).dryLatch (s.res r).level (s.resE r) = true ↔ latch r := dryNext_iff
  have hprotection (hsuction : ∀ r, e.suction = some r → known r ∧ ¬latch r)
      (hspill : ¬(known e.delivery ∧ (s.resE e.delivery).overflow ≤ x.level)) : (s.judged h).protection = .none :=
    protection_judged_none
      (fun r hr => ⟨usable_iff.mpr (hsuction r hr).1, Bool.eq_false_iff.mpr (mt (hlatch r).mp (hsuction r hr).2)⟩)
      (Bool.eq_false_iff.mpr (mt overflows_iff.mp hspill))
  refine ⟨fun hmark => ?_, fun hmark hidle => ?_, fun hmark hruns hsuction => ⟨fun hknown hlevel => ?_, fun hlost => ?_,
    fun hcase => ?_⟩, ?_⟩
  · rw [exec_houseEvaluation, takeHouseMark_unmarked hmark]
  · rw [exec_houseEvaluation, takeHouseMark_idle hmark hidle]
  · have hnone := hprotection hsuction fun hspill => Nat.not_le.mpr hlevel hspill.2
    have hdemand := (demand_takeHouseMark hmark hruns hnone).trans (demand_usable (deliveryUsable_iff.mpr hknown) hnone)
    injection hdemand with hstages htarget hneed hprot hphase hphaseMark
    exact ⟨_, rfl, hstages, htarget, hprot, hphase, hphaseMark, hneed, apartHouse_takeHouseMark⟩
  · have hnone := hprotection hsuction fun hspill => hlost hspill.1
    have hunusable : s.deliveryUsable h = false := Bool.eq_false_iff.mpr (mt deliveryUsable_iff.mp hlost)
    have hdemand := (demand_takeHouseMark hmark hruns hnone).trans (demand_fallback hunusable hnone)
    injection hdemand with hstages htarget hneed hprot hphase hphaseMark
    exact ⟨_, rfl, hstages, hprot, hphase, hphaseMark, htarget, hneed, apartHouse_takeHouseMark⟩
  · intro v
    have hspill : ¬(known e.delivery ∧ (s.resE e.delivery).overflow ≤ x.level) := by
      rintro ⟨hknown, hover⟩
      rcases hcase with ⟨-, hlevel⟩ | hlost
      · exact Nat.not_le.mpr hlevel hover
      · exact hlost hknown
    rw [exec_houseEvaluation, takeHouseMark_unprotected hmark hruns (hprotection hsuction hspill)]
    rfl
  · intro y elapsed read lesser requested unlisted ended undone queuedStart
    have hread (old : PumpId) : read old s = readChoice h old s := (readChoice_eq old s).symm
    refine ⟨stepSix_apart, rfl, fun old new => ?_, ?_, ?_, ?_, ?_⟩
    · intro runner q K others
      have hcount : s.changeCount h old new = K := changeCount_eq
      refine ⟨fun hchange => ⟨fun hgone => ?_, fun hruns => ⟨fun hqueued hservice => ?_, fun hrun hcmd hservice => ?_,
        fun hrun hcmd hservice => ?_, fun hfailed => ?_, fun hstands => ?_⟩⟩, fun hchange => ⟨fun hrun hexpired => ?_,
          fun hover => ?_⟩⟩
      · exact (stepSix_starting hchange).trans (stepStarting_gone hgone)
      · exact (stepSix_starting hchange).trans (stepStarting_withdrawn hruns hqueued.1 hqueued.2 hservice)
      · rw [stepSix_starting hchange, stepStarting_runsWithdrawn hruns hrun hcmd hservice, hcount]
        rfl
      · exact (stepSix_starting hchange).trans (stepStarting_confirmed hruns hrun hcmd hservice)
      · exact (stepSix_starting hchange).trans (stepStarting_failed hruns hfailed)
      · rw [stepSix_starting hchange, stepStarting_demand hruns hstands]
        refine ⟨fun habove => ?_, fun hbelow => ?_, fun hmeets => ?_⟩
        · exact changeDemand_above (hcount ▸ habove)
        · rw [changeDemand_below (hcount ▸ hbelow)]
          refine ⟨fun p hstart => changeFalls_requested hstart, fun p hstart hqueued => changeFalls_granted hstart hqueued,
            fun hrequested hgranted => ?_⟩
          rw [changeFalls_stops hrequested hgranted, stopInChange, hcount]
        · have hmeets' : (s.house h).target = s.changeCount h old new := hmeets.trans hcount.symm
          refine ⟨fun p hstart => ?_, fun hstart => changeDemand_waits hmeets' hstart⟩
          rw [changeDemand_rechooses hmeets' hstart, hread]
          exact ⟨fun w hlesser => rechoose_lesser (lesserCandidate_iff.mpr hlesser),
            fun hnone => rechoose_none (lesserCandidate_none hnone)⟩
      · rw [stepSix_stopping hchange, stepStopping_waits hrun hexpired, stopInChange, hcount]
        rfl
      · exact (stepSix_stopping hchange).trans (stepStopping_ends hover)
    · intro steady
      refine ⟨fun hsteady => rotation_unsteady (mt steady_iff.mp hsteady),
        fun hsteady holdest => rotation_runless (steady_iff.mpr hsteady) holdest, fun hsteady old holdest => ?_⟩
      intro m t
      refine ⟨fun hearly => rotation_early (steady_iff.mpr hsteady) holdest hearly, fun hdue => ?_⟩
      have hmarked : t.house h = { y with rotMark := some m } := house_modHouse_same ..
      have hlast : (t.house h).lastStartTx = y.lastStartTx := by rw [hmarked]
      have hreadt : read old t = readChoice h old t := (readChoice_eq old t).symm
      rw [rotation_due (steady_iff.mpr hsteady) holdest hdue, hreadt]
      refine ⟨fun w hlesser => ⟨fun hstagger => ?_, fun hstagger => ?_⟩, fun hnone => ?_⟩
      · exact rotationTest_asks (s := t) (lesserCandidate_iff.mpr hlesser) (by rw [hlast]; exact hstagger)
      · rw [← hlast] at hstagger ⊢
        exact rotationTest_staggers (s := t) (lesserCandidate_iff.mpr hlesser) hstagger
      · exact rotationTest_kept (s := t) (lesserCandidate_none hnone)
    · exact ⟨timeRotation_stands, fun hnow => ⟨fun m hmark hearly => timeRotation_runs hnow hmark hearly,
        fun hover => timeRotation_idle hnow hover⟩⟩
    · refine ⟨timeStagger_stands, fun hnow => ⟨fun hkind => ?_, fun hkind => ?_⟩⟩
      · rw [timeStagger_sets hnow, if_pos hkind]
      · rw [timeStagger_sets hnow, if_neg hkind]
    · intro ready t
      have hready : s.shortCount h = ready := shortCount_eq
      have hvalue : s.shortValue h = if known e.delivery then x.level else 0 := if_congr deliveryUsable_iff rfl rfl
      unfold testShort
      rw [hready]
      refine ⟨fun ⟨hwas, hshort⟩ => ?_, fun ⟨hwas, henough⟩ => ?_, fun hsame => ?_⟩
      · rw [setShort_rises hwas (decide_eq_true hshort), hvalue]
      · exact setShort_falls hwas (decide_eq_false (Nat.not_lt.mpr henough))
      · exact setShort_stands (Bool.eq_iff_iff.mpr (hsame.trans decide_eq_true_iff.symm))

end

end Sys2Proof.Machine

/-! ## The start in flight of a house through the suction guard and a take (R50, R92, R124, R138, R139) -/

namespace Sys2Proof.Machine

section

variable {b s t : State} {h : HouseId} {p : PumpId} {e : Request}

/-! ### A start that ends -/

/-- From `s` to `t` the start of a pump ends with the pump standing, and the start in flight of its house (R92). -/
structure StartEnds (p : PumpId) (s t : State) : Prop where
  tables : t.tables = s.tables
  requests : t.arbiter.requests = s.arbiter.requests
  others : ∀ q, q ≠ p → t.pump q = s.pump q
  stopped : (t.pump p).run = .stopped
  stands : ∀ h, ¬((s.house h).start = .granted p ∨ (s.house h).start = .transmitted p) →
    (t.house h).start = (s.house h).start
  ended : ∀ h, (s.pumpE p).house = some h → ((s.house h).start = .granted p ∨ (s.house h).start = .transmitted p) →
    (t.house h).start = .none

theorem startEnds_endFlight (hstopped : (t.pump p).run = .stopped) (hothers : ∀ q, q ≠ p → t.pump q = s.pump q)
    (htables : t.tables = s.tables) (hhouses : t.houses = s.houses) (harbiter : t.arbiter = s.arbiter) :
    StartEnds p s (endFlight p t) := by
  obtain ⟨hs, hflight⟩ := endFlight_houses p t
  have hpump (q : PumpId) : (endFlight p t).pump q = t.pump q := by rw [hflight]; rfl
  have hhouse (g : HouseId) : t.house g = s.house g := congrArg (fun v : Vector House 12 => v.get g) hhouses
  refine ⟨by rw [hflight]; exact htables, by rw [hflight]; exact congrArg Arbiter.requests harbiter,
    fun q hq => (hpump q).trans (hothers q hq), (congrArg Pump.run (hpump p)).trans hstopped, fun h hstart => ?_,
    fun h hp hstart => ?_⟩
  · rw [← hhouse] at hstart ⊢
    unfold endFlight atHouseOf
    split
    · rfl
    · rw [house_modHouse]
      split
      · next hg => rw [if_neg (hg ▸ hstart), hg]
      · rfl
  · rw [← hhouse] at hstart
    rw [(endFlight_of_house (by rw [pumpE_eq_of_tables htables]; exact hp)).1 hstart, house_modHouse_same]

theorem startEnds_undoCore (p : PumpId) (s : State) : StartEnds p s (undoCore p s) := by
  unfold undoCore
  rw [modPump_accrue]
  exact startEnds_endFlight (by simp [setPump, State.pump]) (fun q hq => (getSet ..).trans (if_neg hq)) rfl rfl rfl

theorem startEnds_failCore (p : PumpId) (s : State) : StartEnds p s (failCore p s) := by
  unfold failCore
  rw [modPump_accrue]
  exact startEnds_endFlight (by simp [setPump, State.pump]) (fun q hq => (getSet ..).trans (if_neg hq)) rfl rfl rfl

/-! ### The start in flight recallable (R83, R92) -/

/-- With the tables of `b`, each request in the list is for a pump of its own house (R118). -/
def OwnRequests (b s : State) : Prop :=
  s.tables = b.tables ∧ ∀ e ∈ s.arbiter.requests, (b.pumpE e.pump).house = some e.house

/-- The house has no request in the list. -/
def Unlisted (h : HouseId) (s : State) : Prop := ∀ e ∈ s.arbiter.requests, e.house ≠ h

/-- The house waits with a request, and each of its pumps that is START_ORDERED satisfies `P`. -/
def Waiting (b : State) (h : HouseId) (P : PumpId → Pump → Prop) (s : State) : Prop :=
  (∃ q, (s.house h).start = .requested q)
    ∧ ∀ p, (b.pumpE p).house = some h → (s.pump p).run = .startOrdered → P p (s.pump p)

/-- The house has no start in flight and no request. -/
def Recalled (h : HouseId) (s : State) : Prop := (s.house h).start = .none ∧ Unlisted h s

/-- The house's start is granted to a pump of its own whose order is still QUEUED. -/
structure GrantPending (b : State) (h : HouseId) (p : PumpId) (s : State) : Prop where
  start : (s.house h).start = .granted p
  own : (b.pumpE p).house = some h
  run : (s.pump p).run = .startOrdered
  order : (s.pump p).order = .queued
  remote : (s.pump p).panel = some .remote
  unlisted : Unlisted h s

/-- The start in flight of the house can be recalled: it waits (where `W` allows it) with `P` at its pumps, or is recalled,
or is granted and QUEUED at a pump of `G`. -/
def Recallable (b : State) (h : HouseId) (W : Prop) (P : PumpId → Pump → Prop) (G : PumpId → Prop) (s : State) : Prop :=
  OwnRequests b s ∧ ((W ∧ Waiting b h P s) ∨ Recalled h s ∨ ∃ p, G p ∧ GrantPending b h p s)

section

variable {W W' : Prop} {P P' : PumpId → Pump → Prop} {G G' : PumpId → Prop}

theorem Recallable.mono (hs : Recallable b h W P G s) (hW : W → W') (hP : W → ∀ p q, P p q → P' p q)
    (hG : ∀ p, G p → G' p) : Recallable b h W' P' G' s := by
  obtain ⟨hown, hphase⟩ := hs
  refine ⟨hown, hphase.imp (fun ⟨w, hrequested, hpumps⟩ => ⟨hW w, hrequested, fun p hp hrun => ?_⟩)
    (Or.imp_right fun ⟨p, hp, hpending⟩ => ⟨p, hG p hp, hpending⟩)⟩
  exact hP w p _ (hpumps p hp hrun)

/-- A pump that is not START_ORDERED before or after has no part in it. -/
theorem Recallable.of_pumps (hs : Recallable b h W P G s) (htables : t.tables = s.tables) (hhouses : t.houses = s.houses)
    (hrequests : t.arbiter.requests = s.arbiter.requests)
    (hpump : ∀ p, (t.pump p).run = .startOrdered ∨ (s.pump p).run = .startOrdered → t.pump p = s.pump p) :
    Recallable b h W P G t := by
  obtain ⟨⟨hsame, hown⟩, hphase⟩ := hs
  have hhouse : t.house h = s.house h := congrArg (fun v : Vector House 12 => v.get h) hhouses
  refine ⟨⟨htables.trans hsame, by rwa [hrequests]⟩, ?_⟩
  rcases hphase with ⟨w, hrequested, hpumps⟩ | ⟨hstart, hunlisted⟩ | ⟨p, hp, hpending⟩
  · refine .inl ⟨w, by rwa [hhouse], fun p hp hrun => ?_⟩
    have hsame := hpump p (.inl hrun)
    rw [hsame] at hrun ⊢
    exact hpumps p hp hrun
  · exact .inr (.inl ⟨by rwa [hhouse], by rwa [Unlisted, hrequests]⟩)
  · have hpp := hpump p (.inr hpending.run)
    exact .inr (.inr ⟨p, hp, by rw [hhouse]; exact hpending.start, hpending.own, by rw [hpp]; exact hpending.run,
      by rw [hpp]; exact hpending.order, by rw [hpp]; exact hpending.remote,
      by rw [Unlisted, hrequests]; exact hpending.unlisted⟩)

theorem stopKept_recallable (b : State) (h : HouseId) (W : Prop) (P : PumpId → Pump → Prop) (G : PumpId → Prop) :
    StopKept (Recallable b h W P G) where
  same hs hsame := by
    simp only [State.orderParts, Prod.mk.injEq] at hsame
    obtain ⟨htables, -, hpumps, hhouses, hrequests, -, -, -⟩ := hsame
    exact hs.of_pumps htables hhouses hrequests fun p _ => congrArg (fun v : Vector Pump 32 => v.get p) hpumps
  stop {s p} hp hs := by
    refine hs.of_pumps rfl rfl rfl fun q hq => ?_
    rw [pump_stopCore] at hq ⊢
    split
    · next heq =>
      subst heq
      rw [if_pos rfl, (commandedRunning_iff.mp hp).1] at hq
      rcases hq with hq | hq <;> cases hq
    · rfl

/-- The end of a start leaves the start in flight recallable (R92). -/
theorem Recallable.of_startEnds (hs : Recallable b h W P G s) (ht : StartEnds p s t) : Recallable b h W P G t := by
  obtain ⟨⟨hsame, hown⟩, hphase⟩ := hs
  have hunlisted (hu : Unlisted h s) : Unlisted h t := by rwa [Unlisted, ht.requests]
  refine ⟨⟨ht.tables.trans hsame, by rwa [ht.requests]⟩, ?_⟩
  rcases hphase with ⟨w, ⟨q, hstart⟩, hpumps⟩ | ⟨hstart, hu⟩ | ⟨q, hq, hpending⟩
  · refine .inl ⟨w, ⟨q, by rw [ht.stands h (by simp [hstart]), hstart]⟩, fun r hr hrun => ?_⟩
    have hne : r ≠ p := fun heq => by
      rw [heq, ht.stopped] at hrun
      cases hrun
    rw [ht.others r hne] at hrun ⊢
    exact hpumps r hr hrun
  · exact .inr (.inl ⟨by rw [ht.stands h (by simp [hstart]), hstart], hunlisted hu⟩)
  · by_cases hpq : q = p
    · subst hpq
      have hhouse : (s.pumpE q).house = some h := by rw [pumpE_eq_of_tables hsame]; exact hpending.own
      exact .inr (.inl ⟨ht.ended h hhouse (.inl hpending.start), hunlisted hpending.unlisted⟩)
    · have hother := ht.others q hpq
      refine .inr (.inr ⟨q, hq, ?_, hpending.own, by rw [hother]; exact hpending.run, by rw [hother]; exact hpending.order,
        by rw [hother]; exact hpending.remote, hunlisted hpending.unlisted⟩)
      rw [ht.stands h (by simp [hpending.start, hpq]), hpending.start]

theorem panel_of_winner (he : s.winner = some e) {g : HouseId} (hg : (s.pumpE e.pump).house = some g) :
    (s.pump e.pump).panel = some .remote := ((eligible_iff hg).mp (eligible_of_winner he)).2.1

/-- A grant leaves it recallable: to the house itself it is a grant pending, and to another it moves a pump of that one. -/
theorem Recallable.of_grant (hs : Recallable b h W P G s) (hG : W → ∀ p, G p) (he : s.winner = some e) :
    Recallable b h W P G (grantCore e s) := by
  obtain ⟨⟨hsame, hown⟩, hphase⟩ := hs
  have hmem := mem_of_winner s he
  have hhouse := hown e hmem
  have htables : (grantCore e s).tables = s.tables := (recorded_grantCore s e).tables
  have hleft {x : Request} (hx : x ∈ (grantCore e s).arbiter.requests) : x ∈ s.arbiter.requests ∧ x.house ≠ e.house := by
    rw [requests_grantCore, List.mem_filter, decide_eq_true_iff] at hx
    exact hx
  have hunlisted (hu : Unlisted h s) : Unlisted h (grantCore e s) := fun x hx => hu x (hleft hx).1
  have hother (heh : e.house ≠ h) (q : PumpId) (hq : (b.pumpE q).house = some h) : (grantCore e s).pump q = s.pump q := by
    rw [pump_grantCore, if_neg]
    rintro rfl
    exact heh (Option.some.inj (hhouse.symm.trans hq))
  have hstand (heh : e.house ≠ h) : (grantCore e s).house h = s.house h := by rw [house_grantCore, if_neg (Ne.symm heh)]
  refine ⟨⟨htables.trans hsame, fun x hx => hown x (hleft hx).1⟩, ?_⟩
  rcases hphase with ⟨w, ⟨q, hstart⟩, hpumps⟩ | ⟨hstart, hu⟩ | ⟨q, hq, hpending⟩
  · by_cases heh : e.house = h
    · subst heh
      have hpump := pump_grantCore (s := s) (e := e) e.pump
      rw [if_pos rfl] at hpump
      have hpanel := panel_of_winner he (by rw [pumpE_eq_of_tables hsame]; exact hhouse)
      refine .inr (.inr ⟨e.pump, hG w e.pump, ?_, hhouse, by rw [hpump], by rw [hpump], by rw [hpump]; exact hpanel,
        fun x hx => ?_⟩)
      · rw [house_grantCore, if_pos rfl]
      · exact (hleft hx).2
    · refine .inl ⟨w, ⟨q, by rw [hstand heh, hstart]⟩, fun r hr hrun => ?_⟩
      rw [hother heh r hr] at hrun ⊢
      exact hpumps r hr hrun
  · exact .inr (.inl ⟨by rw [hstand (hu e hmem), hstart], hunlisted hu⟩)
  · have heh := hpending.unlisted e hmem
    have hpump := hother heh q hpending.own
    exact .inr (.inr ⟨q, hq, by rw [hstand heh]; exact hpending.start, hpending.own, by rw [hpump]; exact hpending.run,
      by rw [hpump]; exact hpending.order, by rw [hpump]; exact hpending.remote, hunlisted hpending.unlisted⟩)

theorem guardKept_recallable (b : State) (h : HouseId) (P : PumpId → Pump → Prop) (hG : W → ∀ p, G p) :
    GuardKept (Recallable b h W P G) where
  toStopKept := stopKept_recallable b h W P G
  granted _ he hs := hs.of_grant hG he
  undone _ _ hs := hs.of_startEnds (startEnds_undoCore ..)
  failed _ _ hs := hs.of_startEnds (startEnds_failCore ..)

end

end

end Sys2Proof.Machine

/-! ## The suction guard and the take leave the start in flight recallable (R138, R139, R169) -/

namespace Sys2Proof.Machine

section

variable {b s t u : State} {h : HouseId} {p : PumpId} {c : SlotId} {O : Vector Order 4}

/-- A start that the suction guard ends (R138). -/
def Pump.startOpen (q : Pump) : Prop := q.run = .startOrdered ∧ (q.order = .queued ∨ q.order = .transmitted)

/-- The guard ends an open start, and considers a grant for the load that falls (R138). -/
theorem guardPump_open (hp : (s.pump p).startOpen) :
    ∃ u, StartEnds p s u ∧ guardPump p s = markPump p (loadFell .quiet u) := by
  obtain ⟨hrun, horder⟩ := hp
  rcases horder with horder | horder
  · refine ⟨undoCore p s, startEnds_undoCore p s, ?_⟩
    unfold guardPump
    rw [hrun, horder]
  · refine ⟨failCore p s, startEnds_failCore p s, ?_⟩
    unfold guardPump
    rw [hrun, horder]

/-- At any other pump it makes stops alone (R138). -/
theorem stopKept_guardPump {I : State → Prop} (K : StopKept I) (hp : ¬(s.pump p).startOpen) (hs : I s) :
    I (guardPump p s) := by
  unfold guardPump
  split
  · next hrun horder => exact absurd ⟨hrun, .inl horder⟩ hp
  · next hrun horder => exact absurd ⟨hrun, .inr horder⟩ hp
  · next hrun =>
    split
    · next hcommanded =>
      exact stopKept_markPump K p (stopKept_shed K holds_quiet (K.stop (commandedRunning_iff.mpr ⟨hrun, hcommanded⟩) hs))
    · exact hs
  · exact hs

theorem guardSlot_run (hO : O.get c = .run) (hp : s.pumpAt h c = some p) : guardSlot h O s c = guardPump p s := by
  rw [guardSlot, if_pos hO, hp]

theorem guardSlot_other (hO : O.get c ≠ .run) : guardSlot h O s c = s := if_neg hO

theorem guardSlot_empty (hp : s.pumpAt h c = none) : guardSlot h O s c = s := by
  rw [guardSlot, hp, ite_self]

/-- A START_ORDERED pump at REMOTE has its slot in RUN (R136). -/
theorem run_of_slot (hp : s.pumpAt h c = some p) (hrun : (s.pump p).run = .startOrdered)
    (hlocal : (s.pump p).isLocal = false) : (s.ordersOf h).get c = .run := by
  rw [get_ordersOf, slotOrder_pump hp, Pump.order?, hlocal, Pump.counted, hrun]
  rfl

/-- A slot in RUN has a pump that is not under local control (R136). -/
theorem remote_of_run (hp : s.pumpAt h c = some p) (hO : (s.ordersOf h).get c = .run) : (s.pump p).isLocal = false := by
  rw [get_ordersOf, slotOrder_pump hp, Pump.order?] at hO
  cases hlocal : (s.pump p).isLocal with
  | false => rfl
  | true =>
    rw [hlocal, if_pos rfl] at hO
    cases hO

/-! ### A pass over the slots of a house whose start is past the list -/

/-- No condition on the pumps. -/
abbrev anyPump : PumpId → Pump → Prop := fun _ _ => True

/-- The pump stands in no slot of the house. -/
def Slotless (b : State) (h : HouseId) (p : PumpId) : Prop := ∀ c, b.pumpAt h c ≠ some p

theorem guardKept_past (b : State) (h : HouseId) (G : PumpId → Prop) : GuardKept (Recallable b h False anyPump G) :=
  guardKept_recallable b h anyPump False.elim

/-- The end of the start granted leaves it recalled (R92). -/
theorem GrantPending.recalled (hp : GrantPending b h p s) (hown : OwnRequests b s) (hends : StartEnds p s u) :
    OwnRequests b u ∧ Recalled h u := by
  have hhouse : (s.pumpE p).house = some h := by rw [pumpE_eq_of_tables hown.1]; exact hp.own
  exact ⟨⟨hends.tables.trans hown.1, by rw [hends.requests]; exact hown.2⟩, hends.ended h hhouse (.inl hp.start),
    by rw [Unlisted, hends.requests]; exact hp.unlisted⟩

/-- At the slot of the one pump that a start may be granted to, the guard leaves none. -/
theorem recalled_guardPump (hs : Recallable b h False anyPump (· = p) s) :
    Recallable b h False anyPump (fun _ => False) (guardPump p s) := by
  have K := guardKept_past b h fun _ => False
  obtain ⟨hown, ⟨w, -⟩ | hrecalled | ⟨q, rfl, hpending⟩⟩ := hs
  · exact w.elim
  · exact guardKept_guardPump K p ⟨hown, .inr (.inl hrecalled)⟩
  · obtain ⟨u, hends, hguard⟩ := guardPump_open ⟨hpending.run, .inl hpending.order⟩
    obtain ⟨hown', hrecalled⟩ := hpending.recalled hown hends
    rw [hguard]
    exact stopKept_markPump K.toStopKept q
      (grantKept_loadFell K.toGrantKept holds_quiet ⟨hown', .inr (.inl hrecalled)⟩)

/-- Once the start is past the list, a pass over the derived orders leaves it recalled, or granted to a pump that stands in
no slot. -/
theorem guardAgain_settles (hs : Recallable b h False anyPump (fun _ => True) s) :
    Recallable b h False anyPump (Slotless b h) (guardAgain h s) := by
  have hsame := hs.1.1
  obtain ⟨hown, hphase⟩ := hs
  rcases hphase with ⟨w, -⟩ | hrecalled | ⟨p, -, hpending⟩
  · exact w.elim
  · exact guardKept_guardAgain (guardKept_past b h _) h ⟨hown, .inr (.inl hrecalled)⟩
  · by_cases hat : ∃ c, b.pumpAt h c = some p
    · obtain ⟨c, hc⟩ := hat
      obtain ⟨before, after, hslots⟩ := List.append_of_mem (show c ∈ allSlots from List.mem_finRange c)
      have hstart : Recallable b h False anyPump (· = p) s := ⟨hown, .inr (.inr ⟨p, rfl, hpending⟩)⟩
      have hreached := guardKept_guardSlots (guardKept_past b h _) h (s.ordersOf h) before hstart
      have hcs : s.pumpAt h c = some p := (pumpAt_eq_of_tables hsame).trans hc
      have hO : (s.ordersOf h).get c = .run :=
        run_of_slot hcs hpending.run (not_isLocal_of_remote (.inl hpending.remote))
      have hat : (before.foldl (guardSlot h (s.ordersOf h)) s).pumpAt h c = some p :=
        (pumpAt_eq_of_tables hreached.1.1).trans hc
      have hpassed := recalled_guardPump hreached
      rw [← guardSlot_run hO hat] at hpassed
      rw [guardAgain, guardPass, hslots, List.foldl_append, List.foldl_cons]
      exact (guardKept_guardSlots (guardKept_past b h _) h (s.ordersOf h) after hpassed).mono id
        (fun w => w.elim) fun _ w => w.elim
    · exact guardKept_guardAgain (guardKept_past b h _) h
        ⟨hown, .inr (.inr ⟨p, fun c hc => hat ⟨c, hc⟩, hpending⟩)⟩

/-! ### A pass over the slots of a house that waits with a request -/

/-- A pump that stands START_ORDERED as it stood at `u`, and whose start is not open where its slot is in RUN among the
slots passed. -/
def Passed (b u : State) (h : HouseId) (O : Vector Order 4) (l : List SlotId) (p : PumpId) (q : Pump) : Prop :=
  q = u.pump p ∧ ∀ c ∈ l, O.get c = .run → b.pumpAt h c = some p → ¬q.startOpen

theorem Passed.snoc {l : List SlotId} {q : Pump} (hq : Passed b u h O l p q)
    (hc : O.get c = .run → b.pumpAt h c = some p → ¬q.startOpen) : Passed b u h O (l ++ [c]) p q := by
  refine ⟨hq.1, fun d hd => ?_⟩
  rcases List.mem_append.mp hd with hd | hd
  · exact hq.2 d hd
  · rw [List.mem_singleton.mp hd]
    exact hc

/-- Recallable, with each START_ORDERED pump of a waiting house as the pass over these slots leaves it. -/
abbrev RecallablePassed (b u : State) (h : HouseId) (O : Vector Order 4) (l : List SlotId) : State → Prop :=
  Recallable b h True (Passed b u h O l) fun _ => True

theorem guardKept_passed (b u : State) (h : HouseId) (O : Vector Order 4) (l : List SlotId) :
    GuardKept (RecallablePassed b u h O l) := guardKept_recallable b h _ fun _ _ => trivial

/-- The slot passed adds to the slots passed before it. -/
theorem passed_guardSlot {l : List SlotId} (hs : RecallablePassed b u h O l s) :
    RecallablePassed b u h O (l ++ [c]) (guardSlot h O s c) := by
  have K := guardKept_passed b u h O (l ++ [c])
  have hadd {v : State} (hv : RecallablePassed b u h O l v)
      (hc : ∀ p, O.get c = .run → b.pumpAt h c = some p → ¬(v.pump p).startOpen) :
      RecallablePassed b u h O (l ++ [c]) v := by
    refine ⟨hv.1, hv.2.imp_left fun ⟨w, hrequested, hpumps⟩ => ⟨w, hrequested, fun p hp hrun => ?_⟩⟩
    exact (hpumps p hp hrun).snoc (hc p)
  by_cases hO : O.get c = .run
  · cases hp : s.pumpAt h c with
    | none =>
      rw [guardSlot_empty hp]
      refine hadd hs fun p _ hb => ?_
      rw [pumpAt_eq_of_tables hs.1.1, hb] at hp
      cases hp
    | some p =>
      have hat (q : PumpId) (hq : b.pumpAt h c = some q) : q = p := by
        rw [pumpAt_eq_of_tables hs.1.1, hq] at hp
        exact Option.some.inj hp
      rw [guardSlot_run hO hp]
      by_cases hopen : (s.pump p).startOpen
      · obtain ⟨v, hends, hguard⟩ := guardPump_open hopen
        have hv : RecallablePassed b u h O (l ++ [c]) v := by
          refine hadd (Recallable.of_startEnds hs hends) fun q _ hq hstart => ?_
          rw [hat q hq, Pump.startOpen, hends.stopped] at hstart
          cases hstart.1
        rw [hguard]
        exact stopKept_markPump K.toStopKept p (grantKept_loadFell K.toGrantKept holds_quiet hv)
      · exact stopKept_guardPump K.toStopKept hopen (hadd hs fun q _ hq => by rwa [hat q hq])
  · rw [guardSlot_other hO]
    exact hadd hs fun _ hrun => absurd hrun hO

theorem passed_guardSlots (l m : List SlotId) (hs : RecallablePassed b u h O m s) :
    RecallablePassed b u h O (m ++ l) (l.foldl (guardSlot h O) s) := by
  induction l generalizing m s with
  | nil => rwa [List.append_nil]
  | cons c rest ih =>
    have hrest := ih (m ++ [c]) (passed_guardSlot (c := c) hs)
    rwa [List.append_assoc] at hrest

/-- While a house waits, a pass over its derived orders leaves no open start in a slot in RUN, unless one is granted. -/
theorem guardAgain_passes (hs : Recallable b h True anyPump (fun _ => True) s) :
    RecallablePassed b s h (s.ordersOf h) allSlots (guardAgain h s) := by
  have hbegin : RecallablePassed b s h (s.ordersOf h) [] s :=
    ⟨hs.1, hs.2.imp_left fun ⟨w, hrequested, _⟩ => ⟨w, hrequested, fun p _ _ => ⟨rfl, by simp⟩⟩⟩
  exact passed_guardSlots allSlots [] hbegin

/-- No start is open in a slot that these orders hold in RUN. -/
def Shut (b : State) (h : HouseId) (O : Vector Order 4) (p : PumpId) (q : Pump) : Prop :=
  ∀ c, O.get c = .run → b.pumpAt h c = some p → ¬q.startOpen

/-- Where no start is open the guard makes stops alone, and a house that waits still waits. -/
theorem shut_guardSlot (c : SlotId) (hs : Recallable b h True (Shut b h O) (fun _ => False) s) :
    Recallable b h True (Shut b h O) (fun _ => False) (guardSlot h O s c) := by
  have hsame := hs.1.1
  rcases hs with ⟨hown, ⟨-, hwaiting⟩ | hrecalled | ⟨p, w, -⟩⟩
  · by_cases hO : O.get c = .run
    · cases hp : s.pumpAt h c with
      | none =>
        rw [guardSlot_empty hp]
        exact ⟨hown, .inl ⟨trivial, hwaiting⟩⟩
      | some p =>
        have hb : b.pumpAt h c = some p := (pumpAt_eq_of_tables hsame).symm.trans hp
        rw [guardSlot_run hO hp]
        refine stopKept_guardPump (stopKept_recallable ..) (fun hopen => ?_) ⟨hown, .inl ⟨trivial, hwaiting⟩⟩
        exact hwaiting.2 p (house_of_pumpAt hb) hopen.1 c hO hb hopen
    · rw [guardSlot_other hO]
      exact ⟨hown, .inl ⟨trivial, hwaiting⟩⟩
  · have hpast : Recallable b h False anyPump (fun _ => False) s := ⟨hown, .inr (.inl hrecalled)⟩
    exact (guardKept_guardSlot (guardKept_past b h _) h O c hpast).mono (fun w => w.elim) (fun w => w.elim) fun _ => id
  · exact w.elim

/-- A second pass over the derived orders of a house that waits leaves no start granted. -/
theorem guardAgain_waits (hown : OwnRequests b s) (hsame : u.tables = b.tables)
    (hs : Waiting b h (Passed b u h (u.ordersOf h) allSlots) s) :
    Recallable b h True anyPump (fun _ => False) (guardAgain h s) := by
  have hshut {c : SlotId} {p : PumpId} (hO : (s.ordersOf h).get c = .run) (hp : b.pumpAt h c = some p) :
      ¬(s.pump p).startOpen := by
    intro hopen
    have hps : s.pumpAt h c = some p := (pumpAt_eq_of_tables hown.1).trans hp
    have hpu : u.pumpAt h c = some p := (pumpAt_eq_of_tables hsame).trans hp
    obtain ⟨hstands, hpassed⟩ := hs.2 p (house_of_pumpAt hp) hopen.1
    have hlocal := remote_of_run hps hO
    have hrun := hopen.1
    rw [hstands] at hlocal hrun
    exact hpassed c (List.mem_finRange c) (run_of_slot hpu hrun hlocal) hp hopen
  have hbegin : Recallable b h True (Shut b h (s.ordersOf h)) (fun _ => False) s :=
    ⟨hown, .inl ⟨trivial, hs.1, fun p _ _ c hO hp => hshut hO hp⟩⟩
  exact (kept_foldl (fun _ c => shut_guardSlot c) allSlots hbegin).mono id (fun _ _ _ _ => trivial) fun _ => id

/-! ### The take of an entry (R138, R139) -/

/-- The guard at the take of an entry leaves the house waiting, or recalled, or granted at a pump that stands in no slot
of the entry's house. -/
theorem guardEntry_spares (e : DispEntry) (hs : Recallable b h True anyPump (fun _ => False) s) :
    Recallable b h True anyPump (Slotless b e.house) (guardEntry e s).1 := by
  have hany {W : Prop} {G : PumpId → Prop} {v : State} (hv : Recallable b h W anyPump G v) :
      Recallable b h True anyPump (fun _ => True) v := hv.mono (fun _ => trivial) (fun _ _ _ => id) fun _ _ => trivial
  by_cases hguard : e.kind = .orders ∧ s.suctionGuard e.house = true
  · by_cases heh : e.house = h
    · subst heh
      have hpass := guardKept_guardPass (guardKept_recallable b e.house anyPump fun _ _ => trivial) e.house e.orders (hany hs)
      have hagain := guardAgain_passes hpass
      have hguarded : (guardEntry e s).1
          = guardAgain e.house (guardAgain e.house (guardPass e.house e.orders s)) := by
        rw [guardEntry, if_pos hguard]
      rw [hguarded]
      rcases hagain with ⟨hown, ⟨-, hwaiting⟩ | hpast⟩
      · exact (guardAgain_waits hown hpass.1.1 hwaiting).mono id (fun _ _ _ => id) fun _ w => w.elim
      · exact (guardAgain_settles ⟨hown, .inr (hpast.imp_right fun ⟨p, _, hp⟩ => ⟨p, trivial, hp⟩)⟩).mono
          False.elim (fun w => w.elim) fun _ => id
    · have hkept := guardKept_guardEntry (guardKept_recallable b h anyPump fun _ _ => trivial) e (hany hs)
      obtain ⟨hown, hphase⟩ := hkept
      refine ⟨hown, hphase.imp_right (Or.imp_right fun ⟨p, _, hp⟩ => ⟨p, fun c hc => ?_, hp⟩)⟩
      exact heh (Option.some.inj ((house_of_pumpAt hc).symm.trans hp.own))
  · have hsame : guardEntry e s = (s, e) := if_neg hguard
    rw [hsame]
    exact hs.mono id (fun _ _ _ => id) fun _ w => w.elim

/-- The taking of an entry's orders leaves it recallable. -/
theorem recallable_takeMarked (e : DispEntry) (hs : Recallable b h True anyPump (Slotless b e.house) s) :
    Recallable b h True anyPump (fun _ => True) (takeMarked e s) := by
  obtain ⟨w, hw⟩ := takeMarked_eq e s
  obtain ⟨hown, hphase⟩ := hs
  have hhouse : (takeMarked e s).house h = s.house h := by rw [hw]; rfl
  have hrequests : (takeMarked e s).arbiter.requests = s.arbiter.requests := by rw [hw]; rfl
  have htables : (takeMarked e s).tables = s.tables := by rw [hw]; rfl
  refine ⟨⟨htables.trans hown.1, by rw [hrequests]; exact hown.2⟩, ?_⟩
  rcases hphase with ⟨-, hrequested, -⟩ | ⟨hstart, hunlisted⟩ | ⟨p, hslotless, hpending⟩
  · exact .inl ⟨trivial, by rwa [hhouse], fun _ _ _ => trivial⟩
  · exact .inr (.inl ⟨by rwa [hhouse], by rwa [Unlisted, hrequests]⟩)
  · have hpump : (takeMarked e s).pump p = s.pump p := by
      refine pump_takeMarked_of_not fun ⟨c, hc, _⟩ => hslotless c ?_
      rw [← pumpAt_eq_of_tables hown.1]
      exact hc
    exact .inr (.inr ⟨p, trivial, by rw [hhouse]; exact hpending.start, hpending.own, by rw [hpump]; exact hpending.run,
      by rw [hpump]; exact hpending.order, by rw [hpump]; exact hpending.remote,
      by rw [Unlisted, hrequests]; exact hpending.unlisted⟩)

/-- A recallable start, whatever the pumps and the pump it is granted to. -/
abbrev AnyRecallable (b : State) (h : HouseId) : State → Prop := Recallable b h True anyPump fun _ => True

/-- Recallability does not look at the field port. -/
theorem AnyRecallable.of_field (hs : AnyRecallable b h s) (f : PortState) : AnyRecallable b h { s with field := f } :=
  Recallable.of_pumps hs rfl rfl rfl fun _ _ => rfl

theorem recallable_prepare (e : DispEntry) (rest : List DispEntry)
    (hs : Recallable b h True anyPump (fun _ => False) s) : AnyRecallable b h (prepare e rest s) := by
  have hhead : Recallable b h True anyPump (fun _ => False) (dequeue e rest s) := (stopKept_recallable ..).same hs rfl
  have hguarded := guardEntry_spares e hhead
  have hhouse := (guardEntry_entry e (dequeue e rest s)).1
  unfold prepare
  dsimp only
  generalize guardEntry e (dequeue e rest s) = g at hguarded hhouse
  rw [← hhouse] at hguarded ⊢
  have hsent : Recallable b h True anyPump (Slotless b g.2.house) (setLastSent g.2.house (some g.2.orders) g.1) :=
    (stopKept_recallable ..).same hguarded rfl
  exact stopKept_derive (stopKept_recallable ..) holds_quiet false _ (recallable_takeMarked g.2 hsent)

/-- The take of an entry leaves the start of a house that waits recallable, and the port busy. -/
theorem recallable_takeDispatch (e : DispEntry) (rest : List DispEntry)
    (hs : Recallable b h True anyPump (fun _ => False) s) : AnyRecallable b h (takeDispatch e rest s) := by
  have K := stopKept_recallable b h True anyPump fun _ => True
  have hprepared := recallable_prepare e rest hs
  rw [takeDispatch_eq_prepare]
  generalize prepare e rest s = t at hprepared
  have hout := K.same (t := setInTx (some (guardEntry e (dequeue e rest s)).2) t) hprepared rfl
  exact AnyRecallable.of_field hout _

theorem busy_takeDispatch (e : DispEntry) (rest : List DispEntry) (s : State) : (takeDispatch e rest s).field.tx ≠ none := by
  rw [takeDispatch_eq_prepare]
  exact Option.some_ne_none _

end

end Sys2Proof.Machine

/-! ## A house under a protection: its pumps stopped and its start withdrawn (R83) -/

namespace Sys2Proof.Machine

section

variable {b s t : State} {h : HouseId} {p : PumpId} {k : Ctx}

/-! ### A request withdrawn (R83, R92) -/

/-- A start past the list is recalled, whatever the port takes. -/
abbrev Past (b : State) (h : HouseId) : State → Prop := Recallable b h False anyPump fun _ => False

theorem past_iff : Past b h s ↔ OwnRequests b s ∧ Recalled h s := by
  simp [Recallable]

theorem takeKept_past (b : State) (h : HouseId) : TakeKept (Past b h) where
  toGuardKept := guardKept_past b h _
  taken {s _} _ hs := past_iff.mpr (past_iff (s := s).mp hs)
  sent {s} _ hs := past_iff.mpr (past_iff (s := s).mp hs)

/-- The start in flight is recallable, and a house that an idle port may take for still waits. -/
def Withdrawable (b : State) (h : HouseId) (s : State) : Prop :=
  AnyRecallable b h s ∧ (s.field.tx = none → ∃ q, (s.house h).start = .requested q)

theorem stopKept_withdrawable (b : State) (h : HouseId) : StopKept (Withdrawable b h) where
  same {s t} hs hsame := by
    refine ⟨(stopKept_recallable ..).same hs.1 hsame, fun hidle => ?_⟩
    simp only [State.orderParts, Prod.mk.injEq] at hsame
    obtain ⟨-, -, -, hhouses, -, -, -, htx⟩ := hsame
    have hhouse : t.house h = s.house h := congrArg (fun v : Vector House 12 => v.get h) hhouses
    rw [hhouse]
    exact hs.2 (htx.symm.trans hidle)
  stop hp hs := ⟨(stopKept_recallable ..).stop hp hs.1, hs.2⟩

theorem withdrawable_fieldTake (hs : Withdrawable b h s) : Withdrawable b h (fieldTake s) := by
  by_cases hidle : s.field.tx = none
  · obtain ⟨q, hq⟩ := hs.2 hidle
    have hwaits : Recallable b h True anyPump (fun _ => False) s := ⟨hs.1.1, .inl ⟨trivial, ⟨q, hq⟩, fun _ _ _ => trivial⟩⟩
    have hsent (f : PortState) : Recallable b h True anyPump (fun _ => False) { s with field := f } :=
      hwaits.of_pumps rfl rfl rfl fun _ _ => rfl
    have htaken (e : DispEntry) (rest : List DispEntry) (n : Nat) :
        Withdrawable b h (takeDispatch e rest (setFieldRun n s)) :=
      ⟨recallable_takeDispatch e rest (hsent _), fun hnone => absurd hnone (busy_takeDispatch e rest _)⟩
    have hforwarded (f : List Byte) (fs : List (List Byte)) : Withdrawable b h (takeForwarded f fs s) :=
      ⟨(hs.1).of_field _, fun hnone => absurd hnone (Option.some_ne_none _)⟩
    unfold fieldTake
    split
    · exact hs
    · split
      · exact hs
      · exact htaken _ _ _
      · exact hforwarded _ _
      · split
        · exact htaken _ _ _
        · exact hforwarded _ _
  · rwa [fieldTake_busy hidle]

theorem holds_live_withdrawable : Ctx.live.Holds (Withdrawable b h) := fun _ hs => withdrawable_fieldTake hs

theorem stopKept_stopAll {I : State → Prop} (K : StopKept I) (hk : k.Holds I) (ps : List PumpId) (hs : I s) :
    I (ps.foldl (fun u p => stopRequest k p u) s) := kept_foldl (fun _ p => stopKept_stopRequest K hk p) ps hs

theorem recalled_dropStart : Recalled h (dropStart h s) := by
  refine ⟨?_, fun e he => ?_⟩
  · rw [dropStart, house_modHouse_same]
  · have hmem : e ∈ s.arbiter.requests.filter fun x => x.house ≠ h := he
    exact of_decide_eq_true (List.mem_filter.mp hmem).2

/-- The withdrawal under a protection leaves a recallable start recalled (R83). -/
theorem recalled_withdrawFlight (hs : AnyRecallable b h s) : Recalled h (withdrawFlight .live h s) := by
  obtain ⟨hown, ⟨-, ⟨q, hq⟩, -⟩ | hrecalled | ⟨p, -, hpending⟩⟩ := hs
  · rw [withdrawFlight, hq]
    exact recalled_dropStart
  · rw [withdrawFlight, hrecalled.1]
    exact hrecalled
  · have hundone : Past b h (undoCore p s) := past_iff.mpr (hpending.recalled hown (startEnds_undoCore p s))
    rw [withdrawFlight, hpending.start]
    dsimp only
    rw [withdrawStart, if_pos ⟨hpending.run, hpending.order⟩]
    have K := takeKept_past b h
    exact (past_iff.mp (grantKept_undoStart K.toGrantKept (holds_live_takeKept K) p hundone)).2

/-! ### A granted start undone (R83, R50) -/

/-- At a busy field port, with no request of the house in the list, its start in flight and one pump of it stand so. -/
structure StandsApart (b : State) (h : HouseId) (p : PumpId) (f : StartFlight) (q : Pump) (s : State) : Prop where
  own : OwnRequests b s
  unlisted : Unlisted h s
  busy : s.field.tx ≠ none
  start : (s.house h).start = f
  pump : s.pump p = q

/-- Stops and grants to other houses leave a pump that does not run as it stands. -/
theorem grantKept_standsApart {f : StartFlight} {q : Pump} (hp : (b.pumpE p).house = some h) (hq : q.run ≠ .running) :
    GrantKept (StandsApart b h p f q) where
  same {s t} hs hsame := by
    simp only [State.orderParts, Prod.mk.injEq] at hsame
    obtain ⟨htables, -, hpumps, hhouses, hrequests, -, -, htx⟩ := hsame
    have hhouse : t.house h = s.house h := congrArg (fun v : Vector House 12 => v.get h) hhouses
    have hpump : t.pump p = s.pump p := congrArg (fun v : Vector Pump 32 => v.get p) hpumps
    exact ⟨⟨htables.trans hs.own.1, by rw [hrequests]; exact hs.own.2⟩, by rw [Unlisted, hrequests]; exact hs.unlisted,
      by rw [htx]; exact hs.busy, by rw [hhouse]; exact hs.start, hpump.trans hs.pump⟩
  stop {s r} hr hs := by
    refine ⟨hs.own, hs.unlisted, hs.busy, hs.start, ?_⟩
    rw [pump_stopCore, if_neg, hs.pump]
    rintro rfl
    exact hq (hs.pump ▸ (commandedRunning_iff.mp hr).1)
  granted {s e} _ he hs := by
    have hmem := mem_of_winner s he
    have heh := hs.unlisted e hmem
    have hleft {x : Request} (hx : x ∈ (grantCore e s).arbiter.requests) : x ∈ s.arbiter.requests := by
      rw [requests_grantCore] at hx
      exact (List.mem_filter.mp hx).1
    refine ⟨⟨(recorded_grantCore s e).tables.trans hs.own.1, fun x hx => hs.own.2 x (hleft hx)⟩,
      fun x hx => hs.unlisted x (hleft hx), hs.busy, ?_, ?_⟩
    · rw [house_grantCore, if_neg (Ne.symm heh), hs.start]
    · rw [pump_grantCore, if_neg, hs.pump]
      rintro rfl
      exact heh (Option.some.inj ((hs.own.2 e hmem).symm.trans hp))

theorem holds_live_standsApart {f : StartFlight} {q : Pump} : Ctx.live.Holds (StandsApart b h p f q) :=
  holds_live_busy fun _ ht => ht.busy

/-- The withdrawal of a granted start still QUEUED undoes it, and keeps the pump's stop mark (R50). -/
theorem standsApart_withdrawFlight {q : Pump} (hp : (b.pumpE p).house = some h) (hrun : q.run = .startOrdered)
    (horder : q.order = .queued) (hs : StandsApart b h p (.granted p) q s) :
    ∃ q', q'.run = .stopped ∧ q'.stopMark = q.stopMark ∧ StandsApart b h p .none q' (withdrawFlight .live h s) := by
  have hends := startEnds_undoCore p s
  have hhouse : (s.pumpE p).house = some h := by rw [pumpE_eq_of_tables hs.own.1]; exact hp
  have hfield : (undoCore p s).field = s.field := by
    obtain ⟨ps, hs', hundo⟩ := undoCore_records p s
    rw [hundo]
  have hmark : ((undoCore p s).pump p).stopMark = q.stopMark := by rw [pump_undoCore, hs.pump]
  have hundone : StandsApart b h p .none ((undoCore p s).pump p) (undoCore p s) :=
    ⟨⟨hends.tables.trans hs.own.1, by rw [hends.requests]; exact hs.own.2⟩,
      by rw [Unlisted, hends.requests]; exact hs.unlisted, by rw [hfield]; exact hs.busy,
      hends.ended h hhouse (.inl hs.start), rfl⟩
  refine ⟨_, hends.stopped, hmark, ?_⟩
  rw [withdrawFlight, hs.start]
  dsimp only
  rw [withdrawStart, hs.pump, if_pos ⟨hrun, horder⟩]
  refine grantKept_undoStart (grantKept_standsApart hp ?_) holds_live_standsApart p hundone
  rw [hends.stopped]
  exact RunState.noConfusion

/-! ### Every commanded pump stopped (R83) -/

/-- No pump of these runs under command. -/
def NoneRuns (B : PumpId → Prop) (s : State) : Prop := ∀ p, B p → (s.pump p).commandedRunning = false

theorem takeKept_noneRuns (B : PumpId → Prop) : TakeKept (NoneRuns B) where
  same {s t} hs hsame p hp := by
    simp only [State.orderParts, Prod.mk.injEq] at hsame
    obtain ⟨-, -, hpumps, -⟩ := hsame
    have hpump : t.pump p = s.pump p := congrArg (fun v : Vector Pump 32 => v.get p) hpumps
    rw [hpump]
    exact hs p hp
  stop _ hs p hp := by
    rw [pump_stopCore]
    split
    · rfl
    · exact hs p hp
  granted _ _ hs p hp := by
    rw [pump_grantCore]
    split
    · rfl
    · exact hs p hp
  undone {s q} _ _ hs p hp := by
    have hends := startEnds_undoCore q s
    by_cases hpq : p = q
    · rw [hpq, Pump.commandedRunning, hends.stopped]
      rfl
    · rw [hends.others p hpq]
      exact hs p hp
  failed {s q} _ _ hs p hp := by
    have hends := startEnds_failCore q s
    by_cases hpq : p = q
    · rw [hpq, Pump.commandedRunning, hends.stopped]
      rfl
    · rw [hends.others p hpq]
      exact hs p hp
  taken {s q} _ hs p hp := by
    rw [pump_modPump]
    split
    · next hpq => rw [← hpq]; exact hs p hp
    · exact hs p hp
  sent _ hs := hs

theorem noneRuns_stopRequest {B : PumpId → Prop} (hs : NoneRuns B s) :
    NoneRuns (fun q => B q ∨ q = p) (stopRequest .live p s) := by
  have K := (takeKept_noneRuns fun q => B q ∨ q = p)
  unfold stopRequest
  split
  · have hstopped : NoneRuns (fun q => B q ∨ q = p) (stopCore p s) := fun q hq => by
      rw [pump_stopCore]
      split
      · rfl
      · next hne => exact hs q (hq.resolve_right hne)
    exact stopKept_derivePump K.toStopKept (holds_live_takeKept K) p
      (stopKept_markPump K.toStopKept p (stopKept_shed K.toStopKept (holds_live_takeKept K) hstopped))
  · next hrun =>
    rintro q (hq | rfl)
    · exact hs q hq
    · exact Bool.eq_false_iff.mpr hrun

/-- A stop request at each pump of a list leaves none of them running under command. -/
theorem noneRuns_stopAll (ps : List PumpId) {B : PumpId → Prop} (hs : NoneRuns B s) :
    NoneRuns (fun q => B q ∨ q ∈ ps) (ps.foldl (fun u p => stopRequest .live p u) s) := by
  induction ps generalizing s B with
  | nil => exact fun q hq => hs q (hq.resolve_right List.not_mem_nil)
  | cons p rest ih =>
    refine fun q hq => ih (noneRuns_stopRequest (p := p) hs) q ?_
    rcases hq with hq | hq
    · exact .inl (.inl hq)
    · exact (List.mem_cons.mp hq).imp_left .inr

/-- The stop of a house's runners leaves no pump of the house running under command (R83). -/
theorem noneRuns_runners : NoneRuns (fun p => (s.pumpE p).house = some h)
    ((s.runners h []).foldl (fun u p => stopRequest .live p u) s) := by
  have hothers : NoneRuns (fun p => (s.pumpE p).house = some h ∧ p ∉ s.runners h []) s := fun p ⟨hp, hnot⟩ => by
    refine Bool.eq_false_iff.mpr fun hruns => hnot ?_
    exact List.mem_filter.mpr ⟨mem_pumpsOf.mpr hp, by rw [hruns]; rfl⟩
  refine fun p hp => noneRuns_stopAll (s.runners h []) hothers p ?_
  by_cases hmem : p ∈ s.runners h []
  · exact .inr hmem
  · exact .inl ⟨hp, hmem⟩

theorem takeKept_withdrawFlight {I : State → Prop} (K : TakeKept I) (hdrop : ∀ {t}, I t → I (dropStart h t)) (hs : I s) :
    I (withdrawFlight .live h s) := by
  unfold withdrawFlight
  split
  · exact hs
  · exact hs
  · exact hdrop hs
  · next p hstart =>
    unfold withdrawStart
    split
    · next hqueued =>
      exact grantKept_undoStart K.toGrantKept (holds_live_takeKept K) p (K.undone hqueued.1 hqueued.2 hs)
    · exact hs

end

end Sys2Proof.Machine

/-! ## The protections: judged, and the record they leave (R80-R83) -/

namespace Sys2Proof.Machine

section

variable {s t u : State} {h : HouseId} {k : Ctx}

/-! ### The latch and the overflow condition at a change (R81, R82) -/

theorem judgeSuction_cases {r : ResId} (hr : (s.houseE h).suction = some r) (hu : (s.res r).source.usable = true) {now : Bool}
    (hnow : dryNext (s.house h).dryLatch (s.res r).level (s.resE r) = now) :
    let t := modHouse h (fun x => { x with dryLatch := now }) s
    ((s.house h).dryLatch = false → now = true →
      judgeSuction h s = raise .dryRunTrip h.val (some (s.res r).level) .none t)
    ∧ ((s.house h).dryLatch = true → now = false → judgeSuction h s = clear .dryRunTrip h.val t)
    ∧ ((s.house h).dryLatch = now → judgeSuction h s = s) := by
  intro t
  have hjudged := judgeSuction_known hr hu
  dsimp only at hjudged
  rw [hnow] at hjudged
  refine ⟨fun hwas hset => ?_, fun hwas hset => ?_, fun hsame => ?_⟩
  · rw [hjudged, hwas, hset]
    simp [t, hset]
  · rw [hjudged, hwas, hset]
    simp [t, hset]
  · have hfixed : modHouse h (fun x => { x with dryLatch := now }) s = s := modHouse_of_fixed (by rw [← hsame])
    rw [hjudged, hsame, hfixed]
    cases now <;> rfl

theorem judgeOverflow_cases {now : Bool} (hnow : s.overflows h = now) :
    let r := (s.houseE h).delivery
    let t := modHouse h (fun x => { x with overflow := now }) s
    ((s.house h).overflow = false → now = true →
      judgeOverflow h s = raise .overflowHigh r.val (some (s.res r).level) .none t)
    ∧ ((s.house h).overflow = true → now = false → judgeOverflow h s = clear .overflowHigh r.val t)
    ∧ ((s.house h).overflow = now → judgeOverflow h s = s) := by
  intro r t
  unfold judgeOverflow
  dsimp only
  rw [hnow]
  refine ⟨fun hwas hset => ?_, fun hwas hset => ?_, fun hsame => ?_⟩
  · rw [hwas, hset]
    simp [t, r, hset, State.deliveryLevel]
  · rw [hwas, hset]
    simp [t, r, hset]
  · have hfixed : modHouse h (fun x => { x with overflow := now }) s = s := modHouse_of_fixed (by rw [← hsame])
    rw [hsame, hfixed]
    cases now <;> rfl

/-! ### The protection that holds first (R83) -/

theorem protection_suctionLost {r : ResId} (hr : (s.houseE h).suction = some r) (hu : (s.res r).source.usable = false) :
    (s.judged h).protection = .suctionLost := by
  simp [State.judged, State.protectionFor, hr, hu]

theorem protection_dryTrip {r : ResId} (hr : (s.houseE h).suction = some r) (hu : (s.res r).source.usable = true)
    (hdry : s.dryJudged h = true) : (s.judged h).protection = .dryTrip := by
  simp [State.judged, State.protectionFor, hr, hu, hdry]

theorem protection_overflow (hspill : s.overflows h = true)
    (hsuction : ∀ r, (s.houseE h).suction = some r → (s.res r).source.usable = true ∧ s.dryJudged h = false) :
    (s.judged h).protection = .overflow := by
  cases hr : (s.houseE h).suction with
  | none => simp [State.judged, State.protectionFor, hr, hspill]
  | some r =>
    obtain ⟨hu, hclear⟩ := hsuction r hr
    simp [State.judged, State.protectionFor, hr, hu, hclear, hspill]

theorem dryJudged_none (hr : (s.houseE h).suction = none) : s.dryJudged h = (s.house h).dryLatch := by
  rw [State.dryJudged, hr]

theorem dryJudged_unknown {r : ResId} (hr : (s.houseE h).suction = some r) (hu : (s.res r).source.usable = false) :
    s.dryJudged h = (s.house h).dryLatch := by
  simp [State.dryJudged, hr, hu]

/-- The protection is the first of the three that holds at the house (R83). -/
inductive Protects (s : State) (h : HouseId) : Protection → Prop
  | suctionLost {r : ResId} (hr : (s.houseE h).suction = some r) (hu : (s.res r).source.usable = false) :
    Protects s h .suctionLost
  | dryTrip {r : ResId} (hr : (s.houseE h).suction = some r) (hu : (s.res r).source.usable = true)
    (hdry : s.dryJudged h = true) : Protects s h .dryTrip
  | overflow (hspill : s.overflows h = true)
    (hsuction : ∀ r, (s.houseE h).suction = some r → (s.res r).source.usable = true ∧ s.dryJudged h = false) :
    Protects s h .overflow

theorem Protects.judged {P : Protection} (hP : Protects s h P) : (s.judged h).protection = P := by
  cases hP with
  | suctionLost hr hu => exact protection_suctionLost hr hu
  | dryTrip hr hu hdry => exact protection_dryTrip hr hu hdry
  | overflow hspill hsuction => exact protection_overflow hspill hsuction

theorem Protects.ne_none {P : Protection} (hP : Protects s h P) : P ≠ .none := by
  cases hP <;> exact Protection.noConfusion

/-- The dry latch under each protection: kept where no usable suction level is there, set, and clear (R81). -/
theorem Protects.dryJudged {P : Protection} (hP : Protects s h P) :
    ((s.houseE h).suction = none ∨ P = .suctionLost → s.dryJudged h = (s.house h).dryLatch)
    ∧ (P = .dryTrip → s.dryJudged h = true)
    ∧ (P = .overflow → (s.houseE h).suction ≠ none → s.dryJudged h = false) := by
  refine ⟨fun hkept => hkept.elim dryJudged_none fun hlost => ?_, fun hdry => ?_, fun hover hsuction => ?_⟩
  · subst hlost
    cases hP with
    | suctionLost hr hu => exact dryJudged_unknown hr hu
  · subst hdry
    cases hP with
    | dryTrip _ _ hdry => exact hdry
  · subst hover
    obtain ⟨r, hr⟩ := Option.ne_none_iff_exists'.mp hsuction
    cases hP with
    | overflow _ hclear => exact (hclear r hr).2

/-! ### A house under a protection (R83) -/

/-- A record under a protection, before its pumps are stopped. -/
def House.idled (x : House) : House :=
  { x with target := 0, need := .none, change := .none, wait := ⟨.none, none⟩, rotMark := none }

/-- The house's pumps stopped, each that runs under command. -/
def stopAll (k : Ctx) (h : HouseId) (s : State) : State := (s.runners h []).foldl (fun u p => stopRequest k p u) s

theorem protect_eq (k : Ctx) (s : State) : protect k h s = withdrawFlight k h (stopAll k h (modHouse h House.idled s)) := rfl

theorem apartOrders_withdrawFlight (hk : k.Keeps) : (withdrawFlight k h s).apartOrders = s.apartOrders := by
  unfold withdrawFlight
  split
  · rfl
  · rfl
  · unfold dropStart
    rw [apartOrders_modHouse _ _ _ rfl, apartOrders_dropRequest]
  · exact apartOrders_withdrawStart s hk _

theorem apartOrders_protect (hk : k.Keeps) : (protect k h s).apartOrders = (modHouse h House.idled s).apartOrders := by
  rw [protect_eq, apartOrders_withdrawFlight hk]
  exact apartOrders_stopAll _ hk _

/-- The end of an evaluation under a protection: D and the phase by the level, HOUSE_SHORT, and the timers (R80). -/
def endProtected (h : HouseId) (s : State) : State :=
  timeStagger h (timeRotation h (setShort h false (setDemand h s)))

theorem evaluate_protected (hprotection : (s.judged h).protection ≠ .none) :
    evaluate k h s = endProtected h (protect k h (judge h s)) := by
  unfold evaluate
  dsimp only
  rw [house_judge, if_pos hprotection]
  rfl

theorem demanded_protected (x : House) (hx : x.protection ≠ .none) :
    s.demanded h x = { x with stages := s.stagesSet h x, target := 0, need := .none } := by
  simp [State.demanded, State.targeted, State.targetSet, State.needSet, hx]

theorem apartAlarms_setShort (now : Bool) (s : State) :
    (setShort h now s).apartAlarms = (modHouse h (fun x => { x with short := now }) s).apartAlarms := by
  unfold setShort
  dsimp only
  split
  · exact apartAlarms_raise ..
  · split
    · exact apartAlarms_clear ..
    · rfl

/-- The timers of a house without a rotation mark and without a wait: an expiry of this second still comes. -/
def House.untimed (x : House) (now : Second) : House :=
  { x with
    rotAt := if x.rotAt = some now then some now else none
    staggerAt := if x.staggerAt = some now then some now else none }

theorem timeRotation_markless (hmark : (s.house h).rotMark = none) : timeRotation h s
    = modHouse h (fun x => { x with rotAt := if x.rotAt = some s.now then some s.now else none }) s := by
  unfold timeRotation
  refine modHouse_congr ?_
  rw [hmark]
  split
  · next hnow => rw [hnow]
  · rfl

theorem timeStagger_waitless (hwait : (s.house h).wait = ⟨.none, none⟩) : timeStagger h s
    = modHouse h (fun x => { x with staggerAt := if x.staggerAt = some s.now then some s.now else none }) s := by
  unfold timeStagger
  refine modHouse_congr ?_
  rw [hwait]
  split
  · next hnow => rw [hnow]
  · rfl

theorem timers_untimed (hmark : (s.house h).rotMark = none) (hwait : (s.house h).wait = ⟨.none, none⟩) :
    timeStagger h (timeRotation h s) = modHouse h (fun x => x.untimed s.now) s := by
  rw [timeRotation_markless hmark, timeStagger_waitless (by rw [house_modHouse_same]; exact hwait), modHouse_modHouse]
  rfl

/-- What the end of an evaluation leaves of a house under a protection, and of the pumps and the arbiter. -/
theorem endProtected_sets (hprotection : (s.house h).protection ≠ .none) (hmark : (s.house h).rotMark = none)
    (hwait : (s.house h).wait = ⟨.none, none⟩) : ∃ len,
    (endProtected h s).house h = House.untimed { s.house h with
      stages := s.stagesSet h (s.house h), target := 0, need := .none, short := false
      phase := (s.phaseSet h).1, phaseMark := (s.phaseSet h).2, phaseLen := len } s.now
    ∧ (endProtected h s).pumps = s.pumps ∧ (endProtected h s).arbiter = s.arbiter := by
  obtain ⟨len, ms, hdemand⟩ := setDemand_sets (entersPhase_judgePhase (s := s) (h := h))
  have hset : (setDemand h s).house h = { s.house h with
      stages := s.stagesSet h (s.house h), target := 0, need := .none
      phase := (s.phaseSet h).1, phaseMark := (s.phaseSet h).2, phaseLen := len } := by
    have hrecord := house_modHouse_same s h fun x => s.demanded h { x with
      phase := (s.phaseSet h).1, phaseMark := (s.phaseSet h).2, phaseLen := len }
    rw [hdemand]
    refine hrecord.trans (demanded_protected _ ?_)
    exact hprotection
  have hshort := apartAlarms_setShort (h := h) false (setDemand h s)
  have hhouse := house_of_apartAlarms hshort h
  rw [house_modHouse_same, hset] at hhouse
  have hnow : (setShort h false (setDemand h s)).now = s.now := by
    rw [now_of_apartAlarms hshort, hdemand]
    rfl
  have hpumps : (setShort h false (setDemand h s)).pumps = s.pumps := by
    rw [pumps_of_apartAlarms hshort, hdemand]
    rfl
  have harbiter : (setShort h false (setDemand h s)).arbiter = s.arbiter := by
    rw [arbiter_of_apartAlarms hshort, hdemand]
    rfl
  have htimers : endProtected h s = _ := timers_untimed (by rw [hhouse]; exact hmark) (by rw [hhouse]; exact hwait)
  refine ⟨len, ?_, by rw [htimers]; exact hpumps, by rw [htimers]; exact harbiter⟩
  rw [htimers, house_modHouse_same, hhouse, hnow]

end

end Sys2Proof.Machine

/-! ## The protections settled (R80-R83) -/

namespace Sys2Proof.Machine

section

variable {s : State} {h : HouseId} {p : PumpId} {k : Ctx}

/-! ### What the protection leaves (R83) -/

/-- The state in which a protection begins to stop the pumps of a house (R83). -/
def protecting (h : HouseId) (s : State) : State := modHouse h House.idled (judge h s)

theorem protect_judge (k : Ctx) (s : State) :
    protect k h (judge h s) = withdrawFlight k h (stopAll k h (protecting h s)) := rfl

theorem protecting_apart : (protecting h s).apartAlarms = (modHouse h (fun _ => (s.judged h).idled) s).apartAlarms := by
  rw [protecting, modHouse_apartAlarms _ judge_apart, modHouse_modHouse]

theorem house_protecting : (protecting h s).house h = (s.judged h).idled := by
  rw [house_of_apartAlarms protecting_apart, house_modHouse_same]

theorem tables_protecting : (protecting h s).tables = s.tables := (tables_of_apartAlarms protecting_apart).trans rfl

theorem arbiter_protecting : (protecting h s).arbiter = s.arbiter := (arbiter_of_apartAlarms protecting_apart).trans rfl

theorem field_protecting : (protecting h s).field = s.field := (field_of_apartAlarms protecting_apart).trans rfl

theorem pump_protecting (p : PumpId) : (protecting h s).pump p = s.pump p :=
  (pump_of_apartAlarms protecting_apart p).trans rfl

theorem ownRequests_protecting (hown : ∀ e ∈ s.arbiter.requests, (s.pumpE e.pump).house = some e.house) :
    OwnRequests s (protecting h s) := ⟨tables_protecting, by rw [arbiter_protecting]; exact hown⟩

/-- A requested start is recalled under a protection (R83). -/
theorem recalled_protect {q : PumpId} (hstart : (s.house h).start = .requested q)
    (hown : ∀ e ∈ s.arbiter.requests, (s.pumpE e.pump).house = some e.house) :
    Recalled h (protect .live h (judge h s)) := by
  have hrequested : ((protecting h s).house h).start = .requested q := by
    rw [house_protecting]
    exact hstart
  have hbegin : Withdrawable s h (protecting h s) :=
    ⟨⟨ownRequests_protecting hown, .inl ⟨trivial, ⟨q, hrequested⟩, fun _ _ _ => trivial⟩⟩, fun _ => ⟨q, hrequested⟩⟩
  rw [protect_judge]
  exact recalled_withdrawFlight (stopKept_stopAll (stopKept_withdrawable s h) holds_live_withdrawable _ hbegin).1

/-- A granted start still QUEUED at a busy field port is undone under a protection (R83, R50). -/
theorem undone_protect (hstart : (s.house h).start = .granted p) (hp : (s.pumpE p).house = some h)
    (hrun : (s.pump p).run = .startOrdered) (horder : (s.pump p).order = .queued) (hbusy : s.field.tx ≠ none)
    (hlist : ∀ e ∈ s.arbiter.requests, (s.pumpE e.pump).house = some e.house ∧ e.house ≠ h) :
    let t := protect .live h (judge h s)
    (t.house h).start = .none ∧ (t.pump p).run = .stopped ∧ (t.pump p).stopMark = (s.pump p).stopMark := by
  have hbegin : StandsApart s h p (.granted p) (s.pump p) (protecting h s) :=
    ⟨ownRequests_protecting fun e he => (hlist e he).1,
      by rw [Unlisted, arbiter_protecting]; exact fun e he => (hlist e he).2,
      by rw [field_protecting]; exact hbusy, by rw [house_protecting]; exact hstart, pump_protecting p⟩
  have K := grantKept_standsApart (f := .granted p) hp (by rw [hrun]; exact RunState.noConfusion)
  have hstopped := stopKept_stopAll K.toStopKept holds_live_standsApart ((protecting h s).runners h []) hbegin
  obtain ⟨q, hq, hmark, hend⟩ := standsApart_withdrawFlight hp hrun horder hstopped
  intro t
  have hpump : t.pump p = q := hend.pump
  exact ⟨hend.start, by rw [hpump, hq], by rw [hpump, hmark]⟩

/-- No pump of a house under a protection is left running under command (R83). -/
theorem noneRuns_protect : NoneRuns (fun p => (s.pumpE p).house = some h) (protect .live h (judge h s)) := by
  have hstopped : NoneRuns (fun p => (s.pumpE p).house = some h) (stopAll .live h (protecting h s)) := fun p hp =>
    noneRuns_runners (s := protecting h s) p 
      ((congrArg PumpEntry.house (pumpE_eq_of_tables tables_protecting p)).trans hp)
  rw [protect_judge]
  exact takeKept_withdrawFlight (takeKept_noneRuns _) (fun ht => ht) hstopped

theorem deliveryUsable_of_same {t : State} (htables : t.tables = s.tables) (hres : t.reservoirs = s.reservoirs) :
    t.deliveryUsable h = s.deliveryUsable h := by
  cases s
  cases t
  cases htables
  cases hres
  rfl

/-- The record of a house after an evaluation under a protection, apart from the start in flight, and where the evaluation
leaves that start, the pumps and the arbiter (R80, R83). -/
theorem evaluate_protected_record (hk : k.Keeps) (hprotection : (s.judged h).protection ≠ .none) : ∃ ph : Phase × Option Second,
    ∃ len, (s.deliveryUsable h = true → ph = (.none, none))
    ∧ ((evaluate k h s).house h).apartStart = (House.untimed { (s.judged h).idled with
        stages := s.stagesSet h (s.house h), short := false
        phase := ph.1, phaseMark := ph.2, phaseLen := len } s.now).apartStart
    ∧ ((evaluate k h s).house h).start = ((protect k h (judge h s)).house h).start
    ∧ (evaluate k h s).pumps = (protect k h (judge h s)).pumps
    ∧ (evaluate k h s).arbiter = (protect k h (judge h s)).arbiter := by
  have hcascade : (protect k h (judge h s)).apartOrders
      = (modHouse h (fun _ => (s.judged h).idled) s).apartOrders :=
    (apartOrders_protect hk).trans (apartOrders_of_apartAlarms protecting_apart)
  rw [evaluate_protected hprotection]
  generalize protect k h (judge h s) = u at hcascade
  have hhouse := house_of_apartOrders hcascade h
  have hprot := house_protection_of_apartOrders hcascade h
  have hmark := house_rotMark_of_apartOrders hcascade h
  have hwait := house_wait_of_apartOrders hcascade h
  have hcount := house_stages_of_apartOrders hcascade h
  rw [house_modHouse_same] at hhouse hprot hmark hwait hcount
  have htables : u.tables = s.tables := (tables_of_apartOrders hcascade).trans rfl
  have hreservoirs := congrArg State.reservoirs hcascade
  have hperiod := congrArg State.period hcascade
  have hnow : u.now = s.now := (now_of_apartOrders hcascade).trans rfl
  have hstages : u.stagesSet h (u.house h) = s.stagesSet h (s.house h) := by
    have hsame := demanded_of_same (h := h) htables hreservoirs hperiod
    calc u.stagesSet h (u.house h) = (u.demanded h (u.house h)).stages := rfl
      _ = s.stagesSet h (u.house h) := by rw [hsame]; rfl
      _ = s.stagesSet h (s.house h) := by
        unfold State.stagesSet
        rw [hcount]
        rfl
  obtain ⟨len, hrecord, hpumps, harbiter⟩ := endProtected_sets (by rw [hprot]; exact hprotection) hmark hwait
  rw [hnow, hstages] at hrecord
  refine ⟨u.phaseSet h, len, fun hu => if_pos ((deliveryUsable_of_same htables hreservoirs).trans hu), ?_, ?_, hpumps,
    harbiter⟩
  · rw [hrecord]
    have hrest := congrArg (fun x : House => (House.untimed { x with
      stages := s.stagesSet h (s.house h), target := 0, need := .none, short := false
      phase := (u.phaseSet h).1, phaseMark := (u.phaseSet h).2, phaseLen := len } s.now).apartStart) hhouse
    exact hrest
  · rw [hrecord]
    rfl

/-- Settles O59: steps 1 and 2 judge the protections, and under one the house's record, its pumps and its start in flight
are as the protection, the end of the evaluation and the cascade of orders between them leave them. -/
theorem suctionLostStops : Obligations.SuctionLostStops := by
  intro h s x d known latch spills
  have hlatch (r : ResId) : dryNext x.dryLatch (s.res r).level (s.resE r) = decide (latch r) := by
    rw [Bool.eq_iff_iff, dryNext_iff, decide_eq_true_iff]
  have hspills : s.overflows h = decide spills := by
    rw [Bool.eq_iff_iff, overflows_iff, decide_eq_true_iff]
  have hdryJudged {r : ResId} (hr : (s.houseE h).suction = some r) (hknown : known r) : s.dryJudged h = decide (latch r) :=
    (dryJudged_known hr (usable_iff.mpr hknown)).trans (hlatch r)
  have hunknown {r : ResId} (hr : ¬known r) : (s.res r).source.usable = false := Bool.eq_false_iff.mpr (mt usable_iff.mp hr)
  refine ⟨judgeSuction_none, fun r hr => ⟨fun hlost => judgeSuction_unknown hr (hunknown hlost), fun hknown => ?_⟩, ?_,
    fun P hP hmark hengine hused hmode => ?_⟩
  · obtain ⟨hset, hcleared, hkept⟩ := judgeSuction_cases hr (usable_iff.mpr hknown) (hlatch r)
    exact ⟨fun ⟨hwas, hdry⟩ => hset hwas (decide_eq_true hdry), fun ⟨hwas, hwet⟩ => hcleared hwas (decide_eq_false hwet),
      fun hsame => hkept (Bool.eq_iff_iff.mpr (hsame.trans decide_eq_true_iff.symm))⟩
  · obtain ⟨hset, hcleared, hkept⟩ := judgeOverflow_cases hspills
    exact ⟨fun ⟨hwas, hover⟩ => hset hwas (decide_eq_true hover), fun ⟨hwas, hunder⟩ => hcleared hwas (decide_eq_false hunder),
      fun hsame => hkept (Bool.eq_iff_iff.mpr (hsame.trans decide_eq_true_iff.symm))⟩
  · have hprotects : Protects s h P := by
      rcases hP with ⟨rfl, r, hr, hlost⟩ | ⟨rfl, r, hr, hknown, hdry⟩ | ⟨rfl, hover, hclear⟩
      · exact .suctionLost hr (hunknown hlost)
      · exact .dryTrip hr (usable_iff.mpr hknown) ((hdryJudged hr hknown).trans (decide_eq_true hdry))
      · refine .overflow (hspills.trans (decide_eq_true hover)) fun r hr => ?_
        obtain ⟨hknown, hwet⟩ := hclear r hr
        exact ⟨usable_iff.mpr hknown, (hdryJudged hr hknown).trans (decide_eq_false hwet)⟩
    have hprotection : (s.judged h).protection ≠ .none := by
      rw [hprotects.judged]
      exact hprotects.ne_none
    obtain ⟨hlatchKept, hlatchSet, hlatchClear⟩ := hprotects.dryJudged
    let taken : State := { s with marks := s.marks.erase h }
    have hexec : exec (.houseEvaluation h) s = .next (evaluate .live h taken) :=
      congrArg Host.Outcome.next (takeHouseMark_active hmark ⟨hengine, hused, hmode⟩)
    obtain ⟨ph, len, hph, hrecord, hstart, hpumps, harbiter⟩ :=
      evaluate_protected_record (s := taken) keeps_live hprotection
    have hapart : (evaluate .live h taken).apartHouse h = s.apartHouse h := (apartHouse_evaluate taken h keeps_live).trans rfl
    have hstops := noneRuns_protect (s := taken) (h := h)
    have hrecalls {q : PumpId} := recalled_protect (s := taken) (h := h) (q := q)
    have hundoes {p : PumpId} := undone_protect (s := taken) (h := h) (p := p)
    generalize evaluate .live h taken = t at hexec hrecord hstart hpumps harbiter hapart
    generalize protect .live h (judge h taken) = u at hstart hpumps harbiter hstops hrecalls hundoes
    have hpump (p : PumpId) : t.pump p = u.pump p := congrArg (fun v : Vector Pump 32 => v.get p) hpumps
    have hlatched : (t.house h).dryLatch = s.dryJudged h := (congrArg House.dryLatch hrecord :)
    have hoverflow : (t.house h).overflow = s.overflows h := (congrArg House.overflow hrecord :)
    refine ⟨t, hexec, (congrArg House.protection hrecord :).trans hprotects.judged, (congrArg House.target hrecord :),
      (congrArg House.need hrecord :), (congrArg House.change hrecord :), (congrArg House.wait hrecord :),
      (congrArg House.rotMark hrecord :), (congrArg House.rotAt hrecord :), (congrArg House.staggerAt hrecord :),
      (congrArg House.short hrecord :), ?_, fun hkept => hlatched.trans (hlatchKept hkept),
      fun hdry => hlatched.trans (hlatchSet hdry), fun hover hsuction => hlatched.trans (hlatchClear hover hsuction),
      (congrArg House.stages hrecord :).trans (if_congr deliveryUsable_iff rfl rfl), fun hknown => ?_,
      fun p hp hrun => ?_, fun q hrequested hown => ?_, fun p hgranted hp hrun horder hbusy hlist => ?_, hapart⟩
    · rw [hoverflow, overflows_iff]
    · have hnone := hph (deliveryUsable_iff.mpr hknown)
      exact ⟨(congrArg House.phase hrecord :).trans (congrArg Prod.fst hnone),
        (congrArg House.phaseMark hrecord :).trans (congrArg Prod.snd hnone)⟩
    · have hstopped := hstops p hp
      rw [← hpump p, Pump.commandedRunning, hrun] at hstopped
      exact hstopped
    · obtain ⟨hnone, hunlisted⟩ := hrecalls hrequested hown
      exact ⟨hstart.trans hnone, fun e he => hunlisted e (harbiter ▸ he)⟩
    · obtain ⟨hnone, hstopped, hstopMark⟩ := hundoes hgranted hp hrun horder hbusy hlist
      rw [hpump p]
      exact ⟨hstart.trans hnone, hstopped, hstopMark⟩

end

end Sys2Proof.Machine

/-! ## The grant window and BUDGET_OVER (R123, R132) -/

namespace Sys2Proof.Machine

section

variable {s : State}

/-- The window opens below the budget less the margin, where a margin above the budget leaves no load below it (R123). -/
theorem windowFor_eq (load budget margin : Nat) (held : Window) : windowFor load budget margin held
    = if budget ≤ load then .closed else if (load : Int) < (budget : Int) - (margin : Int) then .isOpen else held := by
  have hopen : load + margin < budget ↔ (load : Int) < (budget : Int) - (margin : Int) := by omega
  rw [windowFor, if_congr hopen rfl rfl]

/-- The state with its window recomputed by the table of R123. -/
def windowSet (s : State) : State :=
  { s with arbiter := { s.arbiter with window := windowFor s.siteLoad s.budget s.site.budgetMargin s.arbiter.window } }

/-- The state with its BUDGET_OVER condition as it now holds (R132). -/
def overSet (s : State) : State := modArbiter (fun a => { a with overBudget := decide (s.budget < s.siteLoad) }) s

theorem recompute_eq_testOver (s : State) : recompute s = testOver (windowSet s) := rfl

theorem testOver_raise (hload : s.budget < s.siteLoad) (hwas : s.arbiter.overBudget = false) :
    testOver s = raise .budgetOver 0 (some s.siteLoad) .none (overSet s) := by
  rw [testOver, if_pos hload, hwas, overSet, decide_eq_true hload]
  rfl

theorem testOver_clear (hload : s.siteLoad ≤ s.budget) (hwas : s.arbiter.overBudget = true) :
    testOver s = clear .budgetOver 0 (overSet s) := by
  rw [testOver, if_neg hload.not_gt, hwas, overSet, decide_eq_false hload.not_gt]
  rfl

/-- Where the condition holds as before, nothing is raised or cleared. -/
theorem testOver_held (hheld : s.budget < s.siteLoad ↔ s.arbiter.overBudget = true) : testOver s = overSet s := by
  have hset : overSet s = s := by
    have hover : decide (s.budget < s.siteLoad) = s.arbiter.overBudget := by
      rw [Bool.eq_iff_iff, decide_eq_true_iff, hheld]
    rw [overSet, hover]
    rfl
  rw [hset, testOver]
  split
  · next hload => rw [hheld.mp hload]; rfl
  · next hload => rw [Bool.eq_false_iff.mpr (mt hheld.mpr hload)]; rfl

/-- Settles O53: the window by the table of R123, then the three cases of the test of BUDGET_OVER. -/
theorem windowAndOver : Obligations.WindowAndOver := by
  intro s load budget u
  have hset : overSet (windowSet s) = u := by
    rw [windowSet, windowFor_eq]
    rfl
  rw [← hset, recompute_eq_testOver]
  exact ⟨testOver_raise (s := windowSet s), testOver_clear (s := windowSet s), testOver_held (s := windowSet s)⟩

end

end Sys2Proof.Machine

/-! ## The winner of a consideration, and the request list (R118-R126) -/

namespace Sys2Proof.Machine

section

variable {s : State} {e : Request} {h : HouseId}

/-! ### The fit of a request (R125) -/

theorem countFits_iff : s.countFits e = true ↔ s.commandedCount e.house + 1 ≤ (s.houseE e.house).maxRun
    ∨ (s.commandedCount e.house + 1 ≤ (s.houseE e.house).maxRun + 1
      ∧ ∃ old, (s.house e.house).change = .startingNew old e.pump) := by
  unfold State.countFits
  cases (s.house e.house).change with
  | startingNew old new =>
    by_cases hnew : new = e.pump
    · simpa [hnew] using Nat.le_of_succ_le
    · simp [hnew]
  | none => simp
  | stoppingOld => simp

theorem powerFits_iff : s.powerFits e = true
    ↔ (e.effective = .emergency ∧ s.siteLoad + e.power ≤ s.site.siteLimit)
      ∨ (s.arbiter.window = .isOpen ∧ s.siteLoad + e.power ≤ s.budget) := by
  simp only [State.powerFits, Bool.or_eq_true, Bool.and_eq_true, beq_iff_eq, decide_eq_true_iff]

/-- An entry fits where it passes the three tests. -/
theorem fits_iff : s.fits e = true
    ↔ s.eligible e.pump = true ∧ s.countFits e = true ∧ s.powerFits e = true := by
  unfold State.fits State.unfit
  cases s.eligible e.pump <;> cases s.countFits e <;> cases s.powerFits e <;> decide

/-! ### The winner (R126) -/

/-- The first entry of the highest effective urgency among those of a list that pass a test. -/
def FirstBest (P : Request → Bool) (rs : List Request) (e : Request) : Prop :=
  ∃ l l', rs = l ++ e :: l' ∧ P e = true
    ∧ (∀ x ∈ l, P x = true → x.effective.rank < e.effective.rank)
    ∧ ∀ x ∈ l', P x = true → x.effective.rank ≤ e.effective.rank

theorem FirstBest.mem {P : Request → Bool} {rs : List Request} (hbest : FirstBest P rs e) : e ∈ rs ∧ P e = true := by
  obtain ⟨l, l', rfl, he, -, -⟩ := hbest
  exact ⟨by simp, he⟩

theorem FirstBest.le {P : Request → Bool} {rs : List Request} (hbest : FirstBest P rs e) {x : Request} (hx : x ∈ rs)
    (hP : P x = true) : x.effective.rank ≤ e.effective.rank := by
  obtain ⟨l, l', rfl, -, hbefore, hafter⟩ := hbest
  rcases List.mem_append.mp hx with hx | hx
  · exact (hbefore x hx hP).le
  · rcases List.mem_cons.mp hx with rfl | hx
    · exact le_rfl
    · exact hafter x hx hP

/-- A later entry that fails the test, or is of no higher urgency, leaves the first of the highest as it was. -/
theorem FirstBest.keep {P : Request → Bool} {rs : List Request} (hbest : FirstBest P rs e) {a : Request}
    (ha : P a = true → a.effective.rank ≤ e.effective.rank) : FirstBest P (rs ++ [a]) e := by
  obtain ⟨l, l', rfl, he, hbefore, hafter⟩ := hbest
  refine ⟨l, l' ++ [a], by simp, he, hbefore, fun x hx => ?_⟩
  rcases List.mem_append.mp hx with hx | hx
  · exact hafter x hx
  · exact List.mem_singleton.mp hx ▸ ha

/-- A last entry that passes, and is of a higher urgency than any other that does, is the first of the highest. -/
theorem firstBest_last {P : Request → Bool} {rs : List Request} (he : P e = true)
    (hlower : ∀ x ∈ rs, P x = true → x.effective.rank < e.effective.rank) : FirstBest P (rs ++ [e]) e :=
  ⟨rs, [], rfl, he, hlower, fun _ hx => absurd hx List.not_mem_nil⟩

/-- The fold that keeps the better of two entries finds none where none passes the test, else the first of the highest
effective urgency. The induction adds entries at the end of the list, as the fold meets them. -/
theorem foldl_betterRequest (P : Request → Bool) (rs : List Request) :
    ((rs.filter P).foldl betterRequest none = none ∧ ∀ x ∈ rs, P x ≠ true)
    ∨ ∃ e, (rs.filter P).foldl betterRequest none = some e ∧ FirstBest P rs e := by
  induction rs using List.reverseRecOn with
  | nil => exact .inl ⟨rfl, fun _ hx => absurd hx List.not_mem_nil⟩
  | append_singleton rs a ih =>
    rw [List.filter_append, List.foldl_append]
    by_cases ha : P a = true
    · rw [List.filter_cons_of_pos ha, List.filter_nil, List.foldl_cons, List.foldl_nil]
      rcases ih with ⟨hfold, hnone⟩ | ⟨b, hfold, hbest⟩
      · rw [hfold]
        exact .inr ⟨a, rfl, firstBest_last ha fun x hx hP => absurd hP (hnone x hx)⟩
      · rw [hfold]
        by_cases hlt : b.effective.rank < a.effective.rank
        · exact .inr ⟨a, if_pos hlt, firstBest_last ha fun x hx hP => (hbest.le hx hP).trans_lt hlt⟩
        · exact .inr ⟨b, if_neg hlt, hbest.keep fun _ => Nat.not_lt.mp hlt⟩
    · rw [List.filter_cons_of_neg ha, List.filter_nil, List.foldl_nil]
      rcases ih with ⟨hfold, hnone⟩ | ⟨b, hfold, hbest⟩
      · refine .inl ⟨hfold, fun x hx => ?_⟩
        rcases List.mem_append.mp hx with hx | hx
        · exact hnone x hx
        · exact List.mem_singleton.mp hx ▸ ha
      · exact .inr ⟨b, hfold, hbest.keep fun hP => absurd hP ha⟩

theorem firstBest_winner (he : s.winner = some e) : FirstBest (fun x => s.fits x) s.arbiter.requests e := by
  rcases foldl_betterRequest (fun x => s.fits x) s.arbiter.requests with ⟨hfold, -⟩ | ⟨b, hfold, hbest⟩
  · cases he.symm.trans hfold
  · cases he.symm.trans hfold
    exact hbest

theorem winner_none_iff : s.winner = none ↔ ∀ x ∈ s.arbiter.requests, s.fits x ≠ true := by
  rcases foldl_betterRequest (fun x => s.fits x) s.arbiter.requests with ⟨hfold, hnone⟩ | ⟨b, hfold, hbest⟩
  · exact iff_of_true hfold hnone
  · obtain ⟨hmem, hfits⟩ := hbest.mem
    exact iff_of_false (hfold ▸ Option.some_ne_none b :) fun hnone => hnone b hmem hfits

/-! ### The entry of a house in the list (R119, R120, R122) -/

theorem requestOf_absent (habsent : ∀ x ∈ s.arbiter.requests, x.house ≠ h) : s.requestOf h = none :=
  List.find?_eq_none.mpr fun x hx => by simpa using habsent x hx

section

variable {l l' : List Request} (hlist : s.arbiter.requests = l ++ e :: l') (he : e.house = h)
  (hothers : ∀ x ∈ l ++ l', x.house ≠ h)

include hlist he hothers

theorem requestOf_split : s.requestOf h = some e := by
  have hbefore : l.find? (fun x => x.house = h) = none :=
    List.find?_eq_none.mpr fun x hx => by simpa using hothers x (List.mem_append_left _ hx)
  rw [State.requestOf, hlist, List.find?_append, hbefore, List.find?_cons_of_pos (by simpa using he)]
  rfl

/-- An update of the entry of a house is made in its place, and the other entries stand. -/
theorem map_requests_split (f : Request → Request) :
    (s.arbiter.requests.map fun x => if x.house = h then f x else x) = l ++ f e :: l' := by
  have hkept (m : List Request) (hm : ∀ x ∈ m, x ∈ l ++ l') : (m.map fun x => if x.house = h then f x else x) = m :=
    (List.map_congr_left (g := id) fun x hx => if_neg (hothers x (hm x hx))).trans (List.map_id m)
  rw [hlist, List.map_append, List.map_cons, if_pos he, hkept l fun x hx => List.mem_append_left _ hx,
    hkept l' fun x hx => List.mem_append_right _ hx]

end

/-! ### Requests joined and updated (R119, R120) -/

/-- The state with its request list set. -/
def setRequests (rs : List Request) (s : State) : State := { s with arbiter := { s.arbiter with requests := rs } }

theorem placeRequest_absent (p : PumpId) (need : Urgency) (habsent : ∀ x ∈ s.arbiter.requests, x.house ≠ h) :
    placeRequest .live h p need s = consider .live
      (setRequests (s.arbiter.requests ++ [⟨h, p, (s.pumpE p).power, need, .rotate, s.now, s.now⟩]) s) := by
  unfold placeRequest
  rw [requestOf_absent habsent]
  rfl

theorem placeRequest_inPlace (p : PumpId) (need : Urgency) {l l' : List Request}
    (hlist : s.arbiter.requests = l ++ e :: l') (he : e.house = h) (hothers : ∀ x ∈ l ++ l', x.house ≠ h) :
    placeRequest .live h p need s = consider .live
      (setRequests (l ++ { e with pump := p, power := (s.pumpE p).power, need := need } :: l') s) := by
  rw [← map_requests_split hlist he hothers fun x => { x with pump := p, power := (s.pumpE p).power, need := need }]
  unfold placeRequest
  rw [requestOf_split hlist he hothers]
  rfl

/-- Settles O54: the winner is the first of the highest by the fold's induction, and a request joins or is updated by
whether its house has an entry. -/
theorem winnerBest : Obligations.WinnerBest := by
  intro s budget fit
  have hfit (x : Request) : s.fits x = true ↔ fit x :=
    fits_iff.trans (and_congr_right' (and_congr countFits_iff powerFits_iff))
  refine ⟨?_, consider_none, fun e he => ⟨?_, fun hrun hgap => consider_winner he hrun (reached_iff.mpr hgap)⟩,
    fun h p need => ⟨placeRequest_absent p need, fun l e l' => placeRequest_inPlace p need⟩⟩
  · rw [winner_none_iff]
    exact forall₂_congr fun x _ => not_congr (hfit x)
  · obtain ⟨l, l', hlist, hpasses, hbefore, hafter⟩ := firstBest_winner he
    exact ⟨l, l', hlist, (hfit e).mp hpasses, fun x hx hx' => hbefore x hx ((hfit x).mpr hx'),
      fun x hx hx' => hafter x hx ((hfit x).mpr hx')⟩

end

end Sys2Proof.Machine

/-! ## REQUEST_AGEING_EXPIRY (R122) -/

namespace Sys2Proof.Machine

section

variable {s : State} {e : Request} {h : HouseId}

theorem requestDue_absent (habsent : ∀ x ∈ s.arbiter.requests, x.house ≠ h) : s.requestDue h = false := by
  rw [State.requestDue, requestOf_absent habsent]

theorem requestDue_iff {l l' : List Request} (hlist : s.arbiter.requests = l ++ e :: l') (he : e.house = h)
    (hothers : ∀ x ∈ l ++ l', x.house ≠ h) : s.requestDue h = true ↔ s.site.age ≤ (s.now - e.ageMark).toNat := by
  rw [State.requestDue, requestOf_split hlist he hothers]
  exact reached_iff

theorem requestAged_inPlace {l l' : List Request} (hlist : s.arbiter.requests = l ++ e :: l') (he : e.house = h)
    (hothers : ∀ x ∈ l ++ l', x.house ≠ h) : requestAged h s
      = consider .live (setRequests (l ++ { e with aged := e.agedUp, ageMark := s.now } :: l') s) := by
  rw [← map_requests_split hlist he hothers fun x => { x with aged := x.agedUp, ageMark := s.now }]
  rfl

theorem exec_requestAgeingExpiry_due (hdue : s.requestDue h = true) :
    exec (.requestAgeingExpiry h) s = .next (requestAged h s) := congrArg Host.Outcome.next (if_pos hdue)

theorem exec_requestAgeingExpiry_idle (hidle : s.requestDue h ≠ true) : exec (.requestAgeingExpiry h) s = .next s :=
  congrArg Host.Outcome.next (if_neg hidle)

/-- Settles O56: the expiry ages the house's entry in its place where it is due, and does nothing otherwise. -/
theorem ageingTable : Obligations.AgeingTable := by
  intro h s urgency
  refine ⟨fun l e l' hlist he hothers => ⟨fun hage => ?_, fun hearly => ?_⟩, fun habsent => ?_⟩
  · rw [exec_requestAgeingExpiry_due ((requestDue_iff hlist he hothers).mpr hage),
      requestAged_inPlace hlist he hothers]
    rfl
  · exact exec_requestAgeingExpiry_idle (mt (requestDue_iff hlist he hothers).mp hearly.not_ge)
  · exact exec_requestAgeingExpiry_idle (Bool.eq_false_iff.mp (requestDue_absent habsent))

end

end Sys2Proof.Machine

/-! ## A good frame on the supervisory port (R147, R167, R173) -/

namespace Sys2Proof.Machine

section

variable {s : State} {dest : Byte} {h : HouseId}

/-- The house refused a COMMAND frame is the lowest of the active ones at the frame's station (R147). -/
theorem refusing_least (hactive : s.active h = true) (hstation : (s.houseE h).station = dest.toNat)
    (hleast : ∀ g, g < h → s.active g = true → (s.houseE g).station ≠ dest.toNat) : s.refusing dest = some h := by
  obtain ⟨before, after, hlist⟩ := List.append_of_mem (mem_allHouses h)
  have hascending : allHouses.Pairwise (· < ·) := List.pairwise_lt_finRange 12
  rw [hlist] at hascending
  refine List.find?_eq_some_iff_append.mpr ⟨by simp [hactive, hstation], before, after, hlist, fun g hg => ?_⟩
  have hlt : g < h := (List.pairwise_append.mp hascending).2.2 g hg h List.mem_cons_self
  simpa [imp_iff_not_or] using hleast g hlt

theorem refusing_none (hnone : ∀ g, s.active g = true → (s.houseE g).station ≠ dest.toNat) : s.refusing dest = none :=
  List.find?_eq_none.mpr fun g _ => by simpa [imp_iff_not_or] using hnone g

/-- The supervisory port after the CHECK byte of a good frame: in HUNT, with the frame counted (R165, R172). -/
def countedSupervisory (s : State) : State :=
  modPort .supervisory (fun q => { q with
    rx := .hunt, buf := [], counters := { q.counters with good := min (q.counters.good + 1) 65535 } }) s

/-- A good frame is routed by its bytes and records (R166). -/
theorem exec_supervisory {check : Byte} {rs : List Rec} (hrx : s.sup.rx = .check)
    (hsum : byteSum ((s.sup.buf ++ [check]).drop 1) % 256 = 0)
    (hwalk : walkRecords (((s.sup.buf ++ [check]).drop 5).dropLast) = some rs) :
    exec (.frameArrival .supervisory check) s
      = .next (routeSup (s.sup.buf ++ [check]) rs (countedSupervisory s)) := by
  have hgood : checkGood (s.sup.buf ++ [check]) = true := by rw [checkGood, hsum]; rfl
  have hrecords : walkRecords (frameRecords (s.sup.buf ++ [check])) = some rs := hwalk
  have hreceive : receiveByte .supervisory check s
      = judgeFrame .supervisory (s.sup.buf ++ [check]) (setRx .supervisory .hunt [] s) := by
    simp [receiveByte, State.port, hrx]
  have hjudge : judgeFrame .supervisory (s.sup.buf ++ [check]) (setRx .supervisory .hunt [] s)
      = routeSup (s.sup.buf ++ [check]) rs (countedSupervisory s) := by
    simp only [judgeFrame, hrecords, hgood, if_true]
    rfl
  exact congrArg Host.Outcome.next (hreceive.trans hjudge)

section

variable {bytes : List Byte} {rs : List Rec}

theorem routeSup_request (hkind : frameByte bytes 4 = kindRequest) (hdest : frameByte bytes 2 = s.ownAddr)
    (hvalid : s.addressValid = true) : routeSup bytes rs s = takeRequest rs s := if_pos ⟨hkind, hdest, hvalid⟩

/-- A COMMAND frame for a dispatched house is consumed with a refusal notice (R147). -/
theorem routeSup_command (hkind : frameByte bytes 4 = kindCommand) (hhouse : s.refusing (frameByte bytes 2) = some h) :
    routeSup bytes rs s = pushNotice (.refusal (frameByte bytes 2) (frameByte bytes 3) h s.now) s := by
  have hother : frameByte bytes 4 ≠ kindRequest := by rw [hkind]; decide
  rw [routeSup, if_neg fun hall => hother hall.1, if_pos hkind, hhouse]

/-- Every other frame is forwarded (R167). -/
theorem routeSup_other (hrequest : ¬(frameByte bytes 4 = kindRequest ∧ frameByte bytes 2 = s.ownAddr ∧ s.addressValid = true))
    (hcommand : frameByte bytes 4 = kindCommand → s.refusing (frameByte bytes 2) = none) :
    routeSup bytes rs s = forward .supervisory bytes s := by
  have hnone : (if frameByte bytes 4 = kindCommand then s.refusing (frameByte bytes 2) else none) = none := by
    split
    · next hkind => exact hcommand hkind
    · rfl
  rw [routeSup, if_neg hrequest, hnone]

end

/-- Settles O18: the frame is routed (`exec_supervisory`) as a request, a refused COMMAND, or one to forward. -/
theorem supervisoryRouting : Obligations.SupervisoryRouting := by
  intro check rs s bytes dest kind u commands hrx hsum hwalk
  rw [exec_supervisory hrx hsum hwalk]
  have hcommands (h : HouseId) : commands h ↔ kind = 0x02 ∧ u.active h = true ∧ (u.houseE h).station = dest.toNat := by
    rw [active_iff, and_assoc, and_assoc]
    rfl
  refine ⟨fun hkind hdest hvalid => ?_, fun h hh hleast => ?_, fun hnone hother => ?_⟩
  · exact congrArg Host.Outcome.next (routeSup_request hkind hdest hvalid)
  · obtain ⟨hkind, hactive, hstation⟩ := (hcommands h).mp hh
    have hrefusing : u.refusing dest = some h := refusing_least hactive hstation fun g hg hactive hsame =>
      hleast g hg ((hcommands g).mpr ⟨hkind, hactive, hsame⟩)
    exact congrArg Host.Outcome.next (routeSup_command hkind hrefusing)
  · refine congrArg Host.Outcome.next (routeSup_other (fun ⟨hkind, hdest, hvalid⟩ => ?_) fun hkind => ?_)
    · rcases hother with hne | hne | hinvalid
      · exact hne hkind
      · exact hne hdest
      · exact Bool.false_ne_true (hinvalid.symm.trans hvalid)
    · exact refusing_none fun g hactive hsame => hnone g ((hcommands g).mpr ⟨hkind, hactive, hsame⟩)

end

end Sys2Proof.Machine

/-! ## The suction guard at the take of an ORDERS entry (R136, R138, R139) -/

namespace Sys2Proof.Machine

section

variable {b s t u : State} {h : HouseId} {p : PumpId} {c : SlotId} {O : Vector Order 4}

/-! ### Starts that the guard leaves to stand -/

/-- A start that an earlier frame has taken and no completion has sent yet: the suction guard leaves it (R138). -/
def Pump.startHeld (q : Pump) : Prop := q.run = .startOrdered ∧ (q.order = .taken ∨ q.order = .none)

theorem startHeld_or_startOpen {q : Pump} (hrun : q.run = .startOrdered) : q.startHeld ∨ q.startOpen := by
  unfold Pump.startHeld Pump.startOpen
  cases q.order <;> simp [hrun]

theorem counted_iff {q : Pump} : q.counted = true ↔ q.run = .startOrdered ∨ (q.run = .running ∧ q.commanded = true) := by
  simp [Pump.counted, Pump.commandedRunning]

theorem not_counted_of_stopped {q : Pump} (hq : q.run = .stopped) : ¬q.counted = true := by simp [counted_iff, hq]

theorem not_counted_stopCore (p : PumpId) (s : State) : ¬((stopCore p s).pump p).counted = true := by
  rw [pump_stopCore, if_pos rfl, counted_iff]
  simp

theorem guardPump_startHeld (hp : (s.pump p).startHeld) : guardPump p s = s := by
  obtain ⟨hrun, horder | horder⟩ := hp <;> rw [guardPump, hrun, horder]

/-- The guard stops a pump that runs under command (R138). -/
theorem guardPump_running (hrun : (s.pump p).run = .running) (hcommanded : (s.pump p).commanded = true) :
    guardPump p s = markPump p (shed .quiet (stopCore p s)) := by
  rw [guardPump, hrun]
  exact if_pos hcommanded

theorem guardPump_idle (hp : ¬(s.pump p).counted = true) : guardPump p s = s := by
  rw [counted_iff, not_or] at hp
  obtain ⟨hstart, hrunning⟩ := hp
  unfold guardPump
  split
  · next hrun _ => exact absurd hrun hstart
  · next hrun _ => exact absurd hrun hstart
  · next hrun => exact if_neg fun hcommanded => hrunning ⟨hrun, hcommanded⟩
  · rfl

/-- A slot in RUN has a pump, not under local control, that is counted (R136). -/
theorem run_iff_counted : (s.ordersOf h).get c = .run
    ↔ ∃ p, s.pumpAt h c = some p ∧ (s.pump p).isLocal = false ∧ (s.pump p).counted = true := by
  rw [get_ordersOf]
  cases hp : s.pumpAt h c with
  | none => simp [slotOrder_empty hp]
  | some p =>
    rw [slotOrder_pump hp, Pump.order?]
    cases hlocal : (s.pump p).isLocal <;> cases hcounted : (s.pump p).counted <;> simp [hlocal, hcounted]

/-! ### The starts held since the guard began -/

/-- With the tables of `b`, every start held stood so at `b`. -/
structure HeldSince (b s : State) : Prop where
  tables : s.tables = b.tables
  held : ∀ p, (s.pump p).startHeld → (b.pump p).startHeld

/-- The end of a start makes none held. -/
theorem HeldSince.of_startEnds (hs : HeldSince b s) (ht : StartEnds p s t) : HeldSince b t := by
  refine ⟨ht.tables.trans hs.tables, fun q hq => ?_⟩
  by_cases hqp : q = p
  · rw [hqp, Pump.startHeld, ht.stopped] at hq
    cases hq.1
  · rw [ht.others q hqp] at hq
    exact hs.held q hq

theorem guardKept_heldSince (b : State) : GuardKept (HeldSince b) where
  same {s t} hs hsame := by
    simp only [State.orderParts, Prod.mk.injEq] at hsame
    obtain ⟨htables, -, hpumps, -⟩ := hsame
    have hpump (p : PumpId) : t.pump p = s.pump p := congrArg (fun v : Vector Pump 32 => v.get p) hpumps
    exact ⟨htables.trans hs.tables, fun p hp => hs.held p (by rwa [hpump] at hp)⟩
  stop {s p} _ hs := by
    refine ⟨hs.tables, fun q hq => hs.held q ?_⟩
    rw [pump_stopCore] at hq
    split at hq
    · cases hq.1
    · exact hq
  granted {s e} _ _ hs := by
    refine ⟨(recorded_grantCore s e).tables.trans hs.tables, fun q hq => hs.held q ?_⟩
    rw [pump_grantCore] at hq
    split at hq
    · obtain ⟨-, horder | horder⟩ := hq <;> cases horder
    · exact hq
  undone _ _ hs := hs.of_startEnds (startEnds_undoCore ..)
  failed _ _ hs := hs.of_startEnds (startEnds_failCore ..)

/-! ### The one start that the guard may let be granted (R124, log 16) -/

/-- A start has been granted in this second. -/
def GrantedNow (s : State) : Prop := s.arbiter.lastGrantMark = s.now

/-- With a grant gap and the tables of `u`: each counted pump satisfies `P`; or, where `W` lets a start be granted, one
has been in this second. Where `W` does not, the gap already bars another. -/
structure Barred (u : State) (W : Prop) (P : PumpId → Pump → Prop) (s : State) : Prop where
  tables : s.tables = u.tables
  gap : 1 ≤ s.site.grantGap
  bar : W ∨ GrantedNow s
  counted : (∀ p, (s.pump p).counted = true → P p (s.pump p)) ∨ (W ∧ GrantedNow s)

section

variable {W : Prop} {P : PumpId → Pump → Prop}

/-- A pump that is no longer counted has no part in it. -/
theorem Barred.of_pumps (hs : Barred u W P s) (htables : t.tables = s.tables) (hnow : t.now = s.now)
    (hmark : t.arbiter.lastGrantMark = s.arbiter.lastGrantMark)
    (hpump : ∀ p, (t.pump p).counted = true → t.pump p = s.pump p) : Barred u W P t := by
  have hgranted (hg : GrantedNow s) : GrantedNow t := (hmark.trans hg).trans hnow.symm
  have hsite : t.site = s.site := congrArg Tables.site htables
  refine ⟨htables.trans hs.tables, by rw [hsite]; exact hs.gap, hs.bar.imp_right hgranted,
    hs.counted.imp (fun hall p hp => ?_) (And.imp_right hgranted)⟩
  have hsame := hpump p hp
  rw [hsame] at hp ⊢
  exact hall p hp

theorem stopKept_barred (u : State) (W : Prop) (P : PumpId → Pump → Prop) : StopKept (Barred u W P) where
  same hs hsame := by
    simp only [State.orderParts, Prod.mk.injEq] at hsame
    obtain ⟨htables, hnow, hpumps, -, -, hmark, -, -⟩ := hsame
    exact hs.of_pumps htables hnow hmark fun p _ => congrArg (fun v : Vector Pump 32 => v.get p) hpumps
  stop {s p} _ hs := by
    refine hs.of_pumps rfl rfl rfl fun q hq => ?_
    by_cases hqp : q = p
    · exact absurd (hqp ▸ hq) (not_counted_stopCore p s)
    · rw [pump_stopCore, if_neg hqp]

theorem Barred.of_startEnds (hs : Barred u W P s) (ht : StartEnds p s t) (hnow : t.now = s.now)
    (harbiter : t.arbiter = s.arbiter) : Barred u W P t := by
  refine hs.of_pumps ht.tables hnow (congrArg Arbiter.lastGrantMark harbiter) fun q hq => ?_
  by_cases hqp : q = p
  · exact absurd (hqp ▸ hq) (not_counted_of_stopped ht.stopped)
  · exact ht.others q hqp

theorem guardKept_barred (u : State) (W : Prop) (P : PumpId → Pump → Prop) : GuardKept (Barred u W P) where
  toStopKept := stopKept_barred u W P
  granted {s e} hreached _ hs := by
    have hgrant := recorded_grantCore s e
    have hnow : GrantedNow (grantCore e s) := hgrant.mark.trans hgrant.now.symm
    have hsite : (grantCore e s).site = s.site := congrArg Tables.site hgrant.tables
    have hfree : W := hs.bar.resolve_right fun hg => absurd hreached (not_reached_now hg hs.gap)
    exact ⟨hgrant.tables.trans hs.tables, by rw [hsite]; exact hs.gap, .inl hfree, .inr ⟨hfree, hnow⟩⟩
  undone {s p} _ _ hs := by
    have hends := startEnds_undoCore p s
    obtain ⟨ps, hh, heq⟩ := undoCore_records p s
    rw [heq] at hends ⊢
    exact hs.of_startEnds hends rfl rfl
  failed {s p} _ _ hs := by
    have hends := startEnds_failCore p s
    obtain ⟨ps, hh, heq⟩ := failCore_records p s
    rw [heq] at hends ⊢
    exact hs.of_startEnds hends rfl rfl

end

/-! ### A pass over the derived orders -/

/-- A counted pump stands as it stood at `u`, and is held where its slot is in RUN among the slots passed. -/
def PassedHeld (u : State) (h : HouseId) (O : Vector Order 4) (l : List SlotId) (p : PumpId) (q : Pump) : Prop :=
  q = u.pump p ∧ ∀ c ∈ l, O.get c = .run → u.pumpAt h c = some p → q.startHeld

theorem PassedHeld.snoc {l : List SlotId} {q : Pump} (hq : PassedHeld u h O l p q)
    (hc : O.get c = .run → u.pumpAt h c = some p → q.startHeld) : PassedHeld u h O (l ++ [c]) p q := by
  refine ⟨hq.1, fun d hd => ?_⟩
  rcases List.mem_append.mp hd with hd | hd
  · exact hq.2 d hd
  · rw [List.mem_singleton.mp hd]
    exact hc

section

variable {W : Prop}

theorem Barred.snoc {l : List SlotId} (hs : Barred u W (PassedHeld u h O l) s)
    (hc : ∀ p, (s.pump p).counted = true → O.get c = .run → u.pumpAt h c = some p → (s.pump p).startHeld) :
    Barred u W (PassedHeld u h O (l ++ [c])) s :=
  ⟨hs.tables, hs.gap, hs.bar, hs.counted.imp_left fun hall p hp => (hall p hp).snoc (hc p hp)⟩

/-- At the pump of a slot in RUN, the guard leaves it held, or no longer counted. -/
theorem barred_guardPump {l : List SlotId} (hp : s.pumpAt h c = some p) (hs : Barred u W (PassedHeld u h O l) s) :
    Barred u W (PassedHeld u h O (l ++ [c])) (guardPump p s) := by
  have K := guardKept_barred u W (PassedHeld u h O (l ++ [c]))
  have hat (q : PumpId) (hq : u.pumpAt h c = some q) : q = p := by
    rw [← pumpAt_eq_of_tables hs.tables, hp] at hq
    exact (Option.some.inj hq).symm
  have hadd {v : State} (hv : Barred u W (PassedHeld u h O l) v)
      (hheld : (v.pump p).counted = true → (v.pump p).startHeld) : Barred u W (PassedHeld u h O (l ++ [c])) v :=
    hv.snoc fun q hq _ hqc => by rw [hat q hqc] at hq ⊢; exact hheld hq
  by_cases hcounted : (s.pump p).counted = true
  · rcases counted_iff.mp hcounted with hrun | ⟨hrun, hcommanded⟩
    · rcases startHeld_or_startOpen hrun with hheld | hopen
      · rw [guardPump_startHeld hheld]
        exact hadd hs fun _ => hheld
      · have hundone {v : State} (hv : Barred u W (PassedHeld u h O l) v) (hends : StartEnds p s v) :
            Barred u W (PassedHeld u h O (l ++ [c])) (markPump p (loadFell .quiet v)) :=
          stopKept_markPump K.toStopKept p (grantKept_loadFell K.toGrantKept holds_quiet
            (hadd hv fun hc => absurd hc (not_counted_of_stopped hends.stopped)))
        have K' := guardKept_barred u W (PassedHeld u h O l)
        unfold guardPump
        obtain ⟨-, horder | horder⟩ := hopen <;> rw [hrun, horder]
        · exact hundone (K'.undone hrun horder hs) (startEnds_undoCore p s)
        · exact hundone (K'.failed hrun horder hs) (startEnds_failCore p s)
    · rw [guardPump_running hrun hcommanded]
      have hstopped := (stopKept_barred u W _).stop (commandedRunning_iff.mpr ⟨hrun, hcommanded⟩) hs
      exact stopKept_markPump K.toStopKept p (stopKept_shed K.toStopKept holds_quiet
        (hadd hstopped fun hc => absurd hc (not_counted_stopCore p s)))
  · rw [guardPump_idle hcounted]
    exact hadd hs fun hc => absurd hc hcounted

theorem barred_guardSlot {l : List SlotId} (c : SlotId) (hs : Barred u W (PassedHeld u h O l) s) :
    Barred u W (PassedHeld u h O (l ++ [c])) (guardSlot h O s c) := by
  by_cases hO : O.get c = .run
  · cases hp : s.pumpAt h c with
    | none =>
      rw [guardSlot_empty hp]
      refine hs.snoc fun p _ _ hq => ?_
      rw [← pumpAt_eq_of_tables hs.tables, hp] at hq
      cases hq
    | some p =>
      rw [guardSlot_run hO hp]
      exact barred_guardPump hp hs
  · rw [guardSlot_other hO]
    exact hs.snoc fun _ _ hrun => absurd hrun hO

theorem barred_guardSlots (l m : List SlotId) (hs : Barred u W (PassedHeld u h O m) s) :
    Barred u W (PassedHeld u h O (m ++ l)) (l.foldl (guardSlot h O) s) := by
  induction l generalizing m s with
  | nil => rwa [List.append_nil]
  | cons c rest ih =>
    have hrest := ih (m ++ [c]) (barred_guardSlot c hs)
    rwa [List.append_assoc] at hrest

/-- Each slot that the derived orders of the house hold in RUN has a start held. -/
def RunsHeld (h : HouseId) (s : State) : Prop :=
  ∀ c p, (s.ordersOf h).get c = .run → s.pumpAt h c = some p → (s.pump p).startHeld

/-- After a pass over the derived orders each slot they hold in RUN has a start held, unless a start was granted in it. -/
theorem guardAgain_runsHeld (hgap : 1 ≤ s.site.grantGap) (hbar : W ∨ GrantedNow s) :
    RunsHeld h (guardAgain h s) ∨ (W ∧ GrantedNow (guardAgain h s)) := by
  have hbegin : Barred s W (PassedHeld s h (s.ordersOf h) []) s :=
    ⟨rfl, hgap, hbar, .inl fun p _ => ⟨rfl, by simp⟩⟩
  have hpassed : Barred s W (PassedHeld s h (s.ordersOf h) allSlots) (guardAgain h s) :=
    barred_guardSlots allSlots [] hbegin
  refine hpassed.counted.imp_left fun hall c p hrun hp => ?_
  obtain ⟨q, hq, hlocal, hcounted⟩ := run_iff_counted.mp hrun
  obtain rfl : q = p := Option.some.inj (hq.symm.trans hp)
  obtain ⟨hstands, hheld⟩ := hall q hcounted
  have hps : s.pumpAt h c = some q := (pumpAt_eq_of_tables hpassed.tables).symm.trans hp
  rw [hstands] at hlocal hcounted
  exact hheld c (List.mem_finRange c) (run_iff_counted.mpr ⟨q, hps, hlocal, hcounted⟩) hps

end

/-- A pass that finds only starts held changes nothing. -/
theorem guardAgain_of_runsHeld (hs : RunsHeld h s) : guardAgain h s = s := by
  have hslot (c : SlotId) : guardSlot h (s.ordersOf h) s c = s := by
    by_cases hO : (s.ordersOf h).get c = .run
    · cases hp : s.pumpAt h c with
      | none => exact guardSlot_empty hp
      | some p =>
        rw [guardSlot_run hO hp]
        exact guardPump_startHeld (hs c p hO hp)
    · exact guardSlot_other hO
  exact List.foldlRecOn allSlots (guardSlot h (s.ordersOf h)) (motive := fun t => t = s) rfl
    fun t ht c _ => by rw [ht, hslot]

/-- Two passes over the derived orders suffice: the second finds only starts held, or the gap bars a grant (log 16). -/
theorem runsHeld_guardAgain_twice (hgap : 1 ≤ s.site.grantGap) : RunsHeld h (guardAgain h (guardAgain h s)) := by
  rcases guardAgain_runsHeld (W := True) (h := h) hgap (.inl trivial) with hheld | ⟨-, hgranted⟩
  · rwa [guardAgain_of_runsHeld hheld]
  · have hsite : (guardAgain h s).site = s.site :=
      congrArg Tables.site (tables_of_apartOrders (apartOrders_guardPass s h _))
    exact (guardAgain_runsHeld (W := False) (by rwa [hsite]) (.inr hgranted)).resolve_right fun hno => hno.1

/-! ### The entry taken -/

/-- An ORDERS entry guarded at its take says RUN only where a start was held before the guard (R138). -/
theorem guardEntry_runs {x : DispEntry} (hgap : 1 ≤ s.site.grantGap) (hkind : x.kind = .orders)
    (hguard : s.suctionGuard x.house = true) (hrun : (guardEntry x s).2.orders.get c = .run) :
    ∃ p, s.pumpAt x.house c = some p ∧ (s.pump p).startHeld := by
  have K := guardKept_heldSince s
  have hfirst := guardKept_guardPass K x.house x.orders ⟨rfl, fun _ => id⟩
  have hlast := guardKept_guardAgain K x.house (guardKept_guardAgain K x.house hfirst)
  have hsite : (guardPass x.house x.orders s).site = s.site := congrArg Tables.site hfirst.tables
  have hheld := runsHeld_guardAgain_twice (h := x.house) (by rwa [hsite])
  rw [guardEntry, if_pos ⟨hkind, hguard⟩] at hrun
  obtain ⟨p, hp, -, -⟩ := run_iff_counted.mp hrun
  exact ⟨p, (pumpAt_eq_of_tables hlast.tables).symm.trans hp, hlast.held p (hheld c p hrun hp)⟩

/-- A take that sends a DISPATCH frame took the head of the queue, as the guard left it. -/
theorem fieldTake_sends {own : Byte} {g : DispEntry} (hidle : s.field.tx = none)
    (hsent : (fieldTake s).field.tx = some (.dispatch own g)) :
    ∃ x rest n, g = (guardEntry x (dequeue x rest (setFieldRun n s))).2 := by
  have htaken (x : DispEntry) (rest : List DispEntry) (n : Nat)
      (ht : (takeDispatch x rest (setFieldRun n s)).field.tx = some (.dispatch own g)) :
      ∃ x rest n, g = (guardEntry x (dequeue x rest (setFieldRun n s))).2 := by
    rw [takeDispatch_eq_prepare, field_sent] at ht
    injection ht with hframe
    injection hframe with _ hentry
    exact ⟨x, rest, n, hentry.symm⟩
  unfold fieldTake at hsent
  split at hsent
  · rw [hidle] at hsent
    cases hsent
  · split at hsent
    · rw [hidle] at hsent
      cases hsent
    · exact htaken _ _ _ hsent
    · cases hsent
    · split at hsent
      · exact htaken _ _ _ hsent
      · cases hsent

theorem suctionGuard_of_suction {r : ResId} (hsuction : (s.houseE h).suction = some r)
    (hlow : (s.res r).source = .lost ∨ (s.res r).source = .noData ∨ (s.res r).level ≤ (s.resE r).dryCut) :
    s.suctionGuard h = true := by
  unfold State.suctionGuard
  rw [hsuction]
  rcases hlow with hlow | hlow | hlow <;> simp [hlow, Source.usable]

/-- Settles O16: what is sent is the head of the queue as the guard left it, and `guardEntry_runs`. -/
theorem suctionGuard : Obligations.SuctionGuard := by
  intro s own e k r hidle hgap hsent hkind hsuction hlow hrun
  obtain ⟨x, rest, n, rfl⟩ := fieldTake_sends hidle hsent
  obtain ⟨hhouse, hsame, -⟩ := guardEntry_entry x (dequeue x rest (setFieldRun n s))
  rw [hhouse] at hsuction ⊢
  rw [hsame] at hkind
  have hguard : (dequeue x rest (setFieldRun n s)).suctionGuard x.house = true := suctionGuard_of_suction hsuction hlow
  exact guardEntry_runs (s := dequeue x rest (setFieldRun n s)) hgap hkind hguard hrun

end

end Sys2Proof.Machine

/-! ## The bytes of the frames the part originates (R139, R147, R156, R161-R164) -/

namespace Sys2Proof.Machine

section

variable {tag : Byte} {content rest bs : List Byte}

/-! ### Records walked (R162) -/

theorem walkFuel_nil (fuel : Nat) : walkFuel fuel [] = some [] := by cases fuel <;> rfl

/-- The walk of a frame's records is the same with any fuel that suffices. -/
theorem walkFuel_congr {m n : Nat} (hm : bs.length ≤ m) (hn : bs.length ≤ n) : walkFuel m bs = walkFuel n bs := by
  induction m generalizing n bs with
  | zero => rw [List.eq_nil_of_length_eq_zero (Nat.le_zero.mp hm), walkFuel_nil, walkFuel_nil]
  | succ m ih =>
    match n, bs with
    | _, [] => rw [walkFuel_nil, walkFuel_nil]
    | n + 1, [_] => rfl
    | n + 1, tag :: len :: rest =>
      rw [List.length_cons, List.length_cons] at hm hn
      have hdrop : (rest.drop len.toNat).length ≤ rest.length := by rw [List.length_drop]; omega
      rw [walkFuel, walkFuel, ih (n := n) (by omega) (by omega)]

/-- A record is walked, and then the records behind it. -/
theorem walkRecords_record (hlength : content.length < 256) :
    walkRecords (recordBytes tag content ++ rest) = (walkRecords rest).map (⟨tag, content⟩ :: ·) := by
  have hlen : (BitVec.ofNat 8 content.length).toNat = content.length := Nat.mod_eq_of_lt hlength
  have hroom : ¬(content ++ rest).length < content.length := by rw [List.length_append]; omega
  show walkFuel ((content ++ rest).length + 1 + 1) (tag :: BitVec.ofNat 8 content.length :: (content ++ rest)) = _
  rw [walkFuel, hlen, if_neg hroom, List.drop_left, List.take_left, walkRecords,
    walkFuel_congr (n := rest.length) (by rw [List.length_append]; omega) le_rfl]

theorem walkRecords_single (hlength : content.length < 256) :
    walkRecords (recordBytes tag content) = some [⟨tag, content⟩] := by
  rw [← List.append_nil (recordBytes tag content), walkRecords_record hlength]
  rfl

theorem length_recordBytes : (recordBytes tag content).length = content.length + 2 := rfl

/-! ### A frame's length, head, check and records (R161) -/

section

variable (dest src kind : Byte) (records : List Byte)

theorem length_frameBytes : (frameBytes dest src kind records).length = records.length + 6 := by
  simp [frameBytes]

theorem head_frameBytes : (frameBytes dest src kind records).take 5
    = [0xC3, BitVec.ofNat 8 (records.length + 3), dest, src, kind] := by
  simp [frameBytes, syncByte]

theorem byteSum_append (as bs : List Byte) : byteSum (as ++ bs) = byteSum as + byteSum bs := by
  simp [byteSum]

theorem byteSum_frameBytes : byteSum ((frameBytes dest src kind records).drop 1) % 256 = 0 := by
  unfold frameBytes
  dsimp only
  generalize BitVec.ofNat 8 (records.length + 3) :: dest :: src :: kind :: records = counted
  have hcheck : byteSum [BitVec.ofNat 8 (256 - byteSum counted % 256)] = (256 - byteSum counted % 256) % 256 :=
    Nat.add_zero _
  rw [List.drop_succ_cons, List.drop_zero, byteSum_append, hcheck]
  omega

theorem records_frameBytes : ((frameBytes dest src kind records).drop 5).dropLast = records := by
  simp [frameBytes]

end

/-- The frame of one record (R161, R162). -/
theorem frameBytes_single (dest src kind : Byte) (hlength : content.length < 256) :
    let bytes := frameBytes dest src kind (recordBytes tag content)
    bytes.length = content.length + 8
    ∧ bytes.take 5 = [0xC3, BitVec.ofNat 8 (content.length + 5), dest, src, kind]
    ∧ byteSum (bytes.drop 1) % 256 = 0
    ∧ walkRecords ((bytes.drop 5).dropLast) = some [⟨tag, content⟩] := by
  refine ⟨length_frameBytes .., head_frameBytes .., byteSum_frameBytes .., ?_⟩
  rw [records_frameBytes, walkRecords_single hlength]

/-! ### DISPATCH (R139, R163) -/

theorem walkRecords_dispatch (e : DispEntry) : walkRecords (dispatchRecords e) = some
    [⟨0x30, [0, orderCode (e.orders.get 0)]⟩, ⟨0x30, [1, orderCode (e.orders.get 1)]⟩,
      ⟨0x30, [2, orderCode (e.orders.get 2)]⟩, ⟨0x30, [3, orderCode (e.orders.get 3)]⟩,
      ⟨0x31, [BitVec.ofNat 8 (e.hold / 256), BitVec.ofNat 8 e.hold]⟩] := by
  have hshort (a b : Byte) : [a, b].length < 256 := by simp
  rw [dispatchRecords, List.append_assoc, List.append_assoc, List.append_assoc, walkRecords_record (hshort ..),
    walkRecords_record (hshort ..), walkRecords_record (hshort ..), walkRecords_record (hshort ..),
    walkRecords_single (show (word16 e.hold).length < 256 by simp [word16])]
  rfl

/-! ### NOTICE (R147, R156, R163) -/

/-- A byte of an engine second by its bits and by its value (R161). -/
theorem ofNat_div_eq_extract (m : Second) (n : Nat) : BitVec.ofNat 8 (m.toNat / 2 ^ n) = m.extractLsb' n 8 := by
  rw [BitVec.extractLsb', Nat.shiftRight_eq_div_pow]

theorem word32_second (m : Second) : word32 m.toNat
    = [m.extractLsb' 24 8, m.extractLsb' 16 8, m.extractLsb' 8 8, m.extractLsb' 0 8] := by
  simp only [← ofNat_div_eq_extract]
  simp [word32]

/-- The low two bytes of an engine second (R156). -/
theorem word16_second (m : Second) : word16 (m.toNat % 65536) = [m.extractLsb' 8 8, m.extractLsb' 0 8] := by
  have hhigh : BitVec.ofNat 8 (m.toNat % 65536 / 256) = BitVec.ofNat 8 (m.toNat / 256) :=
    BitVec.eq_of_toNat_eq (by simp only [BitVec.toNat_ofNat]; omega)
  have hlow : BitVec.ofNat 8 (m.toNat % 65536) = BitVec.ofNat 8 m.toNat :=
    BitVec.eq_of_toNat_eq (by simp only [BitVec.toNat_ofNat]; omega)
  rw [word16, hhigh, hlow, ← ofNat_div_eq_extract, ← ofNat_div_eq_extract]
  simp

/-- The time of an alarm notice with the calendar not set (R163). -/
theorem stampBytes_unset (m : Second) : stampBytes (.unset m)
    = [1, 0, m.extractLsb' 24 8, m.extractLsb' 16 8, m.extractLsb' 8 8, m.extractLsb' 0 8] := by
  rw [stampBytes, word32_second]

theorem length_stampBytes (x : Stamp) : (stampBytes x).length = 6 := by cases x <;> rfl

theorem length_noticeRecord_le (body : NoticeBody) : (noticeRecord body).length ≤ 17 := by
  cases body <;> simp [noticeRecord, length_recordBytes, length_stampBytes, word16]

/-- Settles O11: the frame of each kind by `frameBytes`, its records walked, and the bytes of each content. -/
theorem dispatchFrame : Obligations.DispatchFrame := by
  refine ⟨fun own e => ?_, fun r hlength => ?_, ⟨rfl, fun _ _ => rfl, fun _ _ _ => rfl, fun a b ws => ?_⟩,
    fun n content tag halarm hrefusal => ?_⟩
  · refine ⟨length_frameBytes .., head_frameBytes .., byteSum_frameBytes .., ?_⟩
    rw [TxFrame.bytes, records_frameBytes]
    exact walkRecords_dispatch e
  · have hshort : (r.code :: resultCode r.result :: respDataBytes r.data).length < 256 := by
      rw [List.length_cons, List.length_cons]; omega
    exact frameBytes_single (BitVec.ofNat 8 r.dest) r.src kindResponse hshort
  · rw [respDataBytes, List.flatten_eq_flatMap, List.flatMap_assoc]
    rfl
  · have hrecord : noticeRecord n.body = recordBytes tag content := by
      cases hbody : n.body with
      | alarm event kind object state raised side value repeats overflow =>
        obtain ⟨rfl, rfl⟩ := halarm _ _ _ _ _ _ _ _ _ hbody
        rw [noticeRecord]
        cases raised with
        | calendar day second => cases kind <;> rfl
        | unset m => rw [stampBytes_unset]; cases kind <;> rfl
      | refusal dest src house second =>
        obtain ⟨rfl, rfl⟩ := hrefusal _ _ _ _ hbody
        rw [noticeRecord, word16_second]
        rfl
    have hshort : content.length < 256 := by
      have hle := length_noticeRecord_le n.body
      rw [hrecord, length_recordBytes] at hle
      omega
    rw [TxFrame.bytes, hrecord]
    exact frameBytes_single _ _ _ hshort

end

end Sys2Proof.Machine

/-! ## The alarm list by the entry of a kind and object (R149-R155, R157) -/

namespace Sys2Proof.Machine

/-- The state with other alarm entries and overflow indicator; the notices and the overrun indicator stand. -/
def State.withEntries (s : State) (es : List AlarmEntry) (overflow : Bool) : State :=
  modAlarms (fun a => { a with entries := es, overflow := overflow }) s

/-- The alarm list holds `e` between `l` and `l'`, and no other entry of its kind and object (R149, R150). -/
structure State.AlarmAmid (s : State) (k : AlarmKind) (o : Nat) (l : List AlarmEntry) (e : AlarmEntry)
    (l' : List AlarmEntry) : Prop where
  entries : s.alarms.entries = l ++ e :: l'
  here : e.kind = k ∧ e.object = o
  only : ∀ x ∈ l ++ l', ¬(x.kind = k ∧ x.object = o)

section

variable {s : State} {k : AlarmKind} {o : Nat} {v : Option Nat} {d : Side} {l l' : List AlarmEntry} {e e' : AlarmEntry}

/-! ### The entry found, replaced and removed -/

theorem AlarmEntry.isAt_iff : e.isAt k o = true ↔ e.kind = k ∧ e.object = o := by simp [AlarmEntry.isAt]

theorem alarmAt_eq_none (habsent : ∀ x ∈ s.alarms.entries, ¬(x.kind = k ∧ x.object = o)) : s.alarmAt k o = none :=
  List.find?_eq_none.mpr fun x hx hat => habsent x hx (AlarmEntry.isAt_iff.mp hat)

/-- The first entry that meets a test leaves the list. -/
theorem eraseP_amid {p : AlarmEntry → Bool} (he : p e = true) (hl : ∀ x ∈ l, ¬p x = true) :
    (l ++ e :: l').eraseP p = l ++ l' := by
  rw [List.eraseP_append_right _ hl, List.eraseP_cons_of_pos he]

theorem makeRoom_eq (hentries : s.alarms.entries = l ++ e :: l') (he : e.state = .clearedUnacked)
    (hl : ∀ x ∈ l, x.state ≠ .clearedUnacked) : makeRoom s = s.withEntries (l ++ l') false := by
  have herase : s.alarms.entries.eraseP (fun x => x.state == .clearedUnacked) = l ++ l' := by
    rw [hentries]
    exact eraseP_amid (by simp [he]) fun x hx => by simpa using hl x hx
  simp only [makeRoom, State.withEntries, modAlarms, herase]

namespace State.AlarmAmid

theorem not_isAt (h : s.AlarmAmid k o l e l') {x : AlarmEntry} (hx : x ∈ l ++ l') : ¬x.isAt k o = true :=
  fun hat => h.only x hx (AlarmEntry.isAt_iff.mp hat)

theorem alarmAt (h : s.AlarmAmid k o l e l') : s.alarmAt k o = some e :=
  List.find?_eq_some_iff_append.mpr ⟨AlarmEntry.isAt_iff.mpr h.here, l, l', h.entries, fun x hx => by
    simpa using h.not_isAt (List.mem_append_left l' hx)⟩

/-- Another entry of the kind and object in its place. -/
theorem put (h : s.AlarmAmid k o l e l') (he' : e'.kind = k ∧ e'.object = o) (f : Bool) :
    (s.withEntries (l ++ e' :: l') f).AlarmAmid k o l e' l' := ⟨rfl, he', h.only⟩

theorem putAlarm_eq (h : s.AlarmAmid k o l e l') (he' : e'.kind = k ∧ e'.object = o) :
    putAlarm e' s = s.withEntries (l ++ e' :: l') s.alarms.overflow := by
  obtain ⟨rfl, rfl⟩ := he'
  have hother (m : List AlarmEntry) (hm : ∀ x ∈ m, x ∈ l ++ l') :
      m.map (fun x => if x.isAt e'.kind e'.object then e' else x) = m :=
    (List.map_congr_left fun x hx => if_neg (h.not_isAt (hm x hx))).trans (List.map_id m)
  have hmap : s.alarms.entries.map (fun x => if x.isAt e'.kind e'.object then e' else x) = l ++ e' :: l' := by
    rw [h.entries, List.map_append, List.map_cons, if_pos (AlarmEntry.isAt_iff.mpr h.here),
      hother l fun _ => List.mem_append_left l', hother l' fun _ => List.mem_append_right l]
  simp only [putAlarm, State.withEntries, modAlarms, hmap]

theorem dropAlarm_eq (h : s.AlarmAmid k o l e l') : dropAlarm k o s = s.withEntries (l ++ l') false := by
  have herase : s.alarms.entries.eraseP (fun x => x.isAt k o) = l ++ l' := by
    rw [h.entries]
    exact eraseP_amid (AlarmEntry.isAt_iff.mpr h.here) fun x hx => h.not_isAt (List.mem_append_left l' hx)
  simp only [dropAlarm, State.withEntries, modAlarms, herase]

end State.AlarmAmid

/-! ### Notices (R157) -/

theorem pushNotice_of_full (b : NoticeBody) (hfull : 6 ≤ s.alarms.notices.length) :
    pushNotice b s = modAlarms (fun a => { a with overrun := true }) s := if_pos hfull

/-- A busy supervisory port takes nothing. -/
theorem supTake_of_busy (hbusy : s.sup.tx ≠ none) : supTake s = s :=
  if_pos (Option.isSome_iff_ne_none.mpr hbusy)

theorem pushNotice_of_busy (b : NoticeBody) (hroom : s.alarms.notices.length < 6) (hbusy : s.sup.tx ≠ none) :
    pushNotice b s
      = modAlarms (fun a => { a with notices := a.notices ++ [⟨s.site.supervisor, s.ownAddr, b⟩] }) s := by
  rw [pushNotice, if_neg (Nat.not_le.mpr hroom)]
  exact supTake_of_busy hbusy

@[simp] theorem entries_supTake : (supTake s).alarms.entries = s.alarms.entries := by
  unfold supTake; repeat' split
  all_goals rfl

@[simp] theorem overflow_supTake : (supTake s).alarms.overflow = s.alarms.overflow := by
  unfold supTake; repeat' split
  all_goals rfl

@[simp] theorem entries_pushNotice (b : NoticeBody) : (pushNotice b s).alarms.entries = s.alarms.entries := by
  unfold pushNotice; split <;> simp

@[simp] theorem overflow_pushNotice (b : NoticeBody) : (pushNotice b s).alarms.overflow = s.alarms.overflow := by
  unfold pushNotice; split <;> simp

/-! ### Raises (R151, R155) -/

/-- The entry that a raise makes where none stands (R151, first row). -/
def State.newAlarm (s : State) (k : AlarmKind) (o : Nat) (v : Option Nat) (d : Side) : AlarmEntry :=
  ⟨k, o, .activeUnacked, s.stamp, d, v, 0⟩

theorem joinAlarm_eq : joinAlarm k o v d s
    = pushNotice (.alarm .raised k o .activeUnacked s.stamp d v 0 s.alarms.overflow)
        (s.withEntries (s.alarms.entries ++ [s.newAlarm k o v d]) s.alarms.overflow) := rfl

theorem raise_of_room (habsent : s.alarmAt k o = none) (hroom : s.alarms.entries.length < 24) :
    raise k o v d s = joinAlarm k o v d s := by
  rw [raise, habsent]
  exact if_pos hroom

/-- A raise into a full list takes the place of the first CLEARED_UNACKED entry (R155). -/
theorem raise_of_full_cleared (habsent : s.alarmAt k o = none) (hfull : 24 ≤ s.alarms.entries.length)
    (hentries : s.alarms.entries = l ++ e :: l') (he : e.state = .clearedUnacked)
    (hl : ∀ x ∈ l, x.state ≠ .clearedUnacked) :
    raise k o v d s = joinAlarm k o v d (s.withEntries (l ++ l') false) := by
  have hany : (s.alarms.entries.any fun x => x.state == .clearedUnacked) = true :=
    List.any_eq_true.mpr ⟨e, by simp [hentries], by simp [he]⟩
  rw [← makeRoom_eq hentries he hl, raise, habsent]
  exact (if_neg (Nat.not_lt.mpr hfull)).trans (if_pos hany)

theorem raise_of_full_active (habsent : s.alarmAt k o = none) (hfull : 24 ≤ s.alarms.entries.length)
    (hactive : ∀ x ∈ s.alarms.entries, x.state ≠ .clearedUnacked) :
    raise k o v d s = s.withEntries s.alarms.entries true := by
  have hany : ¬(s.alarms.entries.any fun x => x.state == .clearedUnacked) = true := by simpa using hactive
  rw [raise, habsent]
  exact (if_neg (Nat.not_lt.mpr hfull)).trans (if_neg hany)

theorem State.AlarmAmid.raise_of_cleared (h : s.AlarmAmid k o l e l') (he : e.state = .clearedUnacked) :
    raise k o v d s = pushNotice
      (.alarm .reRaised k o .activeUnacked s.stamp e.side v (min (e.repeats + 1) 255) s.alarms.overflow)
      (s.withEntries (l ++ { e with
        state := .activeUnacked, raised := s.stamp, value := v, repeats := min (e.repeats + 1) 255 } :: l')
        s.alarms.overflow) := by
  obtain ⟨rfl, rfl⟩ := h.here
  simp only [raise, h.alarmAt, he, if_true, noticeOf]
  rw [h.putAlarm_eq]
  · rfl
  · exact ⟨rfl, rfl⟩

theorem State.AlarmAmid.raise_of_active (h : s.AlarmAmid k o l e l') (he : e.state ≠ .clearedUnacked) :
    raise k o v d s = s := by
  simp only [raise, h.alarmAt, he, if_false]

/-- Settles O49: the rows of R151 by the entry found and the room in the list, and the queue of R157. -/
theorem raiseRows : Obligations.RaiseRows := by
  intro k o v d s stamp new set isIt
  refine ⟨fun habsent => ?_, fun l e l' hentries he hothers => ?_, fun b => ?_⟩
  · have hnone : s.alarmAt k o = none := alarmAt_eq_none habsent
    exact ⟨fun hroom => (raise_of_room hnone hroom).trans joinAlarm_eq,
      fun l c l' hfull hentries hc hl => (raise_of_full_cleared hnone hfull hentries hc hl).trans joinAlarm_eq,
      raise_of_full_active hnone⟩
  · have hamid : s.AlarmAmid k o l e l' := ⟨hentries, he, hothers⟩
    exact ⟨hamid.raise_of_cleared, hamid.raise_of_active⟩
  · exact ⟨pushNotice_of_full b, pushNotice_of_busy b⟩

/-! ### Clears (R152) -/

theorem clear_of_absent (habsent : s.alarmAt k o = none) : clear k o s = s := by rw [clear, habsent]

namespace State.AlarmAmid

theorem clear_of_unacked (h : s.AlarmAmid k o l e l') (he : e.state = .activeUnacked) :
    clear k o s
      = pushNotice (.alarm .cleared k o .clearedUnacked e.raised e.side e.value e.repeats s.alarms.overflow)
          (s.withEntries (l ++ { e with state := .clearedUnacked } :: l') s.alarms.overflow) := by
  obtain ⟨rfl, rfl⟩ := h.here
  simp only [clear, h.alarmAt, he, noticeOf]
  rw [h.putAlarm_eq]
  · rfl
  · exact ⟨rfl, rfl⟩

theorem clear_of_acked (h : s.AlarmAmid k o l e l') (he : e.state = .activeAcked) :
    clear k o s = pushNotice (.alarm .cleared k o .removed e.raised e.side e.value e.repeats false)
      (s.withEntries (l ++ l') false) := by
  obtain ⟨rfl, rfl⟩ := h.here
  simp only [clear, h.alarmAt, he, noticeOf]
  rw [h.dropAlarm_eq]
  rfl

theorem clear_of_cleared (h : s.AlarmAmid k o l e l') (he : e.state = .clearedUnacked) : clear k o s = s := by
  simp only [clear, h.alarmAt, he]

end State.AlarmAmid

/-- Settles O50: the rows of R152 by the entry found. -/
theorem clearRows : Obligations.ClearRows := by
  intro k o s set isIt
  refine ⟨fun habsent => clear_of_absent (alarmAt_eq_none habsent), fun l e l' hentries he hothers => ?_⟩
  have hamid : s.AlarmAmid k o l e l' := ⟨hentries, he, hothers⟩
  exact ⟨hamid.clear_of_unacked, hamid.clear_of_acked, hamid.clear_of_cleared⟩

end

end Sys2Proof.Machine

/-! ## ALARM_ACK and ALARM_ACK_ALL (R153, R154) -/

namespace Sys2Proof.Machine

section

variable {s : State} {k : AlarmKind} {o : Nat} {l l' : List AlarmEntry} {e : AlarmEntry}

/-! ### The acknowledgement of one entry -/

/-- The event alarms of R153. -/
theorem isEvent_iff : k.isEvent = true ↔ k = .uncommandedRun ∨ k = .unexpectedStop := by cases k <;> decide

namespace State.AlarmAmid

theorem acknowledge_of_unacked (h : s.AlarmAmid k o l e l') (he : e.state = .activeUnacked) (hk : k.isEvent = false) :
    acknowledge k o s = s.withEntries (l ++ { e with state := .activeAcked } :: l') s.alarms.overflow := by
  simp only [acknowledge, h.alarmAt, he, onlyIf, hk]
  exact h.putAlarm_eq h.here

/-- An event alarm is cleared as its acknowledgement leaves it, which removes it (R153). -/
theorem acknowledge_of_event (h : s.AlarmAmid k o l e l') (he : e.state = .activeUnacked) (hk : k.isEvent = true) :
    acknowledge k o s = pushNotice (.alarm .cleared k o .removed e.raised e.side e.value e.repeats false)
      (s.withEntries (l ++ l') false) := by
  simp only [acknowledge, h.alarmAt, he, onlyIf, hk, if_true]
  rw [h.putAlarm_eq]
  · exact (h.put (e' := { e with state := .activeAcked }) h.here _).clear_of_acked rfl
  · exact h.here

theorem acknowledge_of_acked (h : s.AlarmAmid k o l e l') (he : e.state = .activeAcked) : acknowledge k o s = s := by
  simp only [acknowledge, h.alarmAt, he]

theorem acknowledge_of_cleared (h : s.AlarmAmid k o l e l') (he : e.state = .clearedUnacked) :
    acknowledge k o s = s.withEntries (l ++ l') false := by
  simp only [acknowledge, h.alarmAt, he]
  exact h.dropAlarm_eq

end State.AlarmAmid

/-! ### The request for one entry (R154, R176) -/

theorem exec_alarmAck {b : Byte} (hs : s.serves) (hb : b ≠ 0xFF) (c : Byte) :
    exec (.alarmAck b c) s = .next (answer 0x49 (askAck b.toNat c.toNat s)) := by
  have hask : askAckByte b c s = askAck b.toNat c.toNat s := if_neg hb
  rw [← hask]
  exact congrArg Host.Outcome.next (asked_of_serves hs _ _)

theorem askAck_of_no_kind {n : Nat} (hn : alarmOf n = none) : askAck n o s = refuse .badValue s := by
  simp [askAck, hn]

theorem askAck_of_kind {n : Nat} (hn : alarmOf n = some k) : askAck n o s =
    if o < alarmObjects k then
      if (s.alarmAt k o).isSome then done (acknowledge k o s) else refuse .notFound s
    else refuse .badValue s := by
  rw [askAck, hn, Option.filter_some]
  by_cases ho : o < alarmObjects k <;> simp [ho]

/-- Settles O51: the refusals of `askAck`, and the effect of `acknowledge` by the entry's state. -/
theorem ackOne : Obligations.AckOne := by
  intro b c s hs hb set
  rw [exec_alarmAck hs hb]
  refine ⟨fun hkind => by rw [askAck_of_no_kind hkind]; rfl, fun k hkind => ?_⟩
  rw [askAck_of_kind hkind]
  refine ⟨fun hobject => ?_, fun hobject => ?_⟩
  · rw [if_neg (Nat.not_lt.mpr hobject)]; rfl
  rw [if_pos hobject]
  refine ⟨fun habsent => ?_, fun l e l' hentries he hothers => ?_⟩
  · rw [alarmAt_eq_none habsent]; rfl
  · have hamid : s.AlarmAmid k c.toNat l e l' := ⟨hentries, he, hothers⟩
    rw [hamid.alarmAt, Option.isSome_some, if_pos rfl, answer_done]
    refine ⟨fun hstate hrun hstop => ?_, fun hstate hevent => ?_, fun hstate => ?_, fun hstate => ?_⟩
    · have hk : k.isEvent = false := by simpa [← isEvent_iff] using not_or.mpr ⟨hrun, hstop⟩
      rw [hamid.acknowledge_of_unacked hstate hk]; rfl
    · rw [hamid.acknowledge_of_event hstate (isEvent_iff.mpr hevent)]; rfl
    · rw [hamid.acknowledge_of_acked hstate]
    · rw [hamid.acknowledge_of_cleared hstate]; rfl

/-! ### The acknowledgement of every entry -/

/-- An acknowledgement removes the entry: it is cleared, or an unacknowledged event alarm (R153, R154). -/
def AlarmEntry.leavesOnAck (e : AlarmEntry) : Bool :=
  e.state == .clearedUnacked || (e.state == .activeUnacked && (e.kind == .uncommandedRun || e.kind == .unexpectedStop))

/-- The entries that an acknowledgement of each leaves (R154). -/
def acknowledged (es : List AlarmEntry) : List AlarmEntry :=
  (es.filter fun e => !e.leavesOnAck).map fun e => { e with state := .activeAcked }

theorem acknowledged_cons (e : AlarmEntry) (es : List AlarmEntry) :
    acknowledged (e :: es) = acknowledged [e] ++ acknowledged es := by
  rw [acknowledged, acknowledged, acknowledged, ← List.map_append, ← List.filter_append]; rfl

theorem leavesOnAck_eq :
    e.leavesOnAck = (e.state == .clearedUnacked || (e.state == .activeUnacked && e.kind.isEvent)) := by
  unfold AlarmEntry.leavesOnAck
  cases e.kind <;> rfl

/-- What an acknowledgement leaves in the entry's place, and the overflow indicator. -/
theorem State.AlarmAmid.acknowledge_alarms (h : s.AlarmAmid k o l e l') :
    (acknowledge k o s).alarms.entries = l ++ acknowledged [e] ++ l'
      ∧ (acknowledge k o s).alarms.overflow = (s.alarms.overflow && !e.leavesOnAck) := by
  obtain ⟨rfl, rfl⟩ := h.here
  cases hstate : e.state with
  | activeUnacked =>
    cases hk : e.kind.isEvent with
    | true =>
      rw [h.acknowledge_of_event hstate hk]
      simp [State.withEntries, acknowledged, leavesOnAck_eq, hstate, hk]
    | false =>
      rw [h.acknowledge_of_unacked hstate hk]
      simp [State.withEntries, acknowledged, leavesOnAck_eq, hstate, hk]
  | activeAcked =>
    have hsame : { e with state := .activeAcked } = e := by rw [← hstate]
    rw [h.acknowledge_of_acked hstate, h.entries]
    simp [acknowledged, leavesOnAck_eq, hstate, hsame]
  | clearedUnacked =>
    rw [h.acknowledge_of_cleared hstate]
    simp [State.withEntries, acknowledged, leavesOnAck_eq, hstate]

/-- The kind and object of an entry (R149). -/
def AlarmEntry.key (e : AlarmEntry) : AlarmKind × Nat := (e.kind, e.object)

theorem keys_acknowledged_sublist (es : List AlarmEntry) :
    ((acknowledged es).map AlarmEntry.key).Sublist (es.map AlarmEntry.key) := by
  rw [acknowledged, List.map_map]
  exact List.filter_sublist.map AlarmEntry.key

/-- An entry of a list without two of one kind and object stands amid it. -/
theorem alarmAmid_of_nodup (hentries : s.alarms.entries = l ++ e :: l')
    (hkeys : ((l ++ e :: l').map AlarmEntry.key).Nodup) : s.AlarmAmid e.kind e.object l e l' := by
  rw [(List.perm_middle.map AlarmEntry.key).nodup_iff, List.map_cons, List.nodup_cons] at hkeys
  refine ⟨hentries, ⟨rfl, rfl⟩, fun x hx hsame => hkeys.1 (List.mem_map.mpr ⟨x, hx, ?_⟩)⟩
  exact Prod.ext hsame.1 hsame.2

/-- The acknowledgements of the entries `rest` at the end of the list, in list order, behind what stands before them. -/
theorem acknowledge_rest (rest front : List AlarmEntry) (s : State) (hentries : s.alarms.entries = front ++ rest)
    (hkeys : ((front ++ rest).map AlarmEntry.key).Nodup) :
    let u := rest.foldl (fun t e => acknowledge e.kind e.object t) s
    u.alarms.entries = front ++ acknowledged rest
      ∧ u.alarms.overflow = (s.alarms.overflow && !rest.any AlarmEntry.leavesOnAck) := by
  induction rest generalizing front s with
  | nil => simpa [acknowledged] using hentries
  | cons e rest ih =>
    obtain ⟨hnext, hoverflow⟩ := (alarmAmid_of_nodup hentries hkeys).acknowledge_alarms
    have hsub : ((front ++ acknowledged [e] ++ rest).map AlarmEntry.key).Sublist
        ((front ++ e :: rest).map AlarmEntry.key) := by
      rw [List.append_assoc, List.map_append, List.map_append, List.map_append, List.map_cons]
      exact ((keys_acknowledged_sublist [e]).append_right _).append_left _
    obtain ⟨hentries', hoverflow'⟩ := ih _ _ hnext (hkeys.sublist hsub)
    rw [List.append_assoc, ← acknowledged_cons] at hentries'
    rw [hoverflow, Bool.and_assoc, ← Bool.not_or] at hoverflow'
    exact ⟨hentries', hoverflow'⟩

/-- Settles O52: `acknowledge_rest` over the whole list, whose keys are distinct within its bounds. -/
theorem ackAll : Obligations.AckAll := by
  intro c s hs hbounded leaves
  have hexec : exec (.alarmAckAll c) s = .next (respond 0x49 .ok .none (acknowledgeAll s)) :=
    congrArg Host.Outcome.next (asked_of_serves hs _ _)
  obtain ⟨hentries, hoverflow⟩ := acknowledge_rest s.alarms.entries [] s rfl hbounded.keys
  exact ⟨acknowledgeAll s, hexec, hentries, hoverflow, apartAlarms_acknowledgeAll s⟩

end

end Sys2Proof.Machine

/-! ## The receivers: a byte at a time, a frame at its CHECK byte, and a whole frame (R161, R165, R166) -/

namespace Sys2Proof.Machine

section

variable {p : Port} {s : State}

/-! ### One update of a port after another -/

theorem modPort_modPort (p : Port) (f g : PortState → PortState) (s : State) :
    modPort p g (modPort p f s) = modPort p (fun q => g (f q)) s := by cases p <;> rfl

/-- An update of a port reads that port alone. -/
theorem modPort_congr {f g : PortState → PortState} (h : f (s.port p) = g (s.port p)) : modPort p f s = modPort p g s := by
  cases p with
  | field => exact congrArg (fun q => { s with field := q }) h
  | supervisory => exact congrArg (fun q => { s with sup := q }) h

@[simp] theorem port_modPort (p : Port) (f : PortState → PortState) (s : State) :
    (modPort p f s).port p = f (s.port p) := by cases p <;> rfl

/-! ### The receiver's table (R165) -/

theorem receiveByte_hunt (hrx : (s.port p).rx = .hunt) (b : Byte) :
    receiveByte p b s = if b = 0xC3 then setRx p .length [b] s else s := by
  simp only [receiveByte, hrx]
  rfl

theorem receiveByte_length (hrx : (s.port p).rx = .length) (b : Byte) :
    receiveByte p b s = if 3 ≤ b.toNat ∧ b.toNat ≤ 123 then setRx p .body ((s.port p).buf ++ [b]) s
      else countOn p countLengthDrop (setRx p .hunt [] s) := by
  simp only [receiveByte, hrx]

theorem receiveByte_body (hrx : (s.port p).rx = .body) (b : Byte) :
    receiveByte p b s
      = setRx p (if bodyDone ((s.port p).buf ++ [b]) then .check else .body) ((s.port p).buf ++ [b]) s := by
  simp only [receiveByte, hrx]

theorem receiveByte_check (hrx : (s.port p).rx = .check) (b : Byte) :
    receiveByte p b s = judgeFrame p ((s.port p).buf ++ [b]) (setRx p .hunt [] s) := by
  simp only [receiveByte, hrx]

/-- A LENGTH outside 3-123. -/
theorem receiveByte_badLength {b : Byte} (hrx : (s.port p).rx = .length) (hbad : ¬(3 ≤ b.toNat ∧ b.toNat ≤ 123)) :
    receiveByte p b s = modPort p (fun q => { q with
      rx := .hunt, buf := []
      counters := { q.counters with lengthDrop := min (q.counters.lengthDrop + 1) 65535 } }) s := by
  rw [receiveByte_length hrx, if_neg hbad]
  exact modPort_modPort p _ _ s

theorem bodyDone_iff (buf : List Byte) : bodyDone buf = true ↔ buf.length = (buf.getD 1 0).toNat + 2 := beq_iff_eq

theorem abandonFrame_eq : abandonFrame p s = if (s.port p).rx = .hunt then s
    else modPort p (fun q => { q with
      rx := .hunt, buf := []
      counters := { q.counters with abandon := min (q.counters.abandon + 1) 65535 } }) s := by
  unfold abandonFrame
  rw [countOn, setRx, modPort_modPort]
  rfl

/-- Settles O8: the row of each receiver state, and a frame abandoned. -/
theorem receiverStates : Obligations.ReceiverStates := by
  intro p s
  refine ⟨fun b => congrArg Host.Outcome.next ?_, fun c hc => ?_⟩
  · cases hrx : (s.port p).rx with
    | hunt =>
      rw [receiveByte_hunt hrx]
      split
      · next hsync => subst hsync; rfl
      · rfl
    | length =>
      dsimp only
      split
      · next hlength =>
        rw [receiveByte_length hrx, if_pos hlength]
        exact modPort_congr rfl
      · next hbad => exact receiveByte_badLength hrx hbad
    | body =>
      rw [receiveByte_body hrx]
      exact modPort_congr (by simp only [bodyDone_iff])
    | check => exact receiveByte_check hrx b
  · rcases hc with rfl | rfl
    · exact congrArg Host.Outcome.next abandonFrame_eq
    · exact congrArg Host.Outcome.next abandonFrame_eq

/-! ### The judgement of a frame (R166) -/

section

variable {bytes : List Byte}

theorem judgeFrame_unfit (hwalk : walkRecords ((bytes.drop 5).dropLast) = none) :
    judgeFrame p bytes s = countOn p countLengthDrop s := by
  have hrecords : walkRecords (frameRecords bytes) = none := hwalk
  simp only [judgeFrame, hrecords]

variable {rs : List Rec}

theorem judgeFrame_good (hwalk : walkRecords ((bytes.drop 5).dropLast) = some rs)
    (hsum : byteSum (bytes.drop 1) % 256 = 0) :
    judgeFrame p bytes s = routeGood p bytes rs (countOn p countGoodFrame s) := by
  have hrecords : walkRecords (frameRecords bytes) = some rs := hwalk
  have hgood : checkGood bytes = true := beq_iff_eq.mpr hsum
  simp only [judgeFrame, hrecords, hgood, if_true]

theorem judgeFrame_badCheck (hwalk : walkRecords ((bytes.drop 5).dropLast) = some rs)
    (hsum : byteSum (bytes.drop 1) % 256 ≠ 0) :
    judgeFrame p bytes s = forward p bytes (countOn p countCheckFail s) := by
  have hrecords : walkRecords (frameRecords bytes) = some rs := hwalk
  have hbad : checkGood bytes = false := beq_eq_false_iff_ne.mpr hsum
  simp only [judgeFrame, hrecords, hbad, Bool.false_eq_true, if_false]

end

/-- Settles O9: the three judgements of a frame, and a LENGTH outside 3-123. -/
theorem frameJudged : Obligations.FrameJudged := by
  intro p s
  refine ⟨fun check hrx => congrArg Host.Outcome.next ?_, fun b hrx hbad => congrArg Host.Outcome.next ?_⟩
  · rw [receiveByte_check hrx]
    dsimp only
    cases hwalk : walkRecords ((((s.port p).buf ++ [check]).drop 5).dropLast) with
    | none => exact judgeFrame_unfit hwalk
    | some rs =>
      dsimp only
      split
      · next hsum => exact judgeFrame_good hwalk hsum
      · next hsum => exact judgeFrame_badCheck hwalk hsum
  · exact receiveByte_badLength hrx (by omega)

/-! ### A whole frame, byte by byte (R161, R165, R166) -/

/-- Bytes received one after another at a port. -/
def receiveAll (p : Port) (bytes : List Byte) (s : State) : State := bytes.foldl (fun t b => receiveByte p b t) s

theorem execAll_received (bytes : List Byte) (s : State) :
    execAll (bytes.map (Instr.receivedByte p)) s = .next (receiveAll p bytes s) := by
  induction bytes generalizing s with
  | nil => rfl
  | cons b rest ih => exact ih (receiveByte p b s)

theorem receiveAll_append (as bs : List Byte) (s : State) :
    receiveAll p (as ++ bs) s = receiveAll p bs (receiveAll p as s) := List.foldl_append

theorem setRx_setRx (p : Port) (rx rx' : RxState) (buf buf' : List Byte) (s : State) :
    setRx p rx' buf' (setRx p rx buf s) = setRx p rx' buf' s := modPort_modPort p _ _ s

theorem port_setRx (p : Port) (rx : RxState) (buf : List Byte) (s : State) :
    (setRx p rx buf s).port p = { s.port p with rx := rx, buf := buf } := port_modPort p _ s

theorem receiveByte_setBody (buf : List Byte) (b : Byte) (s : State) : receiveByte p b (setRx p .body buf s)
    = setRx p (if bodyDone (buf ++ [b]) then .check else .body) (buf ++ [b]) s := by
  have hport := port_setRx p .body buf s
  rw [receiveByte_body (by rw [hport]), hport, setRx_setRx]

/-- The bytes after LENGTH join the buffer, and the last of them ends the body. -/
theorem receiveAll_body {buf body : List Byte} (hhead : 2 ≤ buf.length) (hbody : body ≠ [])
    (hlength : buf.length + body.length = (buf.getD 1 0).toNat + 2) (s : State) :
    receiveAll p body (setRx p .body buf s) = setRx p .check (buf ++ body) s := by
  induction body generalizing buf with
  | nil => exact absurd rfl hbody
  | cons b rest ih =>
    rw [List.length_cons] at hlength
    have hlong : (buf ++ [b]).length = buf.length + 1 := List.length_append
    have hbyte : (buf ++ [b]).getD 1 0 = buf.getD 1 0 := List.getD_append _ _ _ _ hhead
    have hdone : bodyDone (buf ++ [b]) = true ↔ rest = [] := by
      rw [bodyDone_iff, hbyte, hlong, ← List.length_eq_zero_iff]
      omega
    show receiveAll p rest (receiveByte p b (setRx p .body buf s)) = _
    rw [receiveByte_setBody]
    by_cases hrest : rest = []
    · rw [if_pos (hdone.mpr hrest), hrest]
      rfl
    · rw [if_neg (mt hdone.mp hrest), ih (by omega) hrest (by rw [hbyte, hlong]; omega), List.append_assoc]
      rfl

/-- A frame of LENGTH 3-123 reaches a hunting receiver whole, and is judged. -/
theorem receiveAll_frame {length check : Byte} {body : List Byte} (hrx : (s.port p).rx = .hunt)
    (hlow : 3 ≤ length.toNat) (hhigh : length.toNat ≤ 123) (hbody : body.length = length.toNat) :
    receiveAll p (0xC3 :: length :: (body ++ [check])) s
      = judgeFrame p (0xC3 :: length :: (body ++ [check])) (setRx p .hunt [] s) := by
  have hsync : receiveByte p 0xC3 s = setRx p .length [0xC3] s := by rw [receiveByte_hunt hrx, if_pos rfl]
  have hlengthByte : receiveByte p length (setRx p .length [0xC3] s) = setRx p .body [0xC3, length] s := by
    have hport := port_setRx p .length [0xC3] s
    rw [receiveByte_length (by rw [hport]), if_pos ⟨hlow, hhigh⟩, hport, setRx_setRx]
    rfl
  have hwhole : receiveAll p body (setRx p .body [0xC3, length] s) = setRx p .check (0xC3 :: length :: body) s :=
    receiveAll_body (buf := [0xC3, length]) (Nat.le_refl 2) (List.ne_nil_of_length_pos (by omega))
      (by simp [hbody, Nat.add_comm]) s
  have hcheck : receiveByte p check (setRx p .check (0xC3 :: length :: body) s)
      = judgeFrame p (0xC3 :: length :: (body ++ [check])) (setRx p .hunt [] s) := by
    have hport := port_setRx p .check (0xC3 :: length :: body) s
    rw [receiveByte_check (by rw [hport]), hport, setRx_setRx]
    rfl
  calc receiveAll p (0xC3 :: length :: (body ++ [check])) s
      = receiveAll p (body ++ [check]) (receiveByte p length (receiveByte p 0xC3 s)) := rfl
    _ = receiveByte p check (receiveAll p body (setRx p .body [0xC3, length] s)) := by
      rw [hsync, hlengthByte, receiveAll_append]
      rfl
    _ = judgeFrame p (0xC3 :: length :: (body ++ [check])) (setRx p .hunt [] s) := by rw [hwhole, hcheck]

/-- Settles O10: the bytes are received as one frame, whose records walk and whose sum is good. -/
theorem framesReceived : Obligations.FramesReceived := by
  intro p dest src kind records rs s hlength hwalk hrx
  have hbyte : (BitVec.ofNat 8 (records.length + 3)).toNat = records.length + 3 := by
    rw [BitVec.toNat_ofNat]
    omega
  have hreceived : receiveAll p (frameBytes dest src kind records) s
      = judgeFrame p (frameBytes dest src kind records) (setRx p .hunt [] s) :=
    receiveAll_frame (body := dest :: src :: kind :: records) hrx (by omega) (by omega) (by rw [hbyte]; rfl)
  have hcounted : countOn p countGoodFrame (setRx p .hunt [] s) = modPort p (fun q => { q with
      buf := [], counters := { q.counters with good := min (q.counters.good + 1) 65535 } }) s := by
    rw [countOn, setRx, modPort_modPort]
    exact modPort_congr (by rw [← hrx]; rfl)
  rw [execAll_received, hreceived, judgeFrame_good (by rw [records_frameBytes, hwalk]) (byteSum_frameBytes ..), hcounted]

end

end Sys2Proof.Machine

/-! ## The supervisory port's take, and forwarding (R168, R170, R171) -/

namespace Sys2Proof.Machine

section

variable {s : State}

/-! ### The take, row by row (R170) -/

section

variable (hidle : s.sup.tx = none)

include hidle

theorem supTake_response {r : Response} {rest : List Response} (hresponses : s.responses = r :: rest) :
    supTake s = { s with responses := rest, sup := { s.sup with tx := some (.response r) } } := by
  simp [supTake, hidle, hresponses, beginSend, modPort]

variable (hresponses : s.responses = [])

include hresponses

theorem supTake_nothing (hfwd : s.sup.fwd = []) (hnotices : s.alarms.notices = []) : supTake s = s := by
  simp [supTake, hidle, hresponses, hfwd, hnotices]

theorem supTake_forwarded {f : List Byte} {fs : List (List Byte)} (hfwd : s.sup.fwd = f :: fs)
    (hnotices : s.alarms.notices = []) :
    supTake s = { s with sup := { s.sup with tx := some (.forwarded f), fwd := fs, runCount := 0 } } := by
  simp [supTake, hidle, hresponses, hfwd, hnotices]

theorem supTake_notice {n : Notice} {ns : List Notice} (hfwd : s.sup.fwd = []) (hnotices : s.alarms.notices = n :: ns) :
    supTake s = { s with
      sup := { s.sup with tx := some (.notice n), runCount := 0 }, alarms := { s.alarms with notices := ns } } := by
  simp [supTake, hidle, hresponses, hfwd, hnotices, modPort, modAlarms]

variable {f : List Byte} {fs : List (List Byte)} {n : Notice} {ns : List Notice} (hfwd : s.sup.fwd = f :: fs)
  (hnotices : s.alarms.notices = n :: ns)

include hfwd hnotices

theorem supTake_forwarded_run (hrun : s.sup.runCount < 4) : supTake s = { s with
    sup := { s.sup with tx := some (.forwarded f), fwd := fs, runCount := s.sup.runCount + 1 } } := by
  simp [supTake, hidle, hresponses, hfwd, hnotices, hrun]

theorem supTake_notice_run (hrun : ¬s.sup.runCount < 4) : supTake s = { s with
    sup := { s.sup with tx := some (.notice n), runCount := 0 }, alarms := { s.alarms with notices := ns } } := by
  simp [supTake, hidle, hresponses, hfwd, hnotices, hrun, modPort, modAlarms]

end

theorem completeTx_supervisory {x : TxFrame} (hbusy : s.sup.tx = some x) :
    completeTx .supervisory s = supTake (freeTx .supervisory s) := by
  have hport : (s.port .supervisory).tx = some x := hbusy
  simp only [completeTx, hport]

/-- Settles O14: the take by what waits, at the idle port and after a completion. -/
theorem supervisoryArbiter : Obligations.SupervisoryArbiter := by
  intro s took
  have htake (u : State) (hidle : u.sup.tx = none) : supTake u = took u := by
    cases hresponses : u.responses with
    | cons r rest => simp only [took, hresponses, supTake_response hidle hresponses]
    | nil =>
      cases hfwd : u.sup.fwd with
      | nil =>
        cases hnotices : u.alarms.notices with
        | nil => simp only [took, hresponses, hfwd, hnotices, supTake_nothing hidle hresponses hfwd hnotices]
        | cons n ns => simp only [took, hresponses, hfwd, hnotices, supTake_notice hidle hresponses hfwd hnotices]
      | cons f fs =>
        cases hnotices : u.alarms.notices with
        | nil => simp only [took, hresponses, hfwd, hnotices, supTake_forwarded hidle hresponses hfwd hnotices]
        | cons n ns =>
          by_cases hrun : u.sup.runCount < 4
          · simp only [took, hresponses, hfwd, hnotices, hrun, if_true,
              supTake_forwarded_run hidle hresponses hfwd hnotices hrun]
          · simp only [took, hresponses, hfwd, hnotices, hrun, if_false,
              supTake_notice_run hidle hresponses hfwd hnotices hrun]
  refine ⟨htake s, fun x hbusy => congrArg Host.Outcome.next ?_⟩
  rw [completeTx_supervisory hbusy]
  exact htake (freeTx .supervisory s) rfl

/-! ### Forwarding (R168, R171) -/

theorem fieldTake_of_busy (hbusy : s.field.tx ≠ none) : fieldTake s = s :=
  if_pos (Option.isSome_iff_ne_none.mpr hbusy)

theorem portTake_of_busy (p : Port) (hbusy : (s.port p).tx ≠ none) : portTake p s = s := by
  cases p with
  | field => exact fieldTake_of_busy hbusy
  | supervisory => exact supTake_of_busy hbusy

/-- With one forwarded frame and nothing else waiting, the idle port sends it. -/
theorem portTake_only {f : List Byte} (p : Port) (hidle : (s.port p).tx = none) (hfwd : (s.port p).fwd = [f])
    (hqueue : s.dispatcher.queue = []) (hresponses : s.responses = []) (hnotices : s.alarms.notices = []) :
    portTake p s = modPort p (fun q => { q with tx := some (.forwarded f), fwd := [], runCount := 0 }) s := by
  cases p with
  | field => exact fieldTake_forwarded hidle hqueue hfwd
  | supervisory => exact supTake_forwarded hidle hresponses hfwd hnotices

theorem forward_of_room {p : Port} (bytes : List Byte) (hroom : (s.port (otherPort p)).fwd.length < 8) :
    forward p bytes s = portTake (otherPort p) (modPort (otherPort p) (fun q => { q with fwd := q.fwd ++ [bytes] }) s) :=
  if_neg (Nat.not_le.mpr hroom)

/-- Settles O12: a full queue, a busy port, and an idle port with nothing else waiting. -/
theorem forwardQueue : Obligations.ForwardQueue := by
  intro p bytes s
  refine ⟨fun hfull => if_pos hfull, fun hroom hbusy => ?_, fun hempty hidle hqueue hresponses hnotices => ?_⟩
  · rw [forward_of_room bytes hroom, portTake_of_busy]
    rw [port_modPort]
    exact hbusy
  · rw [forward_of_room bytes (by rw [hempty]; decide), portTake_only (f := bytes) (otherPort p), modPort_modPort]
    · exact modPort_congr (by rw [← hempty])
    · rw [port_modPort]; exact hidle
    · rw [port_modPort, hempty]; rfl
    · rw [modPort_dispatcher]; exact hqueue
    · rw [modPort_responses]; exact hresponses
    · rw [modPort_alarms]; exact hnotices

end

end Sys2Proof.Machine

/-! ## A request frame by its records (R18, R170, R171, R175, R176) -/

namespace Sys2Proof.Machine

section

variable {s : State} {rs : List Rec} {r : Rec} {c : List Byte}

/-! ### The judgement (R175) -/

/-- A full response queue drops the request (R175). -/
theorem asked_of_full (hfull : 6 ≤ s.responses.length) (code : Byte) (op : State → State × Reply) :
    asked code op s = s := by simp [asked, hfull]

theorem codeOf_many (hcount : rs.length ≠ 1) : codeOf rs = 0 := by
  match rs, hcount with
  | [], _ | _ :: _ :: _, _ => rfl

theorem judgeRequest_many (hcount : rs.length ≠ 1) : judgeRequest rs s = refuse .badFormat s := by
  match rs, hcount with
  | [], _ | _ :: _ :: _, _ => rfl

theorem judgeRequest_unknown (htag : r.tag.toNat < 0x40 ∨ 0x4C < r.tag.toNat) :
    judgeRequest [r] s = refuse .unknownRequest s := by
  have hunknown : ¬isRequest r.tag = true := fun h => by
    obtain ⟨hlow, hhigh⟩ := of_decide_eq_true h
    omega
  exact if_neg hunknown

theorem judgeRequest_known (hlow : 0x40 ≤ r.tag.toNat) (hhigh : r.tag.toNat ≤ 0x4C) :
    judgeRequest [r] s = requestOf r.tag.toNat r.content s := if_pos (decide_eq_true ⟨hlow, hhigh⟩)

/-! ### A size that is not the request's (R176) -/

section

variable {α : Type} {f : List Byte → α} {a : α}

theorem eq_of_size_ne_zero (hcons : ∀ x l, f (x :: l) = a) (hsize : c.length ≠ 0) : f c = a := by
  match c, hsize with
  | _ :: _, _ => exact hcons ..

theorem eq_of_size_ne_two (hnil : f [] = a) (hone : ∀ x, f [x] = a) (hlong : ∀ x y z l, f (x :: y :: z :: l) = a)
    (hsize : c.length ≠ 2) : f c = a := by
  match c, hsize with
  | [], _ => exact hnil
  | [_], _ => exact hone _
  | _ :: _ :: _ :: _, _ => exact hlong ..

theorem eq_of_size_ne_three (hnil : f [] = a) (hone : ∀ x, f [x] = a) (htwo : ∀ x y, f [x, y] = a)
    (hlong : ∀ x y z w l, f (x :: y :: z :: w :: l) = a) (hsize : c.length ≠ 3) : f c = a := by
  match c, hsize with
  | [], _ => exact hnil
  | [_], _ => exact hone _
  | [_, _], _ => exact htwo ..
  | _ :: _ :: _ :: _ :: _, _ => exact hlong ..

theorem eq_of_size_ne_five (hnil : f [] = a) (hone : ∀ x, f [x] = a) (htwo : ∀ x y, f [x, y] = a)
    (hthree : ∀ x y z, f [x, y, z] = a) (hfour : ∀ x y z w, f [x, y, z, w] = a)
    (hlong : ∀ x y z w v u l, f (x :: y :: z :: w :: v :: u :: l) = a) (hsize : c.length ≠ 5) : f c = a := by
  match c, hsize with
  | [], _ => exact hnil
  | [_], _ => exact hone _
  | [_, _], _ => exact htwo ..
  | [_, _, _], _ => exact hthree ..
  | [_, _, _, _], _ => exact hfour ..
  | _ :: _ :: _ :: _ :: _ :: _ :: _, _ => exact hlong ..

end

/-- The sizes of the requests by their tags, but for WRITE TABLE's (R176). -/
def requestSizes : List (Nat × Nat) := [(0x40, 3), (0x42, 2), (0x43, 5), (0x44, 0), (0x45, 0), (0x46, 2), (0x47, 2),
  (0x48, 5), (0x49, 2), (0x4A, 0), (0x4B, 0), (0x4C, 0)]

theorem known_of_size {tag n : Nat} (hsize : (tag, n) ∈ requestSizes) : 0x40 ≤ tag ∧ tag ≤ 0x4C := by
  have hall : ∀ x ∈ requestSizes, 0x40 ≤ x.1 ∧ x.1 ≤ 0x4C := by decide
  exact hall _ hsize

theorem requestOf_badSize {tag n : Nat} (hsize : (tag, n) ∈ requestSizes) (hc : c.length ≠ n) :
    requestOf tag c = refuse .badFormat := by
  simp only [requestSizes, List.mem_cons, List.not_mem_nil, or_false, Prod.mk.injEq] at hsize
  rcases hsize with ⟨rfl, rfl⟩ | ⟨rfl, rfl⟩ | ⟨rfl, rfl⟩ | ⟨rfl, rfl⟩ | ⟨rfl, rfl⟩ | ⟨rfl, rfl⟩ | ⟨rfl, rfl⟩ | ⟨rfl, rfl⟩
    | ⟨rfl, rfl⟩ | ⟨rfl, rfl⟩ | ⟨rfl, rfl⟩ | ⟨rfl, rfl⟩
  · exact eq_of_size_ne_three rfl (fun _ => rfl) (fun _ _ => rfl) (fun _ _ _ _ _ => rfl) hc
  · exact eq_of_size_ne_two rfl (fun _ => rfl) (fun _ _ _ _ => rfl) hc
  · exact eq_of_size_ne_five rfl (fun _ => rfl) (fun _ _ => rfl) (fun _ _ _ => rfl) (fun _ _ _ _ => rfl)
      (fun _ _ _ _ _ _ _ => rfl) hc
  · exact eq_of_size_ne_zero (fun _ _ => rfl) hc
  · exact eq_of_size_ne_zero (fun _ _ => rfl) hc
  · exact eq_of_size_ne_two rfl (fun _ => rfl) (fun _ _ _ _ => rfl) hc
  · exact eq_of_size_ne_two rfl (fun _ => rfl) (fun _ _ _ _ => rfl) hc
  · exact eq_of_size_ne_five rfl (fun _ => rfl) (fun _ _ => rfl) (fun _ _ _ => rfl) (fun _ _ _ _ => rfl)
      (fun _ _ _ _ _ _ _ => rfl) hc
  · exact eq_of_size_ne_two rfl (fun _ => rfl) (fun _ _ _ _ => rfl) hc
  · exact eq_of_size_ne_zero (fun _ _ => rfl) hc
  · exact eq_of_size_ne_zero (fun _ _ => rfl) hc
  · exact eq_of_size_ne_zero (fun _ _ => rfl) hc

/-- A WRITE TABLE shorter than its three parameters. -/
theorem requestOf_shortWrite (hc : c.length < 3) : requestOf 0x41 c = refuse .badFormat := by
  match c, hc with
  | [], _ | [_], _ | [_, _], _ => rfl

/-! ### The response (R170, R171) -/

section

variable {code : Byte} {result : Result} {d : RespData} (hroom : s.responses.length < 6)

include hroom

theorem respond_of_room : respond code result d s
    = supTake { s with responses := s.responses ++ [⟨s.site.supervisor, s.ownAddr, code, result, d⟩] } :=
  if_neg (Nat.not_le.mpr hroom)

theorem respond_of_busy (hbusy : s.sup.tx ≠ none) : respond code result d s
    = { s with responses := s.responses ++ [⟨s.site.supervisor, s.ownAddr, code, result, d⟩] } := by
  rw [respond_of_room hroom]
  exact supTake_of_busy hbusy

omit hroom in
/-- The idle port sends the oldest of the responses queued. -/
theorem supTake_queued {l xs : List Response} {x : Response} (hidle : s.sup.tx = none) (hl : l = x :: xs) :
    supTake { s with responses := l } = { s with responses := xs, sup := { s.sup with tx := some (.response x) } } :=
  supTake_response (s := { s with responses := l }) hidle hl

theorem respond_of_idle_empty (hidle : s.sup.tx = none) (hresponses : s.responses = []) : respond code result d s
    = { s with sup := { s.sup with tx := some (.response ⟨s.site.supervisor, s.ownAddr, code, result, d⟩) } } := by
  rw [respond_of_room hroom, supTake_queued hidle (by rw [hresponses, List.nil_append])]
  simp only [hresponses]

theorem respond_of_idle_waiting {x : Response} {xs : List Response} (hidle : s.sup.tx = none)
    (hresponses : s.responses = x :: xs) : respond code result d s
    = { s with
        responses := xs ++ [⟨s.site.supervisor, s.ownAddr, code, result, d⟩]
        sup := { s.sup with tx := some (.response x) } } := by
  rw [respond_of_room hroom]
  exact supTake_queued hidle (by rw [hresponses, List.cons_append])

end

/-- Settles O29: R175's cases in order, each answered through the response queue. -/
theorem requestGate : Obligations.RequestGate := by
  intro records rs s haddr hwalk answered
  have hexec : exec (.mgmtRequestMalformed records) s = .next (takeRequest rs s) := by
    show Host.Outcome.next _ = _
    rw [hwalk]
  refine ⟨fun hfull => ?_, fun hroom => ?_⟩
  · rw [hexec, takeRequest, asked_of_full hfull]
  have hanswered {code : Byte} {result : Result} (h : takeRequest rs s = respond code result .none s) :
      answered code result := by
    refine (hexec.trans (congrArg Host.Outcome.next h)).trans (congrArg Host.Outcome.next ?_)
    split
    · next hbusy => exact respond_of_busy hroom hbusy
    · next hidle =>
      have hidle := not_not.mp hidle
      split
      · next hresponses => exact respond_of_idle_empty hroom hidle hresponses
      · next x xs hresponses => exact respond_of_idle_waiting hroom hidle hresponses
  refine ⟨fun hstartup => hanswered ?_, fun hserving => ?_⟩
  · rw [takeRequest, asked_in_startup haddr hstartup, if_neg (Nat.not_le.mpr hroom)]
    rfl
  have hserved : takeRequest rs s = answer (codeOf rs) (judgeRequest rs s) :=
    asked_of_serves ⟨haddr, hroom, hserving⟩ _ _
  have hrefused {result : Result} (h : judgeRequest rs s = refuse result s) : answered (codeOf rs) result :=
    hanswered (by rw [hserved, h, answer_refuse])
  refine ⟨fun hcount => ?_, fun r hr htag => ?_, fun r n hr hsize hc => ?_, fun r hr htag hc => ?_⟩
  · rw [← codeOf_many hcount]
    exact hrefused (judgeRequest_many hcount)
  · subst hr
    exact hrefused (judgeRequest_unknown htag)
  · subst hr
    obtain ⟨hlow, hhigh⟩ := known_of_size hsize
    exact hrefused (by rw [judgeRequest_known hlow hhigh, requestOf_badSize hsize hc])
  · subst hr
    have hcode : r.tag.toNat = 0x41 := by rw [htag]; rfl
    exact hrefused (by rw [judgeRequest_known (by omega) (by omega), hcode, requestOf_shortWrite hc])

end

end Sys2Proof.Machine

/-! ## What the assembly buffers hold (R165)

The operations beside the receivers keep `State.Assembled` as they keep any invariant that reads neither a receiver nor its
buffer: those of the shared layer by `Kept`, the others by the frames they have. The receiver's own table is
`assembled_receiveByte`. `KeptWhole` does not serve here: its updates of a port include every change of a receiver. -/

namespace Sys2Proof.Machine

section

variable {s t : State}

/-! ### One receiver -/

theorem PortState.assembled_of_same {p q : PortState} (hrx : q.rx = p.rx) (hbuf : q.buf = p.buf) (hp : p.Assembled) :
    q.Assembled := by
  unfold PortState.Assembled
  rw [hrx, hbuf]
  exact hp

theorem State.Assembled.port (hs : s.Assembled) (p : Port) : (s.port p).Assembled := by
  cases p with
  | field => exact hs.1
  | supervisory => exact hs.2

/-- A byte in BODY: the body goes on, or is complete after LENGTH bytes. -/
theorem PortState.assembled_body {q : PortState} (hrx : q.rx = .body) (hq : q.Assembled) (b : Byte) :
    ({ q with rx := if bodyDone (q.buf ++ [b]) then .check else .body, buf := q.buf ++ [b] } : PortState).Assembled := by
  obtain ⟨hsync, hlow, hhigh, htwo, hshort⟩ : q.buf.take 1 = [0xC3] ∧ 3 ≤ (q.buf.getD 1 0).toNat
      ∧ (q.buf.getD 1 0).toNat ≤ 123 ∧ 2 ≤ q.buf.length ∧ q.buf.length < (q.buf.getD 1 0).toNat + 2 := by
    simpa only [PortState.Assembled, hrx] using hq
  have hsync' : (q.buf ++ [b]).take 1 = [0xC3] := (List.take_append_of_le_length (by omega)).trans hsync
  have hbyte : (q.buf ++ [b]).getD 1 0 = q.buf.getD 1 0 := List.getD_append _ _ _ _ htwo
  have hlength : (q.buf ++ [b]).length = q.buf.length + 1 := List.length_append
  by_cases hd : bodyDone (q.buf ++ [b]) = true
  · rw [if_pos hd]
    exact ⟨hsync', by rw [hbyte]; exact hlow, by rw [hbyte]; exact hhigh, (bodyDone_iff _).mp hd⟩
  · rw [if_neg hd]
    refine ⟨hsync', by rw [hbyte]; exact hlow, by rw [hbyte]; exact hhigh, ?_, ?_⟩
    · show 2 ≤ (q.buf ++ [b]).length
      omega
    · show (q.buf ++ [b]).length < ((q.buf ++ [b]).getD 1 0).toNat + 2
      have hne := mt (bodyDone_iff _).mpr hd
      rw [hbyte, hlength] at hne ⊢
      omega

/-! ### Frames -/

theorem assembled_of_apartHouses (h : t.apartHouses = s.apartHouses) (hs : s.Assembled) : t.Assembled := by
  have hfield := congrArg (fun u : State => (u.field.rx, u.field.buf)) h
  have hsup := congrArg (fun u : State => (u.sup.rx, u.sup.buf)) h
  obtain ⟨hfrx, hfbuf⟩ := Prod.mk.inj hfield
  obtain ⟨hsrx, hsbuf⟩ := Prod.mk.inj hsup
  exact ⟨PortState.assembled_of_same hfrx hfbuf hs.1, PortState.assembled_of_same hsrx hsbuf hs.2⟩

theorem assembled_of_apartOrders (h : t.apartOrders = s.apartOrders) : s.Assembled → t.Assembled :=
  assembled_of_apartHouses (apartHouses_of_apartOrders h)

theorem assembled_of_apartAlarms (h : t.apartAlarms = s.apartAlarms) : s.Assembled → t.Assembled :=
  assembled_of_apartOrders (apartOrders_of_apartAlarms h)

/-- The operations of the shared layer reach no receiver. -/
theorem kept_assembled : Kept State.Assembled where
  same hs h := by
    simp only [State.boundParts, Prod.mk.injEq] at h
    obtain ⟨-, -, -, -, -, -, -, -, hfield, hsup⟩ := h
    exact ⟨hfield ▸ hs.1, hsup ▸ hs.2⟩
  pump _ _ _ hs := hs
  raised k o v d := assembled_of_apartAlarms (apartAlarms_raise _ k o v d)
  cleared k o := assembled_of_apartAlarms (apartAlarms_clear _ k o)
  arbiter _ _ hs := hs
  requested h p u := assembled_of_apartOrders (apartOrders_placeRequest _ keeps_starting h p u)
  placed forced h := assembled_of_apartOrders (apartOrders_placeOrders _ forced h)

theorem holds_live_assembled : Ctx.live.Holds State.Assembled := fun s => assembled_of_apartOrders (apartOrders_fieldTake s)

theorem assembled_respond (c : Byte) (r : Result) (d : RespData) : s.Assembled → (respond c r d s).Assembled :=
  assembled_of_apartAlarms (apartAlarms_respond s c r d)

/-! ### Ports (R165, R168, R171) -/

theorem assembled_modPort (p : Port) (f : PortState → PortState) (hf : (s.port p).Assembled → (f (s.port p)).Assembled)
    (hs : s.Assembled) : (modPort p f s).Assembled := by
  cases p with
  | field => exact ⟨hf hs.1, hs.2⟩
  | supervisory => exact ⟨hs.1, hf hs.2⟩

theorem assembled_countOn (p : Port) (f : Counters → Counters) : s.Assembled → (countOn p f s).Assembled :=
  assembled_modPort p _ id

theorem assembled_setHunt (p : Port) : s.Assembled → (setRx p .hunt [] s).Assembled := assembled_modPort p _ fun _ => rfl

theorem assembled_abandonFrame (p : Port) (hs : s.Assembled) : (abandonFrame p s).Assembled := by
  unfold abandonFrame
  split
  · exact hs
  · exact assembled_countOn p _ (assembled_setHunt p hs)

theorem assembled_forward (p : Port) (bytes : List Byte) (hs : s.Assembled) : (forward p bytes s).Assembled := by
  unfold forward
  split
  · exact assembled_modPort p _ id hs
  · exact assembled_of_apartOrders (apartOrders_portTake _ _) (assembled_modPort _ _ id hs)

theorem assembled_stampSlot (e : DispEntry) (c : SlotId) (hs : s.Assembled) : (stampSlot e s c).Assembled := by
  unfold stampSlot
  split
  · exact kept_atHouseOf _ (fun _ _ ht => ht) hs
  · split
    · exact hs
    · exact hs

theorem assembled_completeDispatch (hs : s.Assembled) : (completeDispatch s).Assembled := by
  unfold completeDispatch
  split
  · exact hs
  · exact assembled_of_apartOrders ((apartOrders_setInTx _ _).trans (apartOrders_setRefresh _ _ _))
      (kept_derive kept_assembled holds_quiet false _ (kept_foldl (fun _ c => assembled_stampSlot _ c) allSlots hs))

theorem assembled_completeTx (p : Port) (hs : s.Assembled) : (completeTx p s).Assembled := by
  have hfree (p : Port) {u : State} (hu : u.Assembled) : (freeTx p u).Assembled := assembled_modPort p _ id hu
  unfold completeTx
  split
  · exact hs
  · exact assembled_of_apartOrders (apartOrders_fieldTake _) (hfree .field (assembled_completeDispatch hs))
  · exact assembled_of_apartOrders (apartOrders_fieldTake _) (hfree .field hs)
  · exact assembled_of_apartAlarms (apartAlarms_supTake _) (hfree .supervisory hs)

/-! ### The engine (R20-R23, R96, R97, R145, R185) -/

theorem assembled_startEngine (hs : s.Assembled) : (startEngine s).Assembled :=
  assembled_of_apartHouses (apartHouses_startEngine s) hs

theorem assembled_autoRun (hs : s.Assembled) : (autoRun s).Assembled := by
  unfold autoRun
  split
  · exact hs
  · split
    · exact assembled_startEngine hs
    · exact hs

theorem assembled_handRelease (before : State) (hs : s.Assembled) : (handRelease before s).Assembled :=
  kept_onlyIf _ (fun _ => kept_shed kept_assembled holds_live_assembled)
    (kept_loadChanged kept_assembled holds_live_assembled _ hs)

theorem assembled_releaseRecord (h : HouseId) (hs : s.Assembled) : (releaseRecord h s).Assembled :=
  kept_modHouse kept_assembled h _ (assembled_of_apartAlarms (apartAlarms_clearHouseAlarms h s) hs)

theorem assembled_stopEngine (hs : s.Assembled) : (stopEngine s).Assembled := by
  have hreleased : (refreshIdle (releaseAll (emptyArbiter { s with engine := .standby }))).Assembled :=
    assembled_of_apartOrders ((apartOrders_refreshIdle _).trans (apartOrders_releaseAll _)) hs
  have hpumps := kept_foldl (fun _ p => kept_releasePump kept_assembled p) allPumps hreleased
  unfold stopEngine
  have hrecords := kept_foldl (fun _ h => assembled_releaseRecord h) allHouses hpumps
  exact assembled_of_apartOrders (apartOrders_fieldTake _) (assembled_handRelease s hrecords)

theorem assembled_leaveAuto (h : HouseId) (m : Mode) (hs : s.Assembled) : (leaveAuto h m s).Assembled := by
  have hleaving : (fieldTake (leaving h m s)).Assembled :=
    assembled_of_apartOrders (apartOrders_fieldTake _) (assembled_of_apartOrders (apartOrders_leaving h m s) hs)
  rw [leaveAuto_eq]
  exact assembled_handRelease _
    (assembled_of_apartHouses (apartHouses_of_apartHouse h (apartHouse_left h _)) hleaving)

theorem assembled_enterAuto (h : HouseId) (hs : s.Assembled) : (enterAuto h s).Assembled :=
  kept_derive kept_assembled holds_live_assembled true h
    (kept_mark kept_assembled h (kept_adoptHouse kept_assembled holds_starting h hs))

theorem assembled_changeMode (h : HouseId) (m : Mode) (hs : s.Assembled) : (changeMode h m s).Assembled := by
  unfold changeMode
  dsimp only
  split
  · exact hs
  · split
    · exact hs
    · split
      · exact assembled_leaveAuto h m hs
      · split
        · exact assembled_enterAuto h hs
        · exact hs

theorem assembled_resetLive (hs : s.Assembled) : (resetLive s).Assembled := hs

theorem assembled_restartEngine (hs : s.Assembled) : (restartEngine s).Assembled := by
  have hreleased : (if s.engine = .run then releaseAll s else s).Assembled := by
    split
    · exact assembled_of_apartOrders (apartOrders_releaseAll s) hs
    · exact hs
  unfold restartEngine
  exact assembled_of_apartOrders (apartOrders_fieldTake _) (kept_latchNow kept_assembled holds_quiet .restart
    (assembled_resetLive (kept_accrueAll kept_assembled allPumps hreleased)))

/-! ### Requests (R175-R185) -/

theorem assembled_asked (code : Byte) {op : State → State × Reply} (hop : KeepsServed State.Assembled op)
    (hs : s.Assembled) : (asked code op s).Assembled := by
  unfold asked answer
  split
  · exact hs
  · split
    · exact assembled_respond _ _ _ hs
    · next he =>
      split
      · exact hop s he hs
      · exact assembled_respond _ _ _ (hop s he hs)

theorem assembled_readTable (table index count : Byte) : KeepsServed State.Assembled (readTable table index count) := by
  intro s _ hs
  unfold readTable
  split
  · exact hs
  · split
    · exact hs
    · split
      · exact hs
      · exact hs

theorem assembled_writeTables (x : TableId) (first : Nat) (ws : List (List Nat)) (hs : s.Assembled) :
    (writeTables x first ws s).Assembled := by
  unfold writeTables
  dsimp only
  split
  · have hsummed : (accrueAll allPumps s).Assembled := kept_accrueAll kept_assembled allPumps hs
    exact kept_loadChanged kept_assembled holds_live_assembled _ (kept_watchAll kept_assembled
      (kept_entriesWritten kept_assembled holds_live_assembled x s.tables first ws.length hsummed))
  · exact hs

theorem assembled_writeChecked (x : TableId) (first : Nat) (ws : List (List Nat)) :
    KeepsServed State.Assembled (writeChecked x first ws) := by
  intro s _ hs
  unfold writeChecked
  split
  · exact hs
  · split
    · exact hs
    · exact assembled_writeTables x first ws hs

theorem assembled_writeTable (table index count : Byte) (entries : List Byte) :
    KeepsServed State.Assembled (writeTable table index count entries) := by
  intro s he hs
  unfold writeTable
  split
  · exact hs
  · split
    · exact hs
    all_goals
      split
      · exact hs
      · split
        · exact hs
        · split
          · exact assembled_writeChecked _ _ _ s he hs
          · exact hs

theorem assembled_readLive (view first : Byte) : KeepsServed State.Assembled (readLive view first) := by
  intro s _ hs
  have hbefore : (beforeView view.toNat s).Assembled := by
    unfold beforeView
    split
    · exact kept_accrueAll kept_assembled _ hs
    · exact hs
  unfold readLive afterView
  split
  · exact hs
  · split
    · exact hs
    · dsimp only
      split
      · exact hbefore
      · exact hbefore

theorem assembled_setTime (day second : Nat) : KeepsServed State.Assembled (setTime day second) := by
  intro s _ hs
  unfold setTime
  split
  · exact hs
  · exact kept_done (kept_latchNow kept_assembled holds_live_assembled .setTime hs)

theorem assembled_cancelAuto (hs : s.Assembled) : (cancelAuto s).Assembled := by rw [cancelAuto_eq]; exact hs

theorem assembled_askStart : KeepsServed State.Assembled askStart := by
  intro s _ hs
  have hcancelled := assembled_cancelAuto hs
  unfold askStart
  split
  · exact hs
  · dsimp only
    split
    · exact hcancelled
    · exact kept_done (assembled_startEngine hcancelled)

theorem assembled_askStop : KeepsServed State.Assembled askStop := by
  intro s _ hs
  show (if s.engine = .run then stopEngine s else cancelAuto s).Assembled
  split
  · exact assembled_stopEngine hs
  · exact assembled_cancelAuto hs

theorem assembled_askMode (house mode : Byte) : KeepsServed State.Assembled (askMode house mode) := by
  intro s _ hs
  unfold askMode
  split
  · exact hs
  · exact hs
  · exact kept_done (assembled_changeMode _ _ hs)

theorem assembled_serviceAction (pump : Byte) (n : Nat) :
    KeepsServed State.Assembled (askService pump (serviceAction n)) := by
  refine keepsServed_askService pump fun f hf p t ht => ?_
  unfold serviceAction at hf
  split at hf
  · cases hf; exact kept_serviceReturn kept_assembled p ht
  · cases hf; exact kept_serviceWithdraw kept_assembled p ht
  · cases hf

theorem assembled_askRunSeconds (pump : Byte) (value : Nat) : KeepsServed State.Assembled (askRunSeconds pump value) := by
  intro s _ hs
  unfold askRunSeconds
  split
  · exact hs
  · exact hs

theorem assembled_askAckAll : KeepsServed State.Assembled askAckAll := fun s _ hs =>
  kept_done (assembled_of_apartAlarms (apartAlarms_acknowledgeAll s) hs)

theorem assembled_askAckByte (kind object : Byte) : KeepsServed State.Assembled (askAckByte kind object) := by
  intro s he hs
  unfold askAckByte askAck
  split
  · exact assembled_askAckAll s he hs
  · split
    · exact hs
    · split
      · exact kept_done (assembled_of_apartAlarms (apartAlarms_acknowledge s _ _) hs)
      · exact hs

theorem assembled_askRelatch : KeepsServed State.Assembled askRelatch := fun _ _ hs =>
  kept_done (kept_latchNow kept_assembled holds_live_assembled .relatch hs)

theorem assembled_askSave : KeepsServed State.Assembled askSave := by
  intro s _ hs
  have hbegun : (beginSave s).Assembled := by
    obtain ⟨w, hw, -⟩ := beginSave_eq s
    rw [hw]
    exact hs
  unfold askSave
  split
  · exact hs
  · exact hbegun
  · exact hbegun

theorem assembled_askRestart : KeepsServed State.Assembled askRestart := by
  intro s _ hs
  unfold askRestart
  split
  · exact hs
  · exact kept_done (assembled_restartEngine hs)
  · exact kept_done (assembled_restartEngine hs)

/-- What the parameter bytes of a known tag are handed to: the rule of their row, or the refusal of a wrong size (R176). -/
inductive RequestRow : (State → State × Reply) → Prop
  | readTable (table index count : Byte) : RequestRow (readTable table index count)
  | writeTable (table index count : Byte) (entries : List Byte) : RequestRow (writeTable table index count entries)
  | readLive (view first : Byte) : RequestRow (readLive view first)
  | setTime (day second : Nat) : RequestRow (setTime day second)
  | start : RequestRow askStart
  | stop : RequestRow askStop
  | mode (house mode : Byte) : RequestRow (askMode house mode)
  | service (pump : Byte) (action : Nat) : RequestRow (askService pump (serviceAction action))
  | runSeconds (pump : Byte) (value : Nat) : RequestRow (askRunSeconds pump value)
  | ack (kind object : Byte) : RequestRow (askAckByte kind object)
  | relatch : RequestRow askRelatch
  | save : RequestRow askSave
  | restart : RequestRow askRestart
  | badSize : RequestRow (refuse .badFormat)

theorem requestRow_requestOf {tag : Nat} (hlow : 0x40 ≤ tag) (hhigh : tag ≤ 0x4C) (c : List Byte) :
    RequestRow (requestOf tag c) := by
  interval_cases tag
  · match c with
    | [_, _, _] => exact .readTable ..
    | [] | [_] | [_, _] | _ :: _ :: _ :: _ :: _ => exact .badSize
  · match c with
    | _ :: _ :: _ :: _ => exact .writeTable ..
    | [] | [_] | [_, _] => exact .badSize
  · match c with
    | [_, _] => exact .readLive ..
    | [] | [_] | _ :: _ :: _ :: _ => exact .badSize
  · match c with
    | [_, _, _, _, _] => exact .setTime ..
    | [] | [_] | [_, _] | [_, _, _] | [_, _, _, _] | _ :: _ :: _ :: _ :: _ :: _ :: _ => exact .badSize
  · match c with
    | [] => exact .start
    | _ :: _ => exact .badSize
  · match c with
    | [] => exact .stop
    | _ :: _ => exact .badSize
  · match c with
    | [_, _] => exact .mode ..
    | [] | [_] | _ :: _ :: _ :: _ => exact .badSize
  · match c with
    | [_, _] => exact .service ..
    | [] | [_] | _ :: _ :: _ :: _ => exact .badSize
  · match c with
    | [_, _, _, _, _] => exact .runSeconds ..
    | [] | [_] | [_, _] | [_, _, _] | [_, _, _, _] | _ :: _ :: _ :: _ :: _ :: _ :: _ => exact .badSize
  · match c with
    | [_, _] => exact .ack ..
    | [] | [_] | _ :: _ :: _ :: _ => exact .badSize
  · match c with
    | [] => exact .relatch
    | _ :: _ => exact .badSize
  · match c with
    | [] => exact .save
    | _ :: _ => exact .badSize
  · match c with
    | [] => exact .restart
    | _ :: _ => exact .badSize

theorem RequestRow.assembled {op : State → State × Reply} (hrow : RequestRow op) : KeepsServed State.Assembled op := by
  cases hrow with
  | readTable a b n => exact assembled_readTable a b n
  | writeTable a b n e => exact assembled_writeTable a b n e
  | readLive a b => exact assembled_readLive a b
  | setTime d x => exact assembled_setTime d x
  | start => exact assembled_askStart
  | stop => exact assembled_askStop
  | mode h m => exact assembled_askMode h m
  | service p n => exact assembled_serviceAction p n
  | runSeconds p v => exact assembled_askRunSeconds p v
  | ack a o => exact assembled_askAckByte a o
  | relatch => exact assembled_askRelatch
  | save => exact assembled_askSave
  | restart => exact assembled_askRestart
  | badSize => exact keepsServed_refuse _

theorem assembled_takeRequest (rs : List Rec) (hs : s.Assembled) : (takeRequest rs s).Assembled := by
  refine assembled_asked _ (fun t he ht => ?_) hs
  unfold judgeRequest
  split
  · split
    · next htag =>
      obtain ⟨hlow, hhigh⟩ := of_decide_eq_true htag
      exact (requestRow_requestOf hlow hhigh _).assembled t he ht
    · exact ht
  · exact ht

/-! ### Reception (R165-R167) -/

theorem assembled_takeRecord (src : Nat) (r : Rec) (hs : s.Assembled) : (takeRecord src s r).Assembled := by
  unfold takeRecord takeLevel takePump
  split
  · split
    · split
      · exact hs
      · exact kept_levelRecord kept_assembled _ _ _ hs
    · split
      · split
        · exact hs
        · exact kept_pumpRecord kept_assembled holds_live_assembled _ _ _ _ hs
      · exact hs
  · exact hs

theorem assembled_routeField (src kind : Byte) (rs : List Rec) (hs : s.Assembled) :
    (routeField src kind rs s).Assembled := by
  have heard := kept_stationHeardFrom kept_assembled src.toNat hs
  unfold routeField
  dsimp only
  split
  · exact kept_foldl (fun _ r => assembled_takeRecord _ r) rs heard
  · exact heard

theorem assembled_routeSup (bytes : List Byte) (rs : List Rec) (hs : s.Assembled) : (routeSup bytes rs s).Assembled := by
  unfold routeSup
  dsimp only
  split
  · exact assembled_takeRequest rs hs
  · split
    · exact assembled_of_apartAlarms (apartAlarms_pushNotice s _) hs
    · exact assembled_forward _ _ hs

theorem assembled_judgeFrame (p : Port) (bytes : List Byte) (hs : s.Assembled) : (judgeFrame p bytes s).Assembled := by
  unfold judgeFrame
  split
  · exact assembled_countOn p _ hs
  · split
    · have hcounted := assembled_countOn p countGoodFrame hs
      cases p with
      | field => exact assembled_forward _ _ (assembled_routeField _ _ _ hcounted)
      | supervisory => exact assembled_routeSup _ _ hcounted
    · exact assembled_forward _ _ (assembled_countOn p _ hs)

/-- A byte takes the receiver to a state whose buffer holds what R165 says; a frame is judged with the receiver in HUNT. -/
theorem assembled_receiveByte (p : Port) (b : Byte) (hs : s.Assembled) : (receiveByte p b s).Assembled := by
  have hp := hs.port p
  cases hrx : (s.port p).rx with
  | hunt =>
    rw [receiveByte_hunt hrx]
    split
    · next hsync => exact assembled_modPort p _ (fun _ => congrArg (fun x => [x]) hsync) hs
    · exact hs
  | length =>
    have hbuf : (s.port p).buf = [0xC3] := by simpa only [PortState.Assembled, hrx] using hp
    rw [receiveByte_length hrx, hbuf]
    split
    · next hlength =>
      obtain ⟨hlow, hhigh⟩ := hlength
      have hshort : 2 < b.toNat + 2 := by omega
      exact assembled_modPort p _ (fun _ => ⟨rfl, hlow, hhigh, Nat.le_refl 2, hshort⟩) hs
    · exact assembled_countOn p _ (assembled_setHunt p hs)
  | body =>
    rw [receiveByte_body hrx]
    exact assembled_modPort p _ (fun _ => PortState.assembled_body hrx hp b) hs
  | check =>
    rw [receiveByte_check hrx]
    exact assembled_judgeFrame p _ (assembled_setHunt p hs)

/-! ### The store and the clock (R65, R183, R184) -/

theorem assembled_imageWritten (hs : s.Assembled) : (imageWritten s).Assembled := by
  unfold imageWritten
  split
  · exact hs
  · exact hs
  · dsimp only
    split
    · exact hs
    · exact assembled_respond _ _ _ hs

theorem assembled_saveFault (hs : s.Assembled) : (saveFault s).Assembled := by
  unfold saveFault
  split
  · exact hs
  · exact hs
  · exact assembled_respond _ _ _ hs

theorem assembled_endStartup (hs : s.Assembled) : (endStartup s).Assembled := by
  have hbegun : (beginRecords (rebuildMaps { s with storeTx := .idle })).Assembled := hs
  have hlatched := kept_latch kept_assembled holds_quiet none .powerUp hbegun
  unfold endStartup
  dsimp only
  generalize latch .quiet none .powerUp (beginRecords (rebuildMaps { s with storeTx := .idle })) = u at hlatched ⊢
  exact hlatched

theorem assembled_imageRead (r : StoreRead) (hs : s.Assembled) : (imageRead r s).Assembled := by
  unfold imageRead
  split
  · exact hs
  · exact hs
  · split
    · unfold restoreTable
      split
      · exact hs
      · exact hs
    · obtain ⟨w, hw, -⟩ := restoreRuns_eq (s.readBytes _ r) s
      rw [hw]
      exact assembled_endStartup hs

theorem assembled_advance (hs : s.Assembled) : (advance s).Assembled := by
  have hticked : s.ticked.Assembled := by rw [ticked_eq]; exact hs
  cases hb : s.ticked.boundary with
  | none => rw [advance_within hb]; exact hticked
  | some i => rw [advance_boundary hb]; exact kept_latch kept_assembled holds_live_assembled _ _ hticked

/-! ### Expiries -/

theorem assembled_startUnconfirmed (p : PumpId) (hs : s.Assembled) : (startUnconfirmed p s).Assembled := by
  have hfailed := kept_onlyIf (!(s.pump p).isLocal) (f := modPump p fun q => { q with service := .failed })
    (fun _ ht => ht) (kept_failCore kept_assembled p hs)
  exact kept_derivePump kept_assembled holds_live_assembled p
    (kept_onlyIf _ (fun _ => kept_raisePump kept_assembled _ p)
      (kept_markPump kept_assembled p (kept_loadFell kept_assembled holds_live_assembled hfailed)))

theorem assembled_stopUnconfirmed (p : PumpId) (hs : s.Assembled) : (stopUnconfirmed p s).Assembled := by
  unfold stopUnconfirmed
  split
  · exact kept_derivePump kept_assembled holds_live_assembled p (kept_markPump kept_assembled p
      (kept_shed kept_assembled holds_live_assembled (kept_runOnCore kept_assembled p hs)))
  · exact kept_markPump kept_assembled p (kept_raisePump kept_assembled _ p hs)

theorem assembled_takeHouseMark (h : HouseId) (hs : s.Assembled) : (takeHouseMark h s).Assembled := by
  unfold takeHouseMark
  split
  · exact kept_takeMark kept_assembled holds_live_assembled h hs
  · exact hs

/-! ### The step -/

theorem assembled_exec {c : Instr} (hs : s.Assembled) (hexec : exec c s = .next t) : t.Assembled := by
  have K := kept_assembled
  have hlive := holds_live_assembled
  suffices h : ∃ u, exec c s = .next u ∧ u.Assembled by
    obtain ⟨u, hu, hassembled⟩ := h
    obtain rfl := Host.Outcome.next.inj (hexec.symm.trans hu)
    exact hassembled
  cases c with
  | powerUp a f r => exact ⟨_, rfl, rfl, rfl⟩
  | frameArrival p b => exact ⟨_, rfl, assembled_receiveByte p b hs⟩
  | badLengthByte p b => exact ⟨_, rfl, assembled_receiveByte p b hs⟩
  | gapExpiry p => exact ⟨_, rfl, assembled_abandonFrame p hs⟩
  | framingError p => exact ⟨_, rfl, assembled_abandonFrame p hs⟩
  | mgmtRequestMalformed records =>
    refine ⟨_, rfl, ?_⟩
    split
    · exact hs
    · exact assembled_takeRequest _ hs
  | readTable a b n => exact ⟨_, rfl, assembled_asked _ (assembled_readTable a b n) hs⟩
  | writeTable a b n e => exact ⟨_, rfl, assembled_asked _ (assembled_writeTable a b n e) hs⟩
  | readLive a b => exact ⟨_, rfl, assembled_asked _ (assembled_readLive a b) hs⟩
  | setTime d x => exact ⟨_, rfl, assembled_asked _ (assembled_setTime _ _) hs⟩
  | engineStart => exact ⟨_, rfl, assembled_asked _ assembled_askStart hs⟩
  | engineStop => exact ⟨_, rfl, assembled_asked _ assembled_askStop hs⟩
  | houseMode h m => exact ⟨_, rfl, assembled_asked _ (assembled_askMode h m) hs⟩
  | pumpServiceReturn p => exact ⟨_, rfl, assembled_asked _ (assembled_serviceAction p 0) hs⟩
  | pumpServiceWithdraw p => exact ⟨_, rfl, assembled_asked _ (assembled_serviceAction p 1) hs⟩
  | setRunSeconds p v => exact ⟨_, rfl, assembled_asked _ (assembled_askRunSeconds p _) hs⟩
  | alarmAck a o => exact ⟨_, rfl, assembled_asked _ (assembled_askAckByte a o) hs⟩
  | alarmAckAll o => exact ⟨_, rfl, assembled_asked _ assembled_askAckAll hs⟩
  | relatch => exact ⟨_, rfl, assembled_asked _ assembled_askRelatch hs⟩
  | save => exact ⟨_, rfl, assembled_asked _ assembled_askSave hs⟩
  | restart => exact ⟨_, rfl, assembled_asked _ assembled_askRestart hs⟩
  | storeImageWritten => exact ⟨_, rfl, assembled_imageWritten hs⟩
  | storeFault => exact ⟨_, rfl, assembled_saveFault hs⟩
  | restoreImageRead r => exact ⟨_, rfl, assembled_imageRead r hs⟩
  | engineSecondAdvance => exact ⟨_, rfl, assembled_advance hs⟩
  | automaticStart => exact ⟨_, rfl, kept_whenDue (fun _ => assembled_autoRun hs) hs⟩
  | silenceExpiry r => exact ⟨_, rfl, kept_whenDue (fun _ => kept_silenceOver K r hs) hs⟩
  | lossExpiry r => exact ⟨_, rfl, kept_whenDue (fun _ => kept_loseLevel K r hs) hs⟩
  | estimateStep r => exact ⟨_, rfl, kept_whenDue (fun _ => kept_estimateOnce K r hs) hs⟩
  | stationSilenceExpiry h => exact ⟨_, rfl, kept_whenDue (fun _ => kept_stationSilenced K h hs) hs⟩
  | startConfirmExpiry p => exact ⟨_, rfl, kept_whenDue (fun _ => assembled_startUnconfirmed p hs) hs⟩
  | stopConfirmExpiry p => exact ⟨_, rfl, kept_whenDue (fun _ => assembled_stopUnconfirmed p hs) hs⟩
  | minRunExpiry p => exact ⟨_, rfl, kept_whenDue (fun _ => kept_minRunOver K hlive p hs) hs⟩
  | minOffExpiry p => exact ⟨_, rfl, kept_whenDue (fun _ => kept_minOffOver K p hs) hs⟩
  | historyAgeing p => exact ⟨_, rfl, kept_whenDue (fun _ => kept_markPump K p hs) hs⟩
  | houseEvaluation h => exact ⟨_, rfl, assembled_takeHouseMark h hs⟩
  | staggerExpiry h => exact ⟨_, rfl, kept_whenDue (fun _ => hs) hs⟩
  | fallbackPhaseExpiry h => exact ⟨_, rfl, kept_whenDue (fun _ => kept_passPhase K h hs) hs⟩
  | rotationExpiry h => exact ⟨_, rfl, kept_whenDue (fun _ => hs) hs⟩
  | requestAgeingExpiry h => exact ⟨_, rfl, kept_whenDue (fun _ => kept_consider K hlive hs) hs⟩
  | grantGapExpiry => exact ⟨_, rfl, kept_whenDue (fun _ => kept_consider K hlive hs) hs⟩
  | refreshExpiry h => exact ⟨_, rfl, kept_whenDue (fun _ => kept_derive K hlive true h hs) hs⟩
  | transmitCompletion p => exact ⟨_, rfl, assembled_completeTx p hs⟩
  | receivedByte p b => exact ⟨_, rfl, assembled_receiveByte p b hs⟩

/-- Settles O6: the queue of commands is no part of the receivers, and every command keeps what their buffers hold. -/
theorem assemblyKept : Obligations.AssemblyKept := by
  intro s t hs hstep
  unfold step at hstep
  split at hstep
  · obtain rfl := Host.Outcome.next.inj hstep
    exact hs
  · next c rest _ =>
    have hrest : ({ s with pending := rest } : State).Assembled := hs
    exact assembled_exec hrest hstep

end

end Sys2Proof.Machine

/-! ## READ TABLE, and the relative indexes of both table requests (R178, R179) -/

namespace Sys2Proof.Machine

section

variable {tb ix n : Byte} {s : State} {x : TableId} {i : Nat}

/-! ### The tests of READ TABLE in their order (R179) -/

theorem exec_readTable (hs : s.serves) (tb ix n : Byte) :
    exec (.readTable tb ix n) s = .next (answer 0x40 (readTable tb ix n s)) :=
  congrArg Host.Outcome.next (asked_of_serves hs _ _)

theorem countGood_iff : countGood n = true ↔ 1 ≤ n.toNat ∧ n.toNat ≤ 8 := by simp [countGood]

theorem readTable_badFormat (hn : countGood n = false) : readTable tb ix n s = refuse .badFormat s := by
  simp [readTable, hn]

theorem readTable_badTable (hn : countGood n = true) (hx : tableOf tb.toNat = none) :
    readTable tb ix n s = refuse .badTable s := by
  simp [readTable, hn, hx]

theorem readTable_badIndex (hn : countGood n = true) (hx : tableOf tb.toNat = some x)
    (hi : firstEntry s.cursor x ix n.toNat = none) : readTable tb ix n s = refuse .badIndex s := by
  simp [readTable, hn, hx, hi]

theorem readTable_taken (hn : countGood n = true) (hx : tableOf tb.toNat = some x)
    (hi : firstEntry s.cursor x ix n.toNat = some i) :
    readTable tb ix n s = (setCursor x (i + entriesCarried x n.toNat - 1) s,
      some (.ok, .entries (tableCode x) i (((tableWords s.tables x).drop i).take (entriesCarried x n.toNat)))) := by
  simp [readTable, hn, hx, hi]

theorem tableOf_eq_none : ∀ {code : Nat}, 7 < code → tableOf code = none
  | _ + 8, _ => rfl

/-- Of a count within the table, 113 bytes carry as many entries as R178's own numbers say. -/
theorem entriesCarried_eq_min {count : Nat} (hmost : count ≤ 8) (hroom : count ≤ entryCount x) :
    entriesCarried x count = min count (mostEntries x) := by
  cases x <;> simp [entriesCarried, entrySize, fieldCount, mostEntries, entryCount] at hroom ⊢ <;> omega

/-- An absolute index whose entries run past the table's end names no first entry (R178). -/
theorem firstEntry_beyond {count : Nat} (cursor : TableRef) (habs : ix.toNat < 0xFD)
    (hpast : entryCount x < ix.toNat + count) : firstEntry cursor x ix count = none := by
  have h255 : ix.toNat ≠ 255 := by omega
  have h254 : ix.toNat ≠ 254 := by omega
  have h253 : ix.toNat ≠ 253 := by omega
  by_cases hix : ix.toNat < entryCount x
  · simp [firstEntry, entryAt, h255, h254, h253, hix, hpast]
  · simp [firstEntry, entryAt, h255, h254, h253, hix]

end

/-- Settles O31: `readTable` makes its tests in R179's order, and an absolute index within the table names its entry. -/
theorem readTableResult : Obligations.ReadTableResult := by
  intro tb ix n s hs
  have hexec := exec_readTable hs tb ix n
  refine ⟨fun hcount => ?_, fun hpos hmost => ⟨fun htable => ?_, fun x hx => ⟨fun habs hpast => ?_, fun hroom => ?_⟩⟩⟩
  · have hn : countGood n = false := by
      rw [Bool.eq_false_iff, ne_eq, countGood_iff]; omega
    rw [hexec, readTable_badFormat hn, answer_refuse]
  · rw [hexec, readTable_badTable (countGood_iff.mpr ⟨hpos, hmost⟩) (tableOf_eq_none htable), answer_refuse]
  · rw [hexec, readTable_badIndex (countGood_iff.mpr ⟨hpos, hmost⟩) hx (firstEntry_beyond s.cursor habs hpast),
      answer_refuse]
  · rw [hexec, readTable_taken (countGood_iff.mpr ⟨hpos, hmost⟩) hx (firstEntry_absolute s.cursor hpos hroom),
      entriesCarried_eq_min hmost (by omega), tableCode_of_tableOf hx]
    simp only [answer, setCursor, tableCode_of_tableOf hx]

/-! ### The entry that an index names (R178) -/

section

variable {tb a b ix n : Byte} {s : State} {x : TableId} {cursor : TableRef} {j : Nat}

theorem entryAt_next (x : TableId) (j : Nat) :
    entryAt ⟨tableCode x, j⟩ x 0xFF = if j + 1 < entryCount x then some (j + 1) else none := by
  simp [entryAt]

theorem entryAt_previous (x : TableId) (j : Nat) :
    entryAt ⟨tableCode x, j⟩ x 0xFE = if 1 ≤ j then some (j - 1) else none := by
  simp [entryAt]

theorem entryAt_same (x : TableId) (j : Nat) : entryAt ⟨tableCode x, j⟩ x 0xFD = some j := by
  simp [entryAt]

theorem entryAt_ofNat (cursor : TableRef) (hj : j < entryCount x) :
    entryAt cursor x (BitVec.ofNat 8 j) = some j := by
  have hmost : entryCount x ≤ 36 := by cases x <;> decide
  have hnat : (BitVec.ofNat 8 j).toNat = j := by rw [BitVec.toNat_ofNat]; omega
  have h255 : j ≠ 255 := by omega
  have h254 : j ≠ 254 := by omega
  have h253 : j ≠ 253 := by omega
  simp only [entryAt, hnat, if_neg h255, if_neg h254, if_neg h253, if_pos hj]

/-- A relative index against a table on which the cursor is not names no entry. -/
theorem entryAt_other (hother : cursor.table ≠ tableCode x) (hrel : 0xFD ≤ ix.toNat) : entryAt cursor x ix = none := by
  have hsome : ix.toNat = 255 ∨ ix.toNat = 254 ∨ ix.toNat = 253 := by have := ix.isLt; omega
  rcases hsome with h | h | h <;> simp [entryAt, h, hother]

/-- Two indexes that name one entry are one index to both requests. -/
theorem table_requests_congr (hs : s.serves) (hx : tableOf tb.toNat = some x)
    (h : entryAt s.cursor x a = entryAt s.cursor x b) :
    exec (.readTable tb a n) s = exec (.readTable tb b n) s
      ∧ ∀ es, exec (.writeTable tb a n es) s = exec (.writeTable tb b n es) s := by
  have hfirst : firstEntry s.cursor x a n.toNat = firstEntry s.cursor x b n.toNat := by rw [firstEntry, h, firstEntry]
  refine ⟨?_, fun es => ?_⟩
  · rw [exec_readTable hs, exec_readTable hs, readTable, readTable, hx]
    simp only [hfirst]
  · rw [exec_writeTable hs, exec_writeTable hs, writeTable, writeTable, hx]
    simp only [hfirst]

/-- An index that names no entry is refused by READ TABLE, and by a WRITE TABLE that passes the tests before it (R179,
R180). -/
theorem table_requests_refused (hs : s.serves) (hx : tableOf tb.toNat = some x) (hpos : 1 ≤ n.toNat)
    (hmost : n.toNat ≤ 8) (h : entryAt s.cursor x ix = none) :
    exec (.readTable tb ix n) s = .next (respond 0x40 .badIndex .none s)
      ∧ ((∀ i, s.storeTx ≠ .saving i) → ∀ es : List Byte, es.length = n.toNat * entrySize x →
        exec (.writeTable tb ix n es) s = .next (respond 0x41 .badIndex .none s)) := by
  have hfirst : firstEntry s.cursor x ix n.toNat = none := by rw [firstEntry, h, Option.filter_none]
  refine ⟨?_, fun htx es hlength => ?_⟩
  · rw [exec_readTable hs, readTable_badIndex (countGood_iff.mpr ⟨hpos, hmost⟩) hx hfirst, answer_refuse]
  · have hf := (writeFormatGood_iff tb n es).mpr ⟨hpos, hmost, fun y hy => by
      obtain rfl := Option.some.inj (hx.symm.trans hy); exact hlength⟩
    rw [exec_writeTable hs, writeTable_badIndex hf htx hx hfirst, answer_refuse]

end

/-- Settles O32: an index is known to both requests by the entry it names alone. -/
theorem relativeIndex : Obligations.RelativeIndex := by
  intro tb n x j s hs hx hpos hmost refused
  have hcode := tableCode_of_tableOf hx
  have hrefused (ix : Byte) (h : entryAt s.cursor x ix = none) : refused ix :=
    table_requests_refused hs hx hpos hmost h
  refine ⟨fun hcursor hj => ?_, fun hother ix hrel => hrefused ix (entryAt_other (hcode ▸ hother) hrel)⟩
  rw [← hcode] at hcursor
  have hindex (a : Byte) (k : Nat) (hk : k < entryCount x) (ha : entryAt s.cursor x a = some k) :=
    table_requests_congr (n := n) hs hx (ha.trans (entryAt_ofNat s.cursor hk).symm)
  refine ⟨fun hlt => hindex _ _ hlt ?_, fun hle => hindex _ _ (by omega) ?_, hindex _ _ hj ?_,
    fun hlast => hrefused _ ?_, fun hfirst => hrefused _ ?_⟩
  · rw [hcursor, entryAt_next, if_pos hlt]
  · rw [hcursor, entryAt_previous, if_pos hle]
  · rw [hcursor, entryAt_same]
  · rw [hcursor, entryAt_next, if_neg (by omega)]
  · rw [hcursor, entryAt_previous, if_neg (by omega)]

end Sys2Proof.Machine

/-! ## The image of a table as SAVE makes it, read back in the restore (R178, R182, R184) -/

namespace Sys2Proof.Machine

/-! ### Bytes read back as words -/

/-- Words below 65536 are read back from their bytes. -/
theorem wordsOf_flatMap_word16 {l : List Nat} (h : ∀ w ∈ l, w < 65536) : wordsOf (l.flatMap word16) = l := by
  induction l with
  | nil => rfl
  | cons w rest ih =>
    obtain ⟨hw, hrest⟩ := List.forall_mem_cons.mp h
    have hword : (BitVec.ofNat 8 (w / 256)).toNat * 256 + (BitVec.ofNat 8 w).toNat = w := by
      simp only [BitVec.toNat_ofNat]; omega
    show ((BitVec.ofNat 8 (w / 256)).toNat * 256 + (BitVec.ofNat 8 w).toNat) :: wordsOf (rest.flatMap word16) = _
    rw [hword, ih hrest]

/-- Pieces of one length, put together, are cut apart again. -/
theorem piecesOf_flatten {k : Nat} (hk : 0 < k) {ls : List (List Nat)} (h : ∀ l ∈ ls, l.length = k) :
    piecesOf k ls.length ls.flatten = ls := by
  induction ls with
  | nil => rfl
  | cons l rest ih =>
    obtain ⟨hl, hrest⟩ := List.forall_mem_cons.mp h
    have hne : l ≠ [] := List.ne_nil_of_length_pos (hl ▸ hk)
    have htake : (l ++ rest.flatten).take k = l := List.take_left' hl
    have hdrop : (l ++ rest.flatten).drop k = rest.flatten := List.drop_left' hl
    simp [piecesOf, hne, htake, hdrop, ih hrest]

/-- The image of a content is good and gives it back, where the content has the length of the image's number (R182). -/
theorem imageContent_of_length {image : Nat} {c : List Byte} (himage : image < 256)
    (hlen : c.length = contentLength image) (hsmall : c.length < 65536) :
    imageContent image (imageBytes image c) = some c := by
  obtain ⟨front, hfront⟩ : ∃ front, front = BitVec.ofNat 8 image :: (word16 c.length ++ c) := ⟨_, rfl⟩
  have hbytes : imageBytes image c = front ++ word16 (byteSum front) := by rw [hfront]; rfl
  have hfrontlen : front.length = contentLength image + 3 := by rw [hfront, ← hlen]; rfl
  have hlength : (imageBytes image c).length = contentLength image + 5 := by rw [length_imageBytes, hlen]
  have hnumber : numOf ((imageBytes image c).take 1) = image := by
    have : (imageBytes image c).take 1 = [BitVec.ofNat 8 image] := rfl
    rw [this]; simp [numOf]; omega
  have hsize : numOf (((imageBytes image c).drop 1).take 2) = contentLength image := by
    have : ((imageBytes image c).drop 1).take 2 = word16 c.length := rfl
    rw [this, numOf_word16]; omega
  have hcheck : numOf ((imageBytes image c).drop (contentLength image + 3))
      = byteSum ((imageBytes image c).take (contentLength image + 3)) % 65536 := by
    rw [hbytes, List.drop_left' hfrontlen, List.take_left' hfrontlen, numOf_word16]
  have hcontent : ((imageBytes image c).drop 3).take (contentLength image) = c := by
    have : (imageBytes image c).drop 3 = c ++ word16 (byteSum front) := by rw [hfront]; rfl
    rw [this, List.take_left' hlen]
  simp only [imageContent, hlength, hnumber, hsize, hcheck, hcontent]
  simp

/-! ### Every word of an entry as written takes two bytes (R3-R10) -/

section

variable {w : List Nat}

theorem words_lt_of_parseRes {e : ResEntry} (h : parseRes w = some e) : ∀ n ∈ e.words, n < 65536 := by
  unfold parseRes at h
  split at h
  · split at h
    · obtain rfl := Option.some.inj h; decide
    · split at h
      · next hin =>
        obtain rfl := Option.some.inj h
        simp only [within, Bool.and_eq_true, decide_eq_true_eq] at hin
        simp [ResEntry.words]; omega
      · cases h
  · cases h

theorem numberOrNone_lt (r : Option ResId) : (r.map (·.val)).getD noneWord < 65536 := by
  cases r with
  | none => decide
  | some r => exact Nat.lt_trans r.isLt (by decide)

theorem words_lt_of_parseHouse {e : HouseEntry} (h : parseHouse w = some e) : ∀ n ∈ e.words, n < 65536 := by
  unfold parseHouse at h
  split at h
  · next suction _ _ _ =>
    split at h
    · obtain rfl := Option.some.inj h; decide
    · split at h
      · next d hd =>
        split at h
        · next hin =>
          obtain rfl := Option.some.inj h
          simp only [within, Bool.and_eq_true, decide_eq_true_eq] at hin
          have hsuction := numberOrNone_lt (resOf suction)
          have := d.isLt
          simp [HouseEntry.words]; omega
        · cases h
      · cases h
  · cases h

theorem words_lt_of_parsePump {e : PumpEntry} (h : parsePump w = some e) : ∀ n ∈ e.words, n < 65536 := by
  unfold parsePump at h
  split at h
  · split at h
    · obtain rfl := Option.some.inj h; decide
    · split at h
      · next g k hg hk =>
        split at h
        · next hin =>
          obtain rfl := Option.some.inj h
          simp only [within, Bool.and_eq_true, decide_eq_true_eq] at hin
          have := g.isLt
          have := k.isLt
          simp [PumpEntry.words]; omega
        · cases h
      · cases h
  · cases h

theorem words_lt_of_parseSite {e : SiteEntry} (h : parseSite w = some e) : ∀ n ∈ e.words, n < 65536 := by
  unfold parseSite at h
  split at h
  · split at h
    · next hin =>
      obtain rfl := Option.some.inj h
      simp only [within, Bool.and_eq_true, decide_eq_true_eq] at hin
      simp [SiteEntry.words]; omega
    · cases h
  · cases h

theorem words_lt_of_parseBand {e : BandEntry} (h : parseBand w = some e) : ∀ n ∈ e.words, n < 65536 := by
  unfold parseBand at h
  split at h
  · split at h
    · next hin =>
      obtain rfl := Option.some.inj h
      simp only [within, Bool.or_eq_true, Bool.and_eq_true, decide_eq_true_eq, beq_iff_eq] at hin
      simp [BandEntry.words]; omega
    · cases h
  · cases h

theorem words_lt_of_parseDraw {e : DrawEntry} (h : parseDraw w = some e) : ∀ n ∈ e.words, n < 65536 := by
  unfold parseDraw at h
  split at h
  · split at h
    · next hin =>
      obtain rfl := Option.some.inj h
      simp only [within, Bool.and_eq_true, decide_eq_true_eq] at hin
      simp [DrawEntry.words]; omega
    · cases h
  · cases h

theorem words_lt_of_parseCal {e : CalEntry} (h : parseCal w = some e) : ∀ n ∈ e.words, n < 65536 := by
  unfold parseCal at h
  split at h
  · split at h
    · obtain rfl := Option.some.inj h; decide
    · split at h
      · next c hc =>
        split at h
        · next hin =>
          obtain rfl := Option.some.inj h
          simp only [within, Bool.and_eq_true, decide_eq_true_eq] at hin
          have : tariffCode c < 65536 := by cases c <;> decide
          simp [CalEntry.words]; omega
        · cases h
      · cases h
  · cases h

theorem words_lt_of_parsePlan {e : PlanEntry} (h : parsePlan w = some e) : ∀ n ∈ e.words, n < 65536 := by
  unfold parsePlan at h
  split at h
  · split at h
    · next hin =>
      obtain rfl := Option.some.inj h
      simp only [within, Bool.or_eq_true, Bool.and_eq_true, decide_eq_true_eq, beq_iff_eq] at hin
      simp [PlanEntry.words]; omega
    · cases h
  · cases h

end

theorem forall_words_of_get {α : Type} {n : Nat} {v : Vector α n} {words : α → List Nat} {P : List Nat → Prop}
    (h : ∀ i, P (words (v.get i))) : ∀ w ∈ v.toList.map words, P w := by
  intro w hw
  obtain ⟨e, he, rfl⟩ := List.mem_map.mp hw
  obtain ⟨i, hi, rfl⟩ := List.getElem_of_mem he
  exact h ⟨i, by simpa using hi⟩

theorem tableWords_lt_of_standing {ts : Tables} {x : TableId} (h : ts.standing x) :
    ∀ w ∈ tableWords ts x, ∀ n ∈ w, n < 65536 := by
  cases x with
  | site => exact List.forall_mem_singleton.mpr (words_lt_of_parseSite h)
  | reservoir => exact forall_words_of_get fun i => words_lt_of_parseRes (h i)
  | house => exact forall_words_of_get fun i => words_lt_of_parseHouse (h i)
  | pump => exact forall_words_of_get fun i => words_lt_of_parsePump (h i)
  | band => exact forall_words_of_get fun i => words_lt_of_parseBand (h i)
  | draw => exact forall_words_of_get fun i => words_lt_of_parseDraw (h i)
  | calendar => exact forall_words_of_get fun i => words_lt_of_parseCal (h i)
  | plan => exact forall_words_of_get fun i => words_lt_of_parsePlan (h i)

/-! ### A whole table written -/

section

variable {α : Type} {n : Nat} {x : TableId} {f : Vector α n → Tables} {parse : List Nat → Option α}
  {words : α → List Nat}

/-- Entries whose own words read as themselves, written from `first` to the table's end, stand behind the entries before
`first`. -/
theorem writeEntries_to_end (hf : ∀ v i w, writeEntry x i w (f v) = f (putAt v i (parse w))) {rest : List α}
    (hrest : ∀ e ∈ rest, parse (words e) = some e) {first : Nat} {u v : Vector α n}
    (hlength : first + rest.length = n) (hu : u.toList = v.toList.take first ++ rest) :
    writeEntries x first (rest.map words) (f v) = f u := by
  induction rest generalizing first v with
  | nil =>
    obtain rfl : first = n := hlength
    rw [List.append_nil, List.take_of_length_le (by simp)] at hu
    rw [Vector.toList_inj.mp hu]; rfl
  | cons e rest ih =>
    obtain ⟨he, hrest'⟩ := List.forall_mem_cons.mp hrest
    rw [List.length_cons] at hlength
    rw [List.map_cons, writeEntries, hf, he]
    refine ih hrest' (by omega) ?_
    have hlt : first < n := by omega
    have hput : (putAt v first (some e)).toList.take (first + 1) = v.toList.take first ++ [e] := by
      have hset : (putAt v first (some e)).toList = (v.toList.take first ++ [e]) ++ v.toList.drop (first + 1) := by
        simp [putAt, List.set_eq_take_append_cons_drop, hlt]
      rw [hset, List.take_left' (by simpa using hlt.le)]
    rw [hput, hu, List.append_assoc, List.singleton_append]

/-- A table all of whose entries' own words read as themselves is written whole from their words. -/
theorem writeEntries_whole (hf : ∀ v i w, writeEntry x i w (f v) = f (putAt v i (parse w))) {u : Vector α n}
    (hu : ∀ i, parse (words (u.get i)) = some (u.get i)) (v : Vector α n) :
    writeEntries x 0 (u.toList.map words) (f v) = f u := by
  refine writeEntries_to_end hf (fun e he => ?_) (by simp) (by simp)
  obtain ⟨i, hi, rfl⟩ := List.getElem_of_mem he
  exact hu ⟨i, by simpa using hi⟩

end

/-- A standing table's words, written over another's, give that table (R10, R184). -/
theorem writeEntries_tableWords {x : TableId} {source : Tables} (h : source.standing x) (ts : Tables) :
    writeEntries x 0 (tableWords source x) ts = withTable x source ts := by
  cases x with
  | site => simp only [tableWords, writeEntries, writeEntry, withTable, show parseSite _ = _ from h, Option.getD_some]
  | reservoir => exact writeEntries_whole (f := fun v => { ts with reservoir := v }) (fun _ _ _ => rfl) h _
  | house => exact writeEntries_whole (f := fun v => { ts with house := v }) (fun _ _ _ => rfl) h _
  | pump => exact writeEntries_whole (f := fun v => { ts with pump := v }) (fun _ _ _ => rfl) h _
  | band => exact writeEntries_whole (f := fun v => { ts with band := v }) (fun _ _ _ => rfl) h _
  | draw => exact writeEntries_whole (f := fun v => { ts with draw := v }) (fun _ _ _ => rfl) h _
  | calendar => exact writeEntries_whole (f := fun v => { ts with calendar := v }) (fun _ _ _ => rfl) h _
  | plan => exact writeEntries_whole (f := fun v => { ts with plan := v }) (fun _ _ _ => rfl) h _

/-! ### The restore of a table image (R182, R184) -/

theorem tableOf_tableCode (x : TableId) : tableOf (tableCode x) = some x := by cases x <;> rfl

/-- The image that SAVE makes of a standing table gives back its words, where they pass the range test (R182). -/
theorem imageEntries_imageBytes {x : TableId} {source ts : Tables} (h : source.standing x)
    (hrange : rangeFailure x ts 0 (tableWords source x) = none) :
    imageEntries x ts (imageBytes (tableCode x) (tableContent source x)) = some (tableWords source x) := by
  have hlength : (tableContent source x).length = contentLength (tableCode x) := by
    rw [length_tableContent, contentLength, tableOf_tableCode]
  have hsmall : (tableContent source x).length < 65536 := by
    rw [length_tableContent]; cases x <;> decide
  have hcontent : imageContent (tableCode x) (imageBytes (tableCode x) (tableContent source x))
      = some (tableContent source x) :=
    imageContent_of_length (by cases x <;> decide) hlength hsmall
  have hflat : tableContent source x = (tableWords source x).flatten.flatMap word16 := by
    rw [tableContent, List.flatten_eq_flatMap, List.flatMap_assoc]; rfl
  have hwords : wordsOf (tableContent source x) = (tableWords source x).flatten := by
    rw [hflat]
    refine wordsOf_flatMap_word16 fun w hw => ?_
    obtain ⟨ws, hws, hmem⟩ := List.mem_flatten.mp hw
    exact tableWords_lt_of_standing h ws hws w hmem
  have hpieces : piecesOf (fieldCount x) (entryCount x) (tableWords source x).flatten = tableWords source x := by
    rw [← length_tableWords source x]
    exact piecesOf_flatten (by cases x <;> decide) fun _ => length_of_mem_tableWords
  simp [imageEntries, hcontent, hwords, hpieces, hrange]

/-- A table image judged with the next image in hand (R184). -/
theorem exec_tableImage {x : TableId} {i j : ImageId} {s : State} (htx : s.storeTx = .restoring i)
    (hi : i.val = tableCode x) (hj : j.val = i.val + 1) (r : StoreRead) :
    exec (.restoreImageRead r) s = .next (restoreTable x (s.readBytes i r) { s with storeTx := .restoring j }) := by
  show Host.Outcome.next (imageRead r s) = _
  have htable : tableOf i.val = some x := hi ▸ tableOf_tableCode x
  simp only [imageRead, htx, nextImage_of_succ hj, htable]

/-- Settles O38: the image's bytes are read back as the words of the table, and those are written over the table as it
stands in the restore. -/
theorem restoreTableImage : Obligations.RestoreTableImage := by
  intro x ts i j s htx hi hj
  have hexec := exec_tableImage htx hi hj
  refine ⟨fun hstanding hrange hstore => ?_, by rw [hexec]; rfl, fun hstore => ?_⟩
  · have hread : s.readBytes i .held = some (imageBytes (tableCode x) (tableContent ts x)) := by
      simp only [State.readBytes, hstore, hi]
    have hentries : (some (imageBytes (tableCode x) (tableContent ts x))).bind (imageEntries x s.tables)
        = some (tableWords ts x) := imageEntries_imageBytes hstanding hrange
    rw [hexec, hread]
    simp only [restoreTable, hentries, writeEntries_tableWords hstanding]
  · have hread : s.readBytes i .held = none := by
      rcases hstore with h | h <;> simp only [State.readBytes, h]
    rw [hexec, hread]
    rfl

end Sys2Proof.Machine

/-! ## A step takes the command at the front of the queue (log 4) -/

namespace Sys2Proof.Machine

theorem step_of_front {c : Instr} {rest : List Instr} {s : State} (h : s.pending = c :: rest) :
    step s = exec c { s with pending := rest } := by
  unfold step
  rw [h]

theorem step_of_idle {s : State} (h : s.pending = []) : step s = .next s := by
  unfold step
  rw [h]

/-- Settles O1: the two cases of the queue. -/
theorem stepTakesFront : Obligations.StepTakesFront :=
  ⟨fun _ _ _ => step_of_front, fun _ => step_of_idle⟩

end Sys2Proof.Machine

/-! ## The queue of commands under the shared operations

Where an operation has a frame (`apartAlarms`, `apartOrders`, `apartHouses`, `Touches`), the frame holds the queue; the
other operations are compositions of framed ones and of updates of a record. -/

namespace Sys2Proof.Machine

section

variable {R : ResId → Prop} {P : PumpId → Prop} {H : HouseId → Prop} {s t : State}

theorem pending_of_apartAlarms (h : t.apartAlarms = s.apartAlarms) : t.pending = s.pending :=
  pending_of_apartOrders (apartOrders_of_apartAlarms h)

theorem pending_of_apartHouse {g : HouseId} (h : t.apartHouse g = s.apartHouse g) : t.pending = s.pending :=
  pending_of_apartHouses (apartHouses_of_apartHouse g h)

theorem pending_of_touches (h : Touches R P H s t) : t.pending = s.pending := by
  have e := congrArg State.pending h.apart; exact e

end

section

variable (s : State)

/-! ### Compositions -/

@[simp] theorem pending_onlyIf (b : Bool) {f : State → State} (hf : ∀ t, (f t).pending = t.pending) :
    (onlyIf b f s).pending = s.pending := by
  unfold onlyIf
  split
  · exact hf s
  · rfl

@[simp] theorem pending_foldl {α : Type} {f : State → α → State} (hf : ∀ t a, (f t a).pending = t.pending)
    (l : List α) : (l.foldl f s).pending = s.pending := by
  induction l generalizing s with
  | nil => rfl
  | cons a rest ih => rw [List.foldl_cons, ih, hf]

@[simp] theorem pending_whenDue (due : Bool) {f : State → State} (hf : ∀ t, (f t).pending = t.pending) :
    (whenDue due f s).pending = s.pending := by
  unfold whenDue
  split
  · exact hf s
  · rfl

/-! ### Marks, alarms, run seconds and the takes of a port -/

@[simp] theorem pending_mark (h : HouseId) : (mark h s).pending = s.pending := rfl

@[simp] theorem pending_markPump (p : PumpId) : (markPump p s).pending = s.pending :=
  pending_of_apartOrders (apartOrders_markPump s p)

@[simp] theorem pending_raise (k : AlarmKind) (o : Nat) (v : Option Nat) (d : Side) :
    (raise k o v d s).pending = s.pending := pending_of_apartAlarms (apartAlarms_raise s k o v d)

@[simp] theorem pending_raisePump (k : AlarmKind) (p : PumpId) : (raisePump k p s).pending = s.pending :=
  pending_of_apartAlarms (apartAlarms_raisePump s k p)

@[simp] theorem pending_clear (k : AlarmKind) (o : Nat) : (clear k o s).pending = s.pending :=
  pending_of_apartAlarms (apartAlarms_clear s k o)

@[simp] theorem pending_pushNotice (b : NoticeBody) : (pushNotice b s).pending = s.pending :=
  pending_of_apartAlarms (apartAlarms_pushNotice s b)

@[simp] theorem pending_respond (c : Byte) (r : Result) (d : RespData) : (respond c r d s).pending = s.pending :=
  pending_of_apartAlarms (apartAlarms_respond s c r d)

@[simp] theorem pending_accrue (p : PumpId) : (accrue p s).pending = s.pending := rfl

@[simp] theorem pending_accrueAll (ps : List PumpId) : (accrueAll ps s).pending = s.pending :=
  pending_of_apartOrders (apartOrders_accrueAll s ps)

@[simp] theorem pending_fieldTake : (fieldTake s).pending = s.pending :=
  pending_of_apartOrders (apartOrders_fieldTake s)

@[simp] theorem pending_supTake : (supTake s).pending = s.pending := pending_of_apartAlarms (apartAlarms_supTake s)

@[simp] theorem pending_portTake (p : Port) : (portTake p s).pending = s.pending :=
  pending_of_apartOrders (apartOrders_portTake s p)

@[simp] theorem pending_releaseAll : (releaseAll s).pending = s.pending :=
  pending_of_apartOrders (apartOrders_releaseAll s)

/-! ### Pump supervision (R47-R57, R63, R64) -/

@[simp] theorem pending_setPumps (v : Vector Pump 32) : (setPumps v s).pending = s.pending := rfl

@[simp] theorem pending_adoptCore (p : PumpId) : (adoptCore p s).pending = s.pending := rfl

@[simp] theorem pending_runOnCore (p : PumpId) : (runOnCore p s).pending = s.pending := rfl

@[simp] theorem pending_failCore (p : PumpId) : (failCore p s).pending = s.pending :=
  pending_of_apartOrders (apartOrders_failCore s p)

@[simp] theorem pending_endFlight (p : PumpId) : (endFlight p s).pending = s.pending :=
  pending_of_apartOrders (apartOrders_endFlight s p)

@[simp] theorem pending_clearStartFail (b : Bool) (p : PumpId) : (clearStartFail b p s).pending = s.pending := by
  simp [clearStartFail]

@[simp] theorem pending_clearStopFail (b : Bool) (p : PumpId) : (clearStopFail b p s).pending = s.pending := by
  simp [clearStopFail]

@[simp] theorem pending_serviceReturn (p : PumpId) : (serviceReturn p s).pending = s.pending := by
  unfold serviceReturn
  dsimp only
  split <;> simp

@[simp] theorem pending_serviceWithdraw (p : PumpId) : (serviceWithdraw p s).pending = s.pending := by
  unfold serviceWithdraw
  dsimp only
  split <;> simp

@[simp] theorem pending_applyFault (p : PumpId) (fault : Nat) : (applyFault p fault s).pending = s.pending := by
  unfold applyFault
  dsimp only
  split
  · simp
  · split <;> simp

@[simp] theorem pending_holdPumps (held : Bool) (h : HouseId) : (holdPumps held h s).pending = s.pending := by
  rw [holdPumps_eq, updatePumps, pending_setPumps]

@[simp] theorem pending_stationHeardFrom (src : Nat) : (stationHeardFrom src s).pending = s.pending :=
  pending_of_touches (touches_stationHeardFrom src s)

section

variable {k : Ctx} (hk : k.Keeps)

include hk

@[simp] theorem pending_derive (forced : Bool) (h : HouseId) : (derive k forced h s).pending = s.pending :=
  pending_of_apartOrders (apartOrders_derive s hk forced h)

@[simp] theorem pending_derivePump (p : PumpId) : (derivePump k p s).pending = s.pending :=
  pending_of_apartOrders (apartOrders_derivePump s hk p)

@[simp] theorem pending_shed : (shed k s).pending = s.pending := pending_of_apartOrders (apartOrders_shed s hk)

@[simp] theorem pending_consider : (consider k s).pending = s.pending :=
  pending_of_apartOrders (apartOrders_consider s hk)

@[simp] theorem pending_loadFell : (loadFell k s).pending = s.pending :=
  pending_of_apartOrders (apartOrders_loadFell s hk)

@[simp] theorem pending_loadRose : (loadRose k s).pending = s.pending :=
  pending_of_apartOrders (apartOrders_loadRose s hk)

@[simp] theorem pending_loadChanged (before : Nat) : (loadChanged k before s).pending = s.pending :=
  pending_of_apartOrders (apartOrders_loadChanged s hk before)

@[simp] theorem pending_withdrawStart (p : PumpId) : (withdrawStart k p s).pending = s.pending :=
  pending_of_apartOrders (apartOrders_withdrawStart s hk p)

@[simp] theorem pending_latch (c : Option CalId) (cause : LatchCause) : (latch k c cause s).pending = s.pending :=
  (pending_of_apartHouses (apartHouses_latch s hk c cause)).trans rfl

@[simp] theorem pending_latchNow (cause : LatchCause) : (latchNow k cause s).pending = s.pending :=
  pending_latch s hk s.lookup cause

@[simp] theorem pending_adopt (p : PumpId) : (adopt k p s).pending = s.pending := by
  simp [adopt, hk]

@[simp] theorem pending_foundRunning (p : PumpId) : (foundRunning k p s).pending = s.pending := by
  simp [foundRunning, hk, pending_onlyIf _ _ fun t => pending_adoptCore t p]

@[simp] theorem pending_startConfirmed (p : PumpId) : (startConfirmed k p s).pending = s.pending := by
  simp [startConfirmed, hk]

@[simp] theorem pending_foundStopped (p : PumpId) : (foundStopped k p s).pending = s.pending := by
  simp [foundStopped, hk]

@[simp] theorem pending_stopSeen (p : PumpId) : (stopSeen k p s).pending = s.pending := by
  simp [stopSeen, hk]

@[simp] theorem pending_applyFeedback (p : PumpId) (running : Bool) :
    (applyFeedback k p running s).pending = s.pending := by
  unfold applyFeedback
  split <;> simp [hk]

@[simp] theorem pending_leaveRemote (p : PumpId) : (leaveRemote k p s).pending = s.pending := by
  unfold leaveRemote
  dsimp only
  split
  · rfl
  · exact pending_withdrawStart s hk p
  · split <;> simp [hk]
  all_goals rfl

@[simp] theorem pending_enterRemote (p : PumpId) : (enterRemote k p s).pending = s.pending := by
  unfold enterRemote
  split
  · exact pending_adopt s hk p
  · rfl

@[simp] theorem pending_applyPanel (p : PumpId) (panel : Panel) : (applyPanel k p panel s).pending = s.pending := by
  unfold applyPanel
  dsimp only
  split
  · rfl
  · rw [pending_derivePump _ hk]
    split
    · simp [hk]
    · split <;> simp [hk]

@[simp] theorem pending_pumpRecord (p : PumpId) (run panel fault : Nat) :
    (pumpRecord k p run panel fault s).pending = s.pending := by
  unfold pumpRecord
  split
  · rfl
  · split <;> simp [hk]

end

/-! ### Levels (R26-R42) -/

theorem pending_levelMoved (r : ResId) : (levelMoved r s).pending = s.pending :=
  pending_of_touches (P := noRecord) (H := noRecord) (touches_levelMoved r s)

@[simp] theorem pending_loseLevel (r : ResId) : (loseLevel r s).pending = s.pending :=
  pending_of_touches (P := noRecord) (H := noRecord) (touches_loseLevel r s)

@[simp] theorem pending_estimateOnce (r : ResId) : (estimateOnce r s).pending = s.pending :=
  pending_of_touches (P := noRecord) (H := noRecord) (touches_estimateOnce r s)

@[simp] theorem pending_accept (r : ResId) (level : Nat) : (accept r level s).pending = s.pending := by
  unfold accept
  rw [pending_levelMoved, pending_of_apartAlarms (apartAlarms_clearSourceAlarm _ r _), modRes_pending]

@[simp] theorem pending_levelRecord (r : ResId) (raw : Nat) (flag : Bool) :
    (levelRecord r raw flag s).pending = s.pending := by
  unfold levelRecord stepCheck
  dsimp only
  split
  · simp
  · split <;> simp

@[simp] theorem pending_silenceOver (r : ResId) : (silenceOver r s).pending = s.pending := by
  unfold silenceOver beginEstimate
  split <;> simp [pending_levelMoved]

@[simp] theorem pending_stationSilenced (h : HouseId) : (stationSilenced h s).pending = s.pending := by
  unfold stationSilenced
  dsimp only
  rw [pending_mark, pending_of_touches (P := noRecord) (H := noRecord) (touches_stationLost h _)]
  simp

/-! ### Tables (R12, R180) -/

@[simp] theorem pending_minRunOver (p : PumpId) : (minRunOver p s).pending = s.pending := by
  simp [minRunOver, keeps_live]

@[simp] theorem pending_minOffOver (p : PumpId) : (minOffOver p s).pending = s.pending := by
  simp [minOffOver]

@[simp] theorem pending_pumpBegins (p : PumpId) : (pumpBegins p s).pending = s.pending :=
  pending_of_touches (R := noRecord) (H := noRecord) (touches_pumpBegins p s)

@[simp] theorem pending_pumpWritten (old : PumpEntry) (p : PumpId) : (pumpWritten old p s).pending = s.pending := by
  simp [pumpWritten, limitsWritten, reopenLimits, trimHistory]

@[simp] theorem pending_entriesWritten (x : TableId) (old : Tables) (first count : Nat) :
    (entriesWritten x old first count s).pending = s.pending := by
  cases x with
  | reservoir => exact pending_of_touches (P := noRecord) (H := noRecord) (touches_resWrittenEach old _ s)
  | house => exact pending_of_touches (R := noRecord) (touches_houseWrittenEach old _ s)
  | pump => exact pending_foldl s (fun t p => pending_pumpWritten t _ p) _
  | site | band | draw | calendar | plan => rfl

@[simp] theorem pending_writeTables (x : TableId) (first : Nat) (ws : List (List Nat)) :
    (writeTables x first ws s).pending = s.pending := by
  unfold writeTables
  dsimp only
  split
  · rw [pending_loadChanged _ keeps_live, pending_of_touches (touches_watchAll (P := noRecord) (H := noRecord) _),
      pending_entriesWritten]
    exact pending_accrueAll s allPumps
  · rfl

end

end Sys2Proof.Machine

/-! ## Every command answers a next state and leaves the queue of commands (log 5) -/

namespace Sys2Proof.Machine

section

variable (s : State)

/-! ### Ports (R165-R168, R171) -/

@[simp] theorem pending_countOn (p : Port) (f : Counters → Counters) : (countOn p f s).pending = s.pending :=
  modPort_pending ..

@[simp] theorem pending_setRx (p : Port) (rx : RxState) (buf : List Byte) : (setRx p rx buf s).pending = s.pending :=
  modPort_pending ..

theorem pending_abandonFrame (p : Port) : (abandonFrame p s).pending = s.pending := by
  unfold abandonFrame
  split <;> simp

@[simp] theorem pending_forward (p : Port) (bytes : List Byte) : (forward p bytes s).pending = s.pending := by
  unfold forward
  split <;> simp

@[simp] theorem pending_stampSlot (e : DispEntry) (c : SlotId) : (stampSlot e s c).pending = s.pending := by
  unfold stampSlot
  split
  · unfold stampStart atHouseOf
    split <;> rfl
  · split <;> rfl

@[simp] theorem pending_completeDispatch : (completeDispatch s).pending = s.pending := by
  unfold completeDispatch
  split
  · rfl
  · rw [pending_of_apartOrders (apartOrders_setInTx _ _), pending_of_apartOrders (apartOrders_setRefresh _ _ _),
      pending_derive _ keeps_quiet, pending_foldl _ fun t c => pending_stampSlot t _ c]

theorem pending_completeTx (p : Port) : (completeTx p s).pending = s.pending := by
  unfold completeTx
  split <;> simp [freeTx]

/-! ### The engine (R20-R23, R96, R97, R145, R185) -/

@[simp] theorem pending_startEngine : (startEngine s).pending = s.pending :=
  (pending_of_apartHouses (apartHouses_startEngine s)).trans rfl

theorem pending_autoRun : (autoRun s).pending = s.pending := by
  unfold autoRun
  split
  · rfl
  · split <;> simp

@[simp] theorem pending_releaseRecord (h : HouseId) : (releaseRecord h s).pending = s.pending :=
  pending_of_touches (R := noRecord) (P := noRecord) (touches_releaseRecord h s)

@[simp] theorem pending_handRelease (before : State) : (handRelease before s).pending = s.pending := by
  simp [handRelease, keeps_live]

@[simp] theorem pending_stopEngine : (stopEngine s).pending = s.pending := by
  have hpump (t : State) (p : PumpId) := pending_of_apartOrders (apartOrders_releasePump t p)
  simp [stopEngine, emptyArbiter, refreshIdle, hpump]

@[simp] theorem pending_changeMode (h : HouseId) (m : Mode) : (changeMode h m s).pending = s.pending := by
  unfold changeMode
  dsimp only
  split
  · rfl
  · split
    · rfl
    · split
      · rw [leaveAuto_eq, pending_handRelease, pending_of_apartHouse (apartHouse_left h _), pending_fieldTake,
          pending_of_apartOrders (apartOrders_leaving h m s)]
        rfl
      · split
        · rw [enterAuto, pending_derive _ keeps_live, pending_mark, adoptHouse,
            pending_foldl _ fun t p => pending_adopt t keeps_starting p]
          rfl
        · rfl

@[simp] theorem pending_resetLive : (resetLive s).pending = s.pending := rfl

@[simp] theorem pending_restartEngine : (restartEngine s).pending = s.pending := by
  rw [restartEngine, pending_fieldTake, pending_latchNow _ keeps_quiet, pending_resetLive, pending_accrueAll]
  split <;> simp

@[simp] theorem pending_cancelAuto : (cancelAuto s).pending = s.pending := by rw [cancelAuto_eq]

/-! ### Requests (R175-R185) -/

/-- A request leaves the queue of commands. -/
def KeepsQueue (op : State → State × Reply) : Prop := ∀ t, (op t).1.pending = t.pending

theorem pending_asked (code : Byte) {op : State → State × Reply} (hop : KeepsQueue op) :
    (asked code op s).pending = s.pending := by
  unfold asked answer
  split
  · rfl
  · split
    · exact pending_respond s _ _ _
    · split
      · exact hop s
      · rw [pending_respond, hop]

theorem keepsQueue_readTable (table index count : Byte) : KeepsQueue (readTable table index count) := by
  intro s
  unfold readTable
  split
  · rfl
  · split
    · rfl
    · split <;> rfl

theorem keepsQueue_writeChecked (x : TableId) (first : Nat) (ws : List (List Nat)) :
    KeepsQueue (writeChecked x first ws) := by
  intro s
  unfold writeChecked
  split
  · rfl
  · split
    · rfl
    · exact pending_writeTables s x first ws

theorem keepsQueue_writeTable (table index count : Byte) (entries : List Byte) :
    KeepsQueue (writeTable table index count entries) := by
  intro s
  unfold writeTable
  split
  · rfl
  · split
    · rfl
    all_goals
      split
      · rfl
      · split
        · rfl
        · split
          · exact keepsQueue_writeChecked _ _ _ s
          · rfl

theorem keepsQueue_readLive (view first : Byte) : KeepsQueue (readLive view first) := by
  have hafter (n m : Nat) (t : State) : (afterView n m t).pending = t.pending := by
    unfold afterView
    split <;> rfl
  have hbefore (n : Nat) (t : State) : (beforeView n t).pending = t.pending := by
    unfold beforeView
    split <;> simp
  intro s
  unfold readLive
  split
  · rfl
  · split
    · rfl
    · exact (hafter _ _ _).trans (hbefore _ s)

theorem keepsQueue_setTime (day second : Nat) : KeepsQueue (setTime day second) := by
  intro s
  unfold setTime
  split
  · rfl
  · rw [fst_done, pending_latchNow _ keeps_live]

theorem keepsQueue_askStart : KeepsQueue askStart := by
  intro s
  unfold askStart
  split
  · rfl
  · dsimp only
    split
    · exact pending_cancelAuto s
    · rw [fst_done, pending_startEngine, pending_cancelAuto]

theorem keepsQueue_askStop : KeepsQueue askStop := by
  intro s
  rw [askStop, fst_done]
  split
  · exact pending_stopEngine s
  · exact pending_cancelAuto s

theorem keepsQueue_askMode (house mode : Byte) : KeepsQueue (askMode house mode) := by
  intro s
  unfold askMode
  split
  · rfl
  · rfl
  · exact pending_changeMode s _ _

theorem keepsQueue_serviceAction (pump : Byte) (n : Nat) : KeepsQueue (askService pump (serviceAction n)) := by
  intro s
  unfold askService
  split
  · rfl
  · rfl
  · next f _ hf =>
    unfold serviceAction at hf
    split at hf
    · cases hf; exact pending_serviceReturn s _
    · cases hf; exact pending_serviceWithdraw s _
    · cases hf

theorem keepsQueue_askRunSeconds (pump : Byte) (value : Nat) : KeepsQueue (askRunSeconds pump value) := by
  intro s
  unfold askRunSeconds
  split <;> rfl

theorem keepsQueue_askAckAll : KeepsQueue askAckAll := fun s =>
  pending_of_apartAlarms (apartAlarms_acknowledgeAll s)

theorem keepsQueue_askAckByte (kind object : Byte) : KeepsQueue (askAckByte kind object) := by
  intro s
  unfold askAckByte askAck
  split
  · exact keepsQueue_askAckAll s
  · split
    · rfl
    · split
      · exact pending_of_apartAlarms (apartAlarms_acknowledge s _ _)
      · rfl

theorem keepsQueue_askRelatch : KeepsQueue askRelatch := by
  intro s
  rw [askRelatch, fst_done, pending_latchNow _ keeps_live]

theorem keepsQueue_askSave : KeepsQueue askSave := by
  intro s
  unfold askSave
  split
  · rfl
  all_goals exact pending_accrueAll s allPumps

theorem keepsQueue_askRestart : KeepsQueue askRestart := by
  intro s
  unfold askRestart
  split
  · rfl
  all_goals exact pending_restartEngine s

theorem RequestRow.keepsQueue {op : State → State × Reply} (hrow : RequestRow op) : KeepsQueue op := by
  cases hrow with
  | readTable a b n => exact keepsQueue_readTable a b n
  | writeTable a b n e => exact keepsQueue_writeTable a b n e
  | readLive a b => exact keepsQueue_readLive a b
  | setTime d x => exact keepsQueue_setTime d x
  | start => exact keepsQueue_askStart
  | stop => exact keepsQueue_askStop
  | mode h m => exact keepsQueue_askMode h m
  | service p n => exact keepsQueue_serviceAction p n
  | runSeconds p v => exact keepsQueue_askRunSeconds p v
  | ack a o => exact keepsQueue_askAckByte a o
  | relatch => exact keepsQueue_askRelatch
  | save => exact keepsQueue_askSave
  | restart => exact keepsQueue_askRestart
  | badSize => exact fun _ => rfl

theorem keepsQueue_judgeRequest (rs : List Rec) : KeepsQueue (judgeRequest rs) := by
  intro s
  unfold judgeRequest
  split
  · split
    · next htag =>
      obtain ⟨hlow, hhigh⟩ := of_decide_eq_true htag
      exact (requestRow_requestOf hlow hhigh _).keepsQueue s
    · rfl
  · rfl

theorem pending_takeRequest (rs : List Rec) : (takeRequest rs s).pending = s.pending :=
  pending_asked s _ (keepsQueue_judgeRequest rs)

/-! ### Reception (R165-R167) -/

theorem pending_takeRecord (src : Nat) (r : Rec) : (takeRecord src s r).pending = s.pending := by
  unfold takeRecord takeLevel takePump
  split
  · split
    · split
      · rfl
      · exact pending_levelRecord s _ _ _
    · split
      · split
        · rfl
        · exact pending_pumpRecord s keeps_live _ _ _ _
      · rfl
  · rfl

theorem pending_routeField (src kind : Byte) (rs : List Rec) : (routeField src kind rs s).pending = s.pending := by
  unfold routeField
  dsimp only
  split
  · rw [pending_foldl _ fun t r => pending_takeRecord t _ r, pending_stationHeardFrom]
  · exact pending_stationHeardFrom s _

theorem pending_routeSup (bytes : List Byte) (rs : List Rec) : (routeSup bytes rs s).pending = s.pending := by
  unfold routeSup
  dsimp only
  split
  · exact pending_takeRequest s rs
  · split
    · exact pending_pushNotice s _
    · exact pending_forward s _ _

theorem pending_judgeFrame (p : Port) (bytes : List Byte) : (judgeFrame p bytes s).pending = s.pending := by
  unfold judgeFrame
  split
  · exact pending_countOn s p _
  · split
    · cases p with
      | field => rw [routeGood, pending_forward, pending_routeField, pending_countOn]
      | supervisory => rw [routeGood, pending_routeSup, pending_countOn]
    · rw [pending_forward, pending_countOn]

theorem pending_receiveByte (p : Port) (b : Byte) : (receiveByte p b s).pending = s.pending := by
  cases hrx : (s.port p).rx with
  | hunt =>
    rw [receiveByte_hunt hrx]
    split <;> simp
  | length =>
    rw [receiveByte_length hrx]
    split <;> simp
  | body =>
    rw [receiveByte_body hrx]
    exact pending_setRx s p _ _
  | check =>
    rw [receiveByte_check hrx, pending_judgeFrame, pending_setRx]

/-! ### The store and the clock (R18, R65, R183, R184) -/

theorem pending_imageWritten : (imageWritten s).pending = s.pending := by
  unfold imageWritten
  split
  · rfl
  · rfl
  · dsimp only
    split
    · rfl
    · exact pending_respond _ _ _ _

theorem pending_saveFault : (saveFault s).pending = s.pending := by
  unfold saveFault
  split
  · rfl
  · rfl
  · exact pending_respond _ _ _ _

theorem pending_endStartup : (endStartup s).pending = s.pending := by
  have hlatch := pending_latch (beginRecords (rebuildMaps { s with storeTx := .idle })) keeps_quiet none .powerUp
  unfold endStartup
  dsimp only
  exact hlatch

theorem pending_imageRead (r : StoreRead) : (imageRead r s).pending = s.pending := by
  unfold imageRead
  split
  · rfl
  · rfl
  · split
    · unfold restoreTable
      split <;> rfl
    · obtain ⟨w, hw, -⟩ := restoreRuns_eq (s.readBytes _ r) s
      rw [pending_endStartup, hw, pending_setPumps]

theorem pending_advance : (advance s).pending = s.pending := by
  have hticked : s.ticked.pending = s.pending := by rw [ticked_eq]
  cases hb : s.ticked.boundary with
  | none => rw [advance_within hb, hticked]
  | some i => rw [advance_boundary hb, pending_latch _ keeps_live, hticked]

/-! ### Expiries -/

theorem pending_startUnconfirmed (p : PumpId) : (startUnconfirmed p s).pending = s.pending := by
  have hfailed (b : Bool) (t : State) :
      (onlyIf b (modPump p fun q => { q with service := .failed }) t).pending = t.pending :=
    pending_onlyIf t b fun _ => rfl
  simp [startUnconfirmed, keeps_live, hfailed]

theorem pending_stopUnconfirmed (p : PumpId) : (stopUnconfirmed p s).pending = s.pending := by
  unfold stopUnconfirmed
  split <;> simp [keeps_live]

theorem pending_historyAged (p : PumpId) : (historyAged p s).pending = s.pending := pending_markPump _ p

theorem pending_takeHouseMark (h : HouseId) : (takeHouseMark h s).pending = s.pending := by
  unfold takeHouseMark
  split
  · exact pending_of_apartHouse (apartHouse_takeMark _ h keeps_live)
  · rfl

theorem pending_passPhase (h : HouseId) : (passPhase h s).pending = s.pending :=
  pending_of_apartHouse (apartHouse_passPhase s h)

theorem pending_requestAged (h : HouseId) : (requestAged h s).pending = s.pending := pending_consider _ keeps_live

/-! ### The commands -/

/-- Settles O2: each command is one total operation of the model, and that operation leaves the queue. -/
theorem everyCommandActs : Obligations.EveryCommandActs := by
  intro c s
  cases c with
  | powerUp a f r => exact ⟨_, rfl, rfl⟩
  | frameArrival p b => exact ⟨_, rfl, pending_receiveByte s p b⟩
  | badLengthByte p b => exact ⟨_, rfl, pending_receiveByte s p b⟩
  | gapExpiry p => exact ⟨_, rfl, pending_abandonFrame s p⟩
  | framingError p => exact ⟨_, rfl, pending_abandonFrame s p⟩
  | mgmtRequestMalformed records =>
    refine ⟨_, rfl, ?_⟩
    split
    · rfl
    · exact pending_takeRequest s _
  | readTable a b n => exact ⟨_, rfl, pending_asked s _ (keepsQueue_readTable a b n)⟩
  | writeTable a b n e => exact ⟨_, rfl, pending_asked s _ (keepsQueue_writeTable a b n e)⟩
  | readLive a b => exact ⟨_, rfl, pending_asked s _ (keepsQueue_readLive a b)⟩
  | setTime d x => exact ⟨_, rfl, pending_asked s _ (keepsQueue_setTime _ _)⟩
  | engineStart => exact ⟨_, rfl, pending_asked s _ keepsQueue_askStart⟩
  | engineStop => exact ⟨_, rfl, pending_asked s _ keepsQueue_askStop⟩
  | houseMode h m => exact ⟨_, rfl, pending_asked s _ (keepsQueue_askMode h m)⟩
  | pumpServiceReturn p => exact ⟨_, rfl, pending_asked s _ (keepsQueue_serviceAction p 0)⟩
  | pumpServiceWithdraw p => exact ⟨_, rfl, pending_asked s _ (keepsQueue_serviceAction p 1)⟩
  | setRunSeconds p v => exact ⟨_, rfl, pending_asked s _ (keepsQueue_askRunSeconds p _)⟩
  | alarmAck a o => exact ⟨_, rfl, pending_asked s _ (keepsQueue_askAckByte a o)⟩
  | alarmAckAll o => exact ⟨_, rfl, pending_asked s _ keepsQueue_askAckAll⟩
  | relatch => exact ⟨_, rfl, pending_asked s _ keepsQueue_askRelatch⟩
  | save => exact ⟨_, rfl, pending_asked s _ keepsQueue_askSave⟩
  | restart => exact ⟨_, rfl, pending_asked s _ keepsQueue_askRestart⟩
  | storeImageWritten => exact ⟨_, rfl, pending_imageWritten s⟩
  | storeFault => exact ⟨_, rfl, pending_saveFault s⟩
  | restoreImageRead r => exact ⟨_, rfl, pending_imageRead s r⟩
  | engineSecondAdvance => exact ⟨_, rfl, pending_advance s⟩
  | automaticStart => exact ⟨_, rfl, pending_whenDue s _ pending_autoRun⟩
  | silenceExpiry r => exact ⟨_, rfl, pending_whenDue s _ fun t => pending_silenceOver t r⟩
  | lossExpiry r => exact ⟨_, rfl, pending_whenDue s _ fun t => pending_loseLevel t r⟩
  | estimateStep r => exact ⟨_, rfl, pending_whenDue s _ fun t => pending_estimateOnce t r⟩
  | stationSilenceExpiry h => exact ⟨_, rfl, pending_whenDue s _ fun t => pending_stationSilenced t h⟩
  | startConfirmExpiry p => exact ⟨_, rfl, pending_whenDue s _ fun t => pending_startUnconfirmed t p⟩
  | stopConfirmExpiry p => exact ⟨_, rfl, pending_whenDue s _ fun t => pending_stopUnconfirmed t p⟩
  | minRunExpiry p => exact ⟨_, rfl, pending_whenDue s _ fun t => pending_minRunOver t p⟩
  | minOffExpiry p => exact ⟨_, rfl, pending_whenDue s _ fun t => pending_minOffOver t p⟩
  | historyAgeing p => exact ⟨_, rfl, pending_whenDue s _ fun t => pending_historyAged t p⟩
  | houseEvaluation h => exact ⟨_, rfl, pending_takeHouseMark s h⟩
  | staggerExpiry h => exact ⟨_, rfl, pending_whenDue s _ fun _ => rfl⟩
  | fallbackPhaseExpiry h => exact ⟨_, rfl, pending_whenDue s _ fun t => pending_passPhase t h⟩
  | rotationExpiry h => exact ⟨_, rfl, pending_whenDue s _ fun _ => rfl⟩
  | requestAgeingExpiry h => exact ⟨_, rfl, pending_whenDue s _ fun t => pending_requestAged t h⟩
  | grantGapExpiry => exact ⟨_, rfl, pending_whenDue s _ fun t => pending_consider t keeps_live⟩
  | refreshExpiry h => exact ⟨_, rfl, pending_whenDue s _ fun t => pending_derive t keeps_live true h⟩
  | transmitCompletion p => exact ⟨_, rfl, pending_completeTx s p⟩
  | receivedByte p b => exact ⟨_, rfl, pending_receiveByte s p b⟩

end

end Sys2Proof.Machine
